-- ==== Sys2Proof/Word.lean ====
section
/-! DEFINITION. The byte carried by the links and the message line, and the instant of run time. -/

namespace Sys2Proof

/-- One byte of a link frame or of the reference message. -/
abbrev Byte := BitVec 8

/-- An instant: milliseconds since cold start, never wrapped. The device's 32-bit run time is the
instant modulo 2^32 (R2; assumption 4). -/
abbrev Instant := Nat

end Sys2Proof
end

