-- ==== Sys2Proof/Config.lean ====
section
/-! DEFINITION. The constants of the part, and the free values: what the manual leaves open. -/

namespace Sys2Proof.Config

/-- Nominal second in oscillator counts (spec/01, constants table). -/
def nominalSecond : Int := 4194304
/-- S_max, the largest slew applied to one second. -/
def slewMax : Int := 4194
/-- W_lock, the lock window. -/
def lockWindow : Int := 4194
/-- W_step, the step threshold. -/
def stepThreshold : Int := 419430
/-- The bound of the frequency trim F. -/
def trimMax : Int := 26214400
/-- Spurious guard, ms. -/
def spuriousGuard : Nat := 500
/-- Message window, ms. -/
def messageWindow : Nat := 1200
/-- Missed limit, seconds. -/
def missedLimit : Nat := 8
/-- Holdover limit, local seconds. -/
def holdoverLimit : Nat := 86400
/-- The identity code of the part (R196). -/
def identity : Nat := 0x7416

/-- FREE VALUE (assumption 6). Whether two points exactly half a circle apart have a positive signed
difference. "The signed difference of least magnitude" (R22, R31, R126, R150) does not say. -/
opaque halfCirclePositive : Bool

/-- FREE VALUE (assumption 7). Whether a time step above +120 s that lands on the first second of a
quarter is taken before that quarter's boundary. R127: "either as a step or as a boundary". -/
opaque quarterStepFirst : Bool

/-- FREE VALUE (assumption 8). What is sent of a response payload that no frame can carry (more than
248 bytes, R190). Only EVENT_READ can compose one. -/
opaque oversizePayload : List Byte → List Byte

end Sys2Proof.Config
end

