-- ==== Sys2Proof/Syntax.lean ====
section
/-! DEFINITION. The commands of the T16: one constructor per row of spec/opcode_table.json.
Events name the dial, bell, session, toll, tune or channel they befall (numbered from 0 here, from 1
in the manual). Requests carry the port they arrive at, the frame's tag and the fields of their
payload as the numbers received (R204), so that range checks are made by the meanings. -/

namespace Sys2Proof

/-- The three link ports (spec/00). -/
inductive Port where
  | l1 | l2 | l3
deriving DecidableEq, Repr

/-- The two limit contacts of a guard: GUARDn_AT_ENG and GUARDn_AT_DIS (R70). -/
inductive Contact where
  | engaged | disengaged
deriving DecidableEq, Repr

/-- A date and class pair of DAYCLASS_WRITE (R38). -/
structure DatePair where
  year : Nat
  month : Nat
  day : Nat
  cls : Nat
deriving DecidableEq, Repr

/-- A note of TUNE_WRITE (spec/12, 12.4). -/
structure RawNote where
  bell : Nat
  offset : Nat
deriving DecidableEq, Repr

/-- A sunrise and sunset pair of SUN_WRITE; 0xFFFF is UNSET (R204). -/
structure SunPair where
  rise : Nat
  set : Nat
deriving DecidableEq, Repr

/-- The payload of BELL_CONFIG (R81; assumption 17 for the timing values). -/
structure BellArgs where
  bell : Nat
  revision : Nat
  hammer : Nat
  guard : Nat
  drive : Nat
  sensor : Nat
  policy : Nat
  substitute : Nat
  width : Nat
  recovery : Nat
  travel : Nat
  period : Nat
  settle : Nat
deriving DecidableEq, Repr

/-- The payload of DIAL_CONFIG (R61). -/
structure DialArgs where
  dial : Nat
  revision : Nat
  fitted : Nat
  confirm : Nat
  width : Nat
  fast : Nat
  hold : Nat
deriving DecidableEq, Repr

/-- The payload of PLAN_WRITE (R123). -/
structure PlanArgs where
  plan : Nat
  revision : Nat
  first : Nat
  second : Nat
  third : Nat
  hour : Nat
  bell : Nat
  gap : Nat
  pace : Nat
deriving DecidableEq, Repr

/-- The payload of EVENT_WRITE (R158, R204): every field stands at its place whatever the choices. -/
structure EventArgs where
  event : Nat
  revision : Nat
  kind : Nat
  selector : Nat
  weekdays : Nat
  classes : Nat
  year : Nat
  month : Nat
  day : Nat
  anchor : Nat
  minute : Nat
  sunOffset : Int
  duration : Nat
  ringMask : Nat
  stagger : Nat
  tollBell : Nat
  interval : Nat
  count : Nat
  tune : Nat
  channels : Nat
  scope : Nat
deriving DecidableEq, Repr

/-- The payload of LIGHT_CONFIG (R176); 0xFFFF in warm-up or restrike is DEFAULT. -/
structure LightArgs where
  channel : Nat
  revision : Nat
  configured : Nat
  kind : Nat
  warmUp : Nat
  restrike : Nat
  follow : Nat
  sense : Nat
deriving DecidableEq, Repr

/-- The commands, in the order of spec/opcode_table.json. -/
inductive Instr where
  | coldStart
  | localSecondBoundary
  | missedLimit
  | holdoverLimit
  | offsetChangeApplied
  | refPulse
  | refMessageReceived (bytes : List Byte)
  | refMessageGapTimeout
  | refMessageExpired
  | heldQuarterExpiry
  | dialImpulseStart (d : Fin 4)
  | dialImpulseEnd (d : Fin 4)
  | dialConfChange (d : Fin 4) (closed : Bool)
  | guardContactChange (b : Fin 16) (c : Contact) (closed : Bool)
  | guardContactSettled (b : Fin 16) (c : Contact)
  | guardTravelTimeout (b : Fin 16)
  | sensorPulse (b : Fin 16)
  | driftSettled (b : Fin 16)
  | stopSettled (b : Fin 16)
  | startTimeout (b : Fin 16)
  | swingLost (b : Fin 16)
  | sessionStartSlot (n : Fin 4)
  | sessionEndTime (n : Fin 4)
  | sessionStopSlot (n : Fin 4)
  | strikeEntryDue
  | hammerRecoveryEnd (b : Fin 16)
  | hammerPulseEnd (b : Fin 16)
  | tollEndTime (t : Fin 4)
  | tuneEditTimeout (t : Fin 24)
  | overrideExpiry (c : Fin 8)
  | warmupEnd (c : Fin 8)
  | restrikeExpiry (c : Fin 8)
  | senseWatchStart (c : Fin 8)
  | lampSenseChange (c : Fin 8) (current : Bool)
  | lampFailed (c : Fin 8)
  | mainsOkChange (high : Bool)
  | mainsLost
  | mainsRestored
  | battLowChange (asserted : Bool)
  | batteryLowSettled
  | resetNChange (high : Bool)
  | warmResetEntry
  | warmResetCompletion
  | frameComplete (p : Port) (bytes : List Byte)
  | frameGapTimeout (p : Port)
  | responseSent (p : Port)
  | holdoffEnd (p : Port)
  | partStatus (p : Port) (tag : Byte)
  | noticeFetch (p : Port) (tag : Byte)
  | noticeRouteSet (p : Port) (tag : Byte) (routing enable holdoff : Nat)
  | portReset (p : Port) (tag : Byte)
  | partConfig (p : Port) (tag : Byte) (share : Nat)
  | timeRead (p : Port) (tag : Byte)
  | timeSet (p : Port) (tag : Byte) (day sec : Nat)
  | refModeSet (p : Port) (tag : Byte) (mode : Nat)
  | timeFaultsClear (p : Port) (tag : Byte)
  | offsetSet (p : Port) (tag : Byte) (offset : Int) (day sec : Nat)
  | civilConfig (p : Port) (tag : Byte) (cls : Nat)
  | dayclassRead (p : Port) (tag : Byte) (first : Nat)
  | dayclassWrite (p : Port) (tag : Byte) (revision replace : Nat) (pairs : List DatePair)
  | sunRead (p : Port) (tag : Byte) (first count : Nat)
  | sunWrite (p : Port) (tag : Byte) (revision first : Nat) (entries : List SunPair)
  | dialRead (p : Port) (tag : Byte) (dial : Nat)
  | dialSet (p : Port) (tag : Byte) (dial position polarity : Nat)
  | dialStop (p : Port) (tag : Byte) (dial : Nat)
  | dialStart (p : Port) (tag : Byte) (dial : Nat)
  | dialConfig (p : Port) (tag : Byte) (args : DialArgs)
  | bellRead (p : Port) (tag : Byte) (bell : Nat)
  | bellConfig (p : Port) (tag : Byte) (args : BellArgs)
  | claim (p : Port) (tag : Byte) (kind mask : Nat)
  | release (p : Port) (tag : Byte) (mask : Nat)
  | bellFaultClear (p : Port) (tag : Byte) (bell : Nat)
  | ringRead (p : Port) (tag : Byte) (session : Nat)
  | ringStart (p : Port) (tag : Byte) (mask stagger duration : Nat)
  | ringCancel (p : Port) (tag : Byte) (session : Nat)
  | tuneRead (p : Port) (tag : Byte) (tune first count : Nat)
  | tuneOpen (p : Port) (tag : Byte) (tune length revision : Nat)
  | tuneWrite (p : Port) (tag : Byte) (tune first : Nat) (notes : List RawNote)
  | tuneClose (p : Port) (tag : Byte) (tune : Nat)
  | tuneAbort (p : Port) (tag : Byte) (tune : Nat)
  | tuneDelete (p : Port) (tag : Byte) (tune revision : Nat)
  | planRead (p : Port) (tag : Byte) (plan : Nat)
  | planWrite (p : Port) (tag : Byte) (args : PlanArgs)
  | strikeStatus (p : Port) (tag : Byte) (first : Nat)
  | strike (p : Port) (tag : Byte) (bell count interval : Nat)
  | tollStart (p : Port) (tag : Byte) (bell interval count minutes : Nat)
  | tollStop (p : Port) (tag : Byte) (bell : Nat)
  | silenceSet (p : Port) (tag : Byte) (value : Nat)
  | eventRead (p : Port) (tag : Byte) (event : Nat)
  | eventWrite (p : Port) (tag : Byte) (args : EventArgs)
  | eventDelete (p : Port) (tag : Byte) (event revision : Nat)
  | lightRead (p : Port) (tag : Byte) (channel : Nat)
  | lightConfig (p : Port) (tag : Byte) (args : LightArgs)
  | lightOverride (p : Port) (tag : Byte) (channel mode untilMinute : Nat)
  | lightFaultClear (p : Port) (tag : Byte) (channel : Nat)
  | frameLengthRejected (p : Port) (length : Byte)
deriving DecidableEq, Repr

/-- The requests of the T16, by name (spec/12, 12.2). -/
inductive Req where
  | partStatus | noticeFetch | noticeRouteSet | portReset | partConfig
  | timeRead | timeSet | refModeSet | timeFaultsClear | offsetSet
  | civilConfig | dayclassRead | dayclassWrite | sunRead | sunWrite
  | dialRead | dialSet | dialStop | dialStart | dialConfig
  | bellRead | bellConfig | claim | release | bellFaultClear
  | ringRead | ringStart | ringCancel
  | tuneRead | tuneOpen | tuneWrite | tuneClose | tuneAbort | tuneDelete
  | planRead | planWrite
  | strikeStatus | strike | tollStart | tollStop | silenceSet
  | eventRead | eventWrite | eventDelete
  | lightRead | lightConfig | lightOverride | lightFaultClear
deriving DecidableEq, Repr

end Sys2Proof
end

