-- ==== Sys2Proof/WellFormed.lean ====
section
/-! DEFINITION. Well-formed commands: every field of a request fits the bytes its layout gives it
(R204, spec/12) and the payload fits a frame (R190: at most 248 bytes). A command that is not
well-formed is one no frame can carry; the meanings are total on it all the same. -/

namespace Sys2Proof.WellFormed

/-- A field of one byte. -/
abbrev fits1 (n : Nat) : Bool := n < 256
/-- A field of two bytes. -/
abbrev fits2 (n : Nat) : Bool := n < 65536
/-- A field of three bytes, the second of a label. -/
abbrev fits3 (n : Nat) : Bool := n < 16777216
/-- A signed field of two bytes. -/
abbrev fitsSigned2 (z : Int) : Bool := -32768 ≤ z ∧ z < 32768

def datePair (d : DatePair) : Bool := fits2 d.year && fits1 d.month && fits1 d.day && fits1 d.cls
def rawNote (n : RawNote) : Bool := fits1 n.bell && fits2 n.offset
def sunPair (e : SunPair) : Bool := fits2 e.rise && fits2 e.set

def bellArgs (a : BellArgs) : Bool :=
  fits1 a.bell && fits1 a.revision && fits1 a.hammer && fits1 a.guard && fits1 a.drive && fits1 a.sensor &&
  fits1 a.policy && fits1 a.substitute && fits1 a.width && fits2 a.recovery && fits1 a.travel &&
  fits2 a.period && fits1 a.settle

def dialArgs (a : DialArgs) : Bool :=
  fits1 a.dial && fits1 a.revision && fits1 a.fitted && fits1 a.confirm && fits2 a.width && fits1 a.fast && fits2 a.hold

def planArgs (a : PlanArgs) : Bool :=
  fits1 a.plan && fits1 a.revision && fits1 a.first && fits1 a.second && fits1 a.third && fits1 a.hour &&
  fits1 a.bell && fits2 a.gap && fits2 a.pace

def eventArgs (a : EventArgs) : Bool :=
  fits1 a.event && fits1 a.revision && fits1 a.kind && fits1 a.selector && fits1 a.weekdays && fits1 a.classes &&
  fits2 a.year && fits1 a.month && fits1 a.day && fits1 a.anchor && fits2 a.minute && fitsSigned2 a.sunOffset &&
  fits2 a.duration && fits2 a.ringMask && fits1 a.stagger && fits1 a.tollBell && fits1 a.interval && fits2 a.count &&
  fits1 a.tune && fits1 a.channels && fits1 a.scope

def lightArgs (a : LightArgs) : Bool :=
  fits1 a.channel && fits1 a.revision && fits1 a.configured && fits1 a.kind && fits2 a.warmUp && fits2 a.restrike &&
  fits1 a.follow && fits1 a.sense

end Sys2Proof.WellFormed

namespace Sys2Proof

/-- Every field of the command fits its width; lists fit a frame. Events are well-formed by their types. -/
def Instr.wellFormed : Instr → Bool
  | .noticeRouteSet _ _ r e h => WellFormed.fits1 r && WellFormed.fits1 e && WellFormed.fits1 h
  | .partConfig _ _ k => WellFormed.fits1 k
  | .timeSet _ _ d s => WellFormed.fits2 d && WellFormed.fits3 s
  | .refModeSet _ _ m => WellFormed.fits1 m
  | .offsetSet _ _ o d s => WellFormed.fitsSigned2 o && WellFormed.fits2 d && WellFormed.fits3 s
  | .civilConfig _ _ c => WellFormed.fits1 c
  | .dayclassRead _ _ f => WellFormed.fits1 f
  | .dayclassWrite _ _ r f ps => WellFormed.fits1 r && WellFormed.fits1 f && ps.length ≤ 49 && ps.all WellFormed.datePair
  | .sunRead _ _ f c => WellFormed.fits2 f && WellFormed.fits1 c
  | .sunWrite _ _ r f es => WellFormed.fits1 r && WellFormed.fits2 f && es.length ≤ 61 && es.all WellFormed.sunPair
  | .dialRead _ _ d => WellFormed.fits1 d
  | .dialSet _ _ d p q => WellFormed.fits1 d && WellFormed.fits2 p && WellFormed.fits1 q
  | .dialStop _ _ d => WellFormed.fits1 d
  | .dialStart _ _ d => WellFormed.fits1 d
  | .dialConfig _ _ a => WellFormed.dialArgs a
  | .bellRead _ _ b => WellFormed.fits1 b
  | .bellConfig _ _ a => WellFormed.bellArgs a
  | .claim _ _ k m => WellFormed.fits1 k && WellFormed.fits2 m
  | .release _ _ m => WellFormed.fits2 m
  | .bellFaultClear _ _ b => WellFormed.fits1 b
  | .ringRead _ _ n => WellFormed.fits1 n
  | .ringStart _ _ m s d => WellFormed.fits2 m && WellFormed.fits1 s && WellFormed.fits1 d
  | .ringCancel _ _ n => WellFormed.fits1 n
  | .tuneRead _ _ t f c => WellFormed.fits1 t && WellFormed.fits1 f && WellFormed.fits1 c
  | .tuneOpen _ _ t n r => WellFormed.fits1 t && WellFormed.fits1 n && WellFormed.fits1 r
  | .tuneWrite _ _ t f ns => WellFormed.fits1 t && WellFormed.fits1 f && ns.length ≤ 81 && ns.all WellFormed.rawNote
  | .tuneClose _ _ t => WellFormed.fits1 t
  | .tuneAbort _ _ t => WellFormed.fits1 t
  | .tuneDelete _ _ t r => WellFormed.fits1 t && WellFormed.fits1 r
  | .planRead _ _ p => WellFormed.fits1 p
  | .planWrite _ _ a => WellFormed.planArgs a
  | .strikeStatus _ _ f => WellFormed.fits1 f
  | .strike _ _ b c i => WellFormed.fits1 b && WellFormed.fits1 c && WellFormed.fits2 i
  | .tollStart _ _ b i c m => WellFormed.fits1 b && WellFormed.fits1 i && WellFormed.fits2 c && WellFormed.fits1 m
  | .tollStop _ _ b => WellFormed.fits1 b
  | .silenceSet _ _ v => WellFormed.fits1 v
  | .eventRead _ _ e => WellFormed.fits1 e
  | .eventWrite _ _ a => WellFormed.eventArgs a
  | .eventDelete _ _ e r => WellFormed.fits1 e && WellFormed.fits1 r
  | .lightRead _ _ c => WellFormed.fits1 c
  | .lightConfig _ _ a => WellFormed.lightArgs a
  | .lightOverride _ _ c m u => WellFormed.fits1 c && WellFormed.fits1 m && WellFormed.fits2 u
  | .lightFaultClear _ _ c => WellFormed.fits1 c
  | .coldStart | .localSecondBoundary | .missedLimit | .holdoverLimit | .offsetChangeApplied | .refPulse
  | .refMessageReceived _ | .refMessageGapTimeout | .refMessageExpired | .heldQuarterExpiry | .dialImpulseStart _
  | .dialImpulseEnd _ | .dialConfChange _ _ | .guardContactChange _ _ _ | .guardContactSettled _ _
  | .guardTravelTimeout _ | .sensorPulse _ | .driftSettled _ | .stopSettled _ | .startTimeout _ | .swingLost _
  | .sessionStartSlot _ | .sessionEndTime _ | .sessionStopSlot _ | .strikeEntryDue | .hammerRecoveryEnd _
  | .hammerPulseEnd _ | .tollEndTime _ | .tuneEditTimeout _ | .overrideExpiry _ | .warmupEnd _ | .restrikeExpiry _
  | .senseWatchStart _ | .lampSenseChange _ _ | .lampFailed _ | .mainsOkChange _ | .mainsLost | .mainsRestored
  | .battLowChange _ | .batteryLowSettled | .resetNChange _ | .warmResetEntry | .warmResetCompletion
  | .frameComplete _ _ | .frameGapTimeout _ | .responseSent _ | .holdoffEnd _ | .partStatus _ _ | .noticeFetch _ _
  | .portReset _ _ | .timeRead _ _ | .timeFaultsClear _ _ | .frameLengthRejected _ _ => true

end Sys2Proof
end

