-- ==== Sys2Proof/Decode.lean ====
section
/-! DEFINITION. The coding of requests: request codes, the ports that may make each request, the layouts
of the payloads (spec/12, R204), decoded and encoded. No row of spec/opcode_table.json gives bits, so
decodeTableWord answers none. -/

namespace Sys2Proof

/-- The command a table word spells. The table gives no row any bits ("fields": [] and no fixed part in
every row), so no word spells a command. -/
def decodeTableWord (_nbits _w : Nat) : Option Instr := none

/-- A number of one byte (R204: high byte first). -/
def be1 (n : Nat) : List Byte := [BitVec.ofNat 8 n]
/-- A number of two bytes. -/
def be2 (n : Nat) : List Byte := [BitVec.ofNat 8 (n / 256), BitVec.ofNat 8 n]
/-- A number of three bytes. -/
def be3 (n : Nat) : List Byte := [BitVec.ofNat 8 (n / 65536), BitVec.ofNat 8 (n / 256), BitVec.ofNat 8 n]
/-- A number of four bytes. -/
def be4 (n : Nat) : List Byte :=
  [BitVec.ofNat 8 (n / 16777216), BitVec.ofNat 8 (n / 65536), BitVec.ofNat 8 (n / 256), BitVec.ofNat 8 n]
/-- A signed number of two bytes, two's complement. -/
def beS2 (z : Int) : List Byte := be2 (BitVec.ofInt 16 z).toNat
/-- A signed number of four bytes, two's complement. -/
def beS4 (z : Int) : List Byte := be4 (BitVec.ofInt 32 z).toNat

/-- The byte at a place of a payload. -/
def rd1 (bs : List Byte) (i : Nat) : Nat := (bs.getD i 0).toNat
/-- The two-byte number at a place. -/
def rd2 (bs : List Byte) (i : Nat) : Nat := rd1 bs i * 256 + rd1 bs (i + 1)
/-- The three-byte number at a place. -/
def rd3 (bs : List Byte) (i : Nat) : Nat := rd1 bs i * 65536 + rd1 bs (i + 1) * 256 + rd1 bs (i + 2)
/-- The signed two-byte number at a place. -/
def rdS2 (bs : List Byte) (i : Nat) : Int := (BitVec.ofNat 16 (rd2 bs i)).toInt

/-- The request code of a request (spec/12, 12.2). -/
def Req.code : Req → Byte
  | .partStatus => 0x00
  | .noticeFetch => 0x01
  | .noticeRouteSet => 0x02
  | .portReset => 0x03
  | .partConfig => 0x04
  | .timeRead => 0x10
  | .timeSet => 0x11
  | .refModeSet => 0x12
  | .timeFaultsClear => 0x13
  | .offsetSet => 0x14
  | .civilConfig => 0x18
  | .dayclassRead => 0x19
  | .dayclassWrite => 0x1A
  | .sunRead => 0x1B
  | .sunWrite => 0x1C
  | .dialRead => 0x20
  | .dialSet => 0x21
  | .dialStop => 0x22
  | .dialStart => 0x23
  | .dialConfig => 0x24
  | .bellRead => 0x30
  | .bellConfig => 0x31
  | .claim => 0x32
  | .release => 0x33
  | .bellFaultClear => 0x34
  | .ringRead => 0x38
  | .ringStart => 0x39
  | .ringCancel => 0x3A
  | .tuneRead => 0x40
  | .tuneOpen => 0x41
  | .tuneWrite => 0x42
  | .tuneClose => 0x43
  | .tuneAbort => 0x44
  | .tuneDelete => 0x45
  | .planRead => 0x48
  | .planWrite => 0x49
  | .strikeStatus => 0x50
  | .strike => 0x51
  | .tollStart => 0x52
  | .tollStop => 0x53
  | .silenceSet => 0x54
  | .eventRead => 0x60
  | .eventWrite => 0x61
  | .eventDelete => 0x62
  | .lightRead => 0x70
  | .lightConfig => 0x71
  | .lightOverride => 0x72
  | .lightFaultClear => 0x73

/-- The requests in the order of their codes. -/
def Req.all : List Req :=
  [.partStatus, .noticeFetch, .noticeRouteSet, .portReset, .partConfig, .timeRead, .timeSet, .refModeSet]
  ++ [.timeFaultsClear, .offsetSet, .civilConfig, .dayclassRead, .dayclassWrite, .sunRead, .sunWrite, .dialRead]
  ++ [.dialSet, .dialStop, .dialStart, .dialConfig, .bellRead, .bellConfig, .claim, .release]
  ++ [.bellFaultClear, .ringRead, .ringStart, .ringCancel, .tuneRead, .tuneOpen, .tuneWrite, .tuneClose]
  ++ [.tuneAbort, .tuneDelete, .planRead, .planWrite, .strikeStatus, .strike, .tollStart, .tollStop]
  ++ [.silenceSet, .eventRead, .eventWrite, .eventDelete, .lightRead, .lightConfig, .lightOverride, .lightFaultClear]

/-- The request a code names, or none: "Every code not in the table is unknown." -/
def Req.ofCode (c : Byte) : Option Req := Req.all.find? (fun r => r.code == c)

/-- The permissions of the three roles (spec/11, 11.2). The role check of CLAIM is on the kind it
carries: the port check passes every CLAIM from L1 and L2 (R192). -/
def Req.permits : Req → Port → Bool
  | .partConfig, p => p == .l1
  | .refModeSet, p => p == .l1
  | .offsetSet, p => p == .l1
  | .civilConfig, p => p == .l1
  | .dayclassWrite, p => p == .l1
  | .dialConfig, p => p == .l1
  | .bellConfig, p => p == .l1
  | .ringStart, p => p == .l1
  | .tuneOpen, p => p == .l1
  | .tuneWrite, p => p == .l1
  | .tuneClose, p => p == .l1
  | .tuneAbort, p => p == .l1
  | .tuneDelete, p => p == .l1
  | .planWrite, p => p == .l1
  | .eventWrite, p => p == .l1
  | .eventDelete, p => p == .l1
  | .timeSet, .l3 => false
  | .timeSet, _ => true
  | .timeFaultsClear, .l3 => false
  | .timeFaultsClear, _ => true
  | .dialSet, .l3 => false
  | .dialSet, _ => true
  | .dialStop, .l3 => false
  | .dialStop, _ => true
  | .dialStart, .l3 => false
  | .dialStart, _ => true
  | .claim, .l3 => false
  | .claim, _ => true
  | .release, .l3 => false
  | .release, _ => true
  | .bellFaultClear, .l3 => false
  | .bellFaultClear, _ => true
  | .ringCancel, .l3 => false
  | .ringCancel, _ => true
  | .tollStart, .l3 => false
  | .tollStart, _ => true
  | .tollStop, .l3 => false
  | .tollStop, _ => true
  | .sunWrite, .l2 => false
  | .sunWrite, _ => true
  | .lightConfig, .l2 => false
  | .lightConfig, _ => true
  | .lightFaultClear, .l2 => false
  | .lightFaultClear, _ => true
  | .strike, p => p == .l2
  | .silenceSet, p => p == .l2
  | .lightOverride, p => p == .l3
  | .partStatus, _ => true
  | .noticeFetch, _ => true
  | .noticeRouteSet, _ => true
  | .portReset, _ => true
  | .timeRead, _ => true
  | .dayclassRead, _ => true
  | .sunRead, _ => true
  | .dialRead, _ => true
  | .bellRead, _ => true
  | .ringRead, _ => true
  | .tuneRead, _ => true
  | .planRead, _ => true
  | .strikeStatus, _ => true
  | .eventRead, _ => true
  | .lightRead, _ => true

/-- The fixed length of a request's payload, or for a request with a list the place of its count, the
length before the items and the length of an item (R204). -/
def Req.lengthOk : Req → List Byte → Bool
  | .partStatus, bs => bs.length == 0
  | .noticeFetch, bs => bs.length == 0
  | .noticeRouteSet, bs => bs.length == 3
  | .portReset, bs => bs.length == 0
  | .partConfig, bs => bs.length == 1
  | .timeRead, bs => bs.length == 0
  | .timeSet, bs => bs.length == 5
  | .refModeSet, bs => bs.length == 1
  | .timeFaultsClear, bs => bs.length == 0
  | .offsetSet, bs => bs.length == 7
  | .civilConfig, bs => bs.length == 1
  | .dayclassRead, bs => bs.length == 1
  | .dayclassWrite, bs => 3 ≤ bs.length && bs.length == 3 + 5 * rd1 bs 2
  | .sunRead, bs => bs.length == 3
  | .sunWrite, bs => 4 ≤ bs.length && bs.length == 4 + 4 * rd1 bs 3
  | .dialRead, bs => bs.length == 1
  | .dialSet, bs => bs.length == 4
  | .dialStop, bs => bs.length == 1
  | .dialStart, bs => bs.length == 1
  | .dialConfig, bs => bs.length == 9
  | .bellRead, bs => bs.length == 1
  | .bellConfig, bs => bs.length == 15
  | .claim, bs => bs.length == 3
  | .release, bs => bs.length == 2
  | .bellFaultClear, bs => bs.length == 1
  | .ringRead, bs => bs.length == 1
  | .ringStart, bs => bs.length == 4
  | .ringCancel, bs => bs.length == 1
  | .tuneRead, bs => bs.length == 3
  | .tuneOpen, bs => bs.length == 3
  | .tuneWrite, bs => 3 ≤ bs.length && bs.length == 3 + 3 * rd1 bs 2
  | .tuneClose, bs => bs.length == 1
  | .tuneAbort, bs => bs.length == 1
  | .tuneDelete, bs => bs.length == 2
  | .planRead, bs => bs.length == 1
  | .planWrite, bs => bs.length == 11
  | .strikeStatus, bs => bs.length == 1
  | .strike, bs => bs.length == 4
  | .tollStart, bs => bs.length == 5
  | .tollStop, bs => bs.length == 1
  | .silenceSet, bs => bs.length == 1
  | .eventRead, bs => bs.length == 1
  | .eventWrite, bs => bs.length == 27
  | .eventDelete, bs => bs.length == 2
  | .lightRead, bs => bs.length == 1
  | .lightConfig, bs => bs.length == 10
  | .lightOverride, bs => bs.length == 4
  | .lightFaultClear, bs => bs.length == 1

/-- The command a payload of the right length spells. -/
def Req.fields (p : Port) (tag : Byte) (bs : List Byte) : Req → Instr
  | .partStatus => .partStatus p tag
  | .noticeFetch => .noticeFetch p tag
  | .noticeRouteSet => .noticeRouteSet p tag (rd1 bs 0) (rd1 bs 1) (rd1 bs 2)
  | .portReset => .portReset p tag
  | .partConfig => .partConfig p tag (rd1 bs 0)
  | .timeRead => .timeRead p tag
  | .timeSet => .timeSet p tag (rd2 bs 0) (rd3 bs 2)
  | .refModeSet => .refModeSet p tag (rd1 bs 0)
  | .timeFaultsClear => .timeFaultsClear p tag
  | .offsetSet => .offsetSet p tag (rdS2 bs 0) (rd2 bs 2) (rd3 bs 4)
  | .civilConfig => .civilConfig p tag (rd1 bs 0)
  | .dayclassRead => .dayclassRead p tag (rd1 bs 0)
  | .dayclassWrite => .dayclassWrite p tag (rd1 bs 0) (rd1 bs 1) ((List.range (rd1 bs 2)).map fun i =>
      { year := rd2 bs (3 + 5 * i), month := rd1 bs (5 + 5 * i), day := rd1 bs (6 + 5 * i), cls := rd1 bs (7 + 5 * i) })
  | .sunRead => .sunRead p tag (rd2 bs 0) (rd1 bs 2)
  | .sunWrite => .sunWrite p tag (rd1 bs 0) (rd2 bs 1) ((List.range (rd1 bs 3)).map fun i =>
      { rise := rd2 bs (4 + 4 * i), set := rd2 bs (6 + 4 * i) })
  | .dialRead => .dialRead p tag (rd1 bs 0)
  | .dialSet => .dialSet p tag (rd1 bs 0) (rd2 bs 1) (rd1 bs 3)
  | .dialStop => .dialStop p tag (rd1 bs 0)
  | .dialStart => .dialStart p tag (rd1 bs 0)
  | .dialConfig => .dialConfig p tag
      { dial := rd1 bs 0, revision := rd1 bs 1, fitted := rd1 bs 2, confirm := rd1 bs 3, width := rd2 bs 4, fast := rd1 bs 6,
        hold := rd2 bs 7 }
  | .bellRead => .bellRead p tag (rd1 bs 0)
  | .bellConfig => .bellConfig p tag
      { bell := rd1 bs 0, revision := rd1 bs 1, hammer := rd1 bs 2, guard := rd1 bs 3, drive := rd1 bs 4, sensor := rd1 bs 5,
        policy := rd1 bs 6, substitute := rd1 bs 7, width := rd1 bs 8, recovery := rd2 bs 9, travel := rd1 bs 11, period := rd2 bs 12,
        settle := rd1 bs 14 }
  | .claim => .claim p tag (rd1 bs 0) (rd2 bs 1)
  | .release => .release p tag (rd2 bs 0)
  | .bellFaultClear => .bellFaultClear p tag (rd1 bs 0)
  | .ringRead => .ringRead p tag (rd1 bs 0)
  | .ringStart => .ringStart p tag (rd2 bs 0) (rd1 bs 2) (rd1 bs 3)
  | .ringCancel => .ringCancel p tag (rd1 bs 0)
  | .tuneRead => .tuneRead p tag (rd1 bs 0) (rd1 bs 1) (rd1 bs 2)
  | .tuneOpen => .tuneOpen p tag (rd1 bs 0) (rd1 bs 1) (rd1 bs 2)
  | .tuneWrite => .tuneWrite p tag (rd1 bs 0) (rd1 bs 1) ((List.range (rd1 bs 2)).map fun i =>
      { bell := rd1 bs (3 + 3 * i), offset := rd2 bs (4 + 3 * i) })
  | .tuneClose => .tuneClose p tag (rd1 bs 0)
  | .tuneAbort => .tuneAbort p tag (rd1 bs 0)
  | .tuneDelete => .tuneDelete p tag (rd1 bs 0) (rd1 bs 1)
  | .planRead => .planRead p tag (rd1 bs 0)
  | .planWrite => .planWrite p tag
      { plan := rd1 bs 0, revision := rd1 bs 1, first := rd1 bs 2, second := rd1 bs 3, third := rd1 bs 4, hour := rd1 bs 5,
        bell := rd1 bs 6, gap := rd2 bs 7, pace := rd2 bs 9 }
  | .strikeStatus => .strikeStatus p tag (rd1 bs 0)
  | .strike => .strike p tag (rd1 bs 0) (rd1 bs 1) (rd2 bs 2)
  | .tollStart => .tollStart p tag (rd1 bs 0) (rd1 bs 1) (rd2 bs 2) (rd1 bs 4)
  | .tollStop => .tollStop p tag (rd1 bs 0)
  | .silenceSet => .silenceSet p tag (rd1 bs 0)
  | .eventRead => .eventRead p tag (rd1 bs 0)
  | .eventWrite => .eventWrite p tag
      { event := rd1 bs 0, revision := rd1 bs 1, kind := rd1 bs 2, selector := rd1 bs 3, weekdays := rd1 bs 4, classes := rd1 bs 5,
        year := rd2 bs 6, month := rd1 bs 8, day := rd1 bs 9, anchor := rd1 bs 10, minute := rd2 bs 11, sunOffset := rdS2 bs 13,
        duration := rd2 bs 15, ringMask := rd2 bs 17, stagger := rd1 bs 19, tollBell := rd1 bs 20, interval := rd1 bs 21, count := rd2 bs 22,
        tune := rd1 bs 24, channels := rd1 bs 25, scope := rd1 bs 26 }
  | .eventDelete => .eventDelete p tag (rd1 bs 0) (rd1 bs 1)
  | .lightRead => .lightRead p tag (rd1 bs 0)
  | .lightConfig => .lightConfig p tag
      { channel := rd1 bs 0, revision := rd1 bs 1, configured := rd1 bs 2, kind := rd1 bs 3, warmUp := rd2 bs 4, restrike := rd2 bs 6,
        follow := rd1 bs 8, sense := rd1 bs 9 }
  | .lightOverride => .lightOverride p tag (rd1 bs 0) (rd1 bs 1) (rd2 bs 2)
  | .lightFaultClear => .lightFaultClear p tag (rd1 bs 0)

/-- Decode a request's payload: none where its length disagrees with the request's form (MALFORMED, R192). -/
def Req.decode (r : Req) (p : Port) (tag : Byte) (bs : List Byte) : Option Instr :=
  if r.lengthOk bs then some (r.fields p tag bs) else none

/-- Which request a command is, with its port and tag; none for an event. -/
def Instr.request : Instr → Option (Req × Port × Byte)
  | .partStatus p tag => some (.partStatus, p, tag)
  | .noticeFetch p tag => some (.noticeFetch, p, tag)
  | .noticeRouteSet p tag _ _ _ => some (.noticeRouteSet, p, tag)
  | .portReset p tag => some (.portReset, p, tag)
  | .partConfig p tag _ => some (.partConfig, p, tag)
  | .timeRead p tag => some (.timeRead, p, tag)
  | .timeSet p tag _ _ => some (.timeSet, p, tag)
  | .refModeSet p tag _ => some (.refModeSet, p, tag)
  | .timeFaultsClear p tag => some (.timeFaultsClear, p, tag)
  | .offsetSet p tag _ _ _ => some (.offsetSet, p, tag)
  | .civilConfig p tag _ => some (.civilConfig, p, tag)
  | .dayclassRead p tag _ => some (.dayclassRead, p, tag)
  | .dayclassWrite p tag _ _ _ => some (.dayclassWrite, p, tag)
  | .sunRead p tag _ _ => some (.sunRead, p, tag)
  | .sunWrite p tag _ _ _ => some (.sunWrite, p, tag)
  | .dialRead p tag _ => some (.dialRead, p, tag)
  | .dialSet p tag _ _ _ => some (.dialSet, p, tag)
  | .dialStop p tag _ => some (.dialStop, p, tag)
  | .dialStart p tag _ => some (.dialStart, p, tag)
  | .dialConfig p tag _ => some (.dialConfig, p, tag)
  | .bellRead p tag _ => some (.bellRead, p, tag)
  | .bellConfig p tag _ => some (.bellConfig, p, tag)
  | .claim p tag _ _ => some (.claim, p, tag)
  | .release p tag _ => some (.release, p, tag)
  | .bellFaultClear p tag _ => some (.bellFaultClear, p, tag)
  | .ringRead p tag _ => some (.ringRead, p, tag)
  | .ringStart p tag _ _ _ => some (.ringStart, p, tag)
  | .ringCancel p tag _ => some (.ringCancel, p, tag)
  | .tuneRead p tag _ _ _ => some (.tuneRead, p, tag)
  | .tuneOpen p tag _ _ _ => some (.tuneOpen, p, tag)
  | .tuneWrite p tag _ _ _ => some (.tuneWrite, p, tag)
  | .tuneClose p tag _ => some (.tuneClose, p, tag)
  | .tuneAbort p tag _ => some (.tuneAbort, p, tag)
  | .tuneDelete p tag _ _ => some (.tuneDelete, p, tag)
  | .planRead p tag _ => some (.planRead, p, tag)
  | .planWrite p tag _ => some (.planWrite, p, tag)
  | .strikeStatus p tag _ => some (.strikeStatus, p, tag)
  | .strike p tag _ _ _ => some (.strike, p, tag)
  | .tollStart p tag _ _ _ _ => some (.tollStart, p, tag)
  | .tollStop p tag _ => some (.tollStop, p, tag)
  | .silenceSet p tag _ => some (.silenceSet, p, tag)
  | .eventRead p tag _ => some (.eventRead, p, tag)
  | .eventWrite p tag _ => some (.eventWrite, p, tag)
  | .eventDelete p tag _ _ => some (.eventDelete, p, tag)
  | .lightRead p tag _ => some (.lightRead, p, tag)
  | .lightConfig p tag _ => some (.lightConfig, p, tag)
  | .lightOverride p tag _ _ _ => some (.lightOverride, p, tag)
  | .lightFaultClear p tag _ => some (.lightFaultClear, p, tag)
  | .coldStart | .localSecondBoundary | .missedLimit | .holdoverLimit | .offsetChangeApplied | .refPulse
  | .refMessageReceived _ | .refMessageGapTimeout | .refMessageExpired | .heldQuarterExpiry | .dialImpulseStart _ | .dialImpulseEnd _
  | .dialConfChange _ _ | .guardContactChange _ _ _ | .guardContactSettled _ _ | .guardTravelTimeout _ | .sensorPulse _ | .driftSettled _
  | .stopSettled _ | .startTimeout _ | .swingLost _ | .sessionStartSlot _ | .sessionEndTime _ | .sessionStopSlot _
  | .strikeEntryDue | .hammerRecoveryEnd _ | .hammerPulseEnd _ | .tollEndTime _ | .tuneEditTimeout _ | .overrideExpiry _
  | .warmupEnd _ | .restrikeExpiry _ | .senseWatchStart _ | .lampSenseChange _ _ | .lampFailed _ | .mainsOkChange _
  | .mainsLost | .mainsRestored | .battLowChange _ | .batteryLowSettled | .resetNChange _ | .warmResetEntry
  | .warmResetCompletion | .frameComplete _ _ | .frameGapTimeout _ | .responseSent _ | .holdoffEnd _ | .frameLengthRejected _ _ => none

/-- The payload that carries a request (R204); empty for an event. -/
def Instr.payload : Instr → List Byte
  | .partStatus _ _ => []
  | .noticeFetch _ _ => []
  | .noticeRouteSet _ _ r e h => be1 r ++ be1 e ++ be1 h
  | .portReset _ _ => []
  | .partConfig _ _ k => be1 k
  | .timeRead _ _ => []
  | .timeSet _ _ d s => be2 d ++ be3 s
  | .refModeSet _ _ m => be1 m
  | .timeFaultsClear _ _ => []
  | .offsetSet _ _ o d s => beS2 o ++ be2 d ++ be3 s
  | .civilConfig _ _ c => be1 c
  | .dayclassRead _ _ f => be1 f
  | .dayclassWrite _ _ r f ps => be1 r ++ be1 f ++ be1 ps.length ++
      ps.flatMap (fun d => be2 d.year ++ be1 d.month ++ be1 d.day ++ be1 d.cls)
  | .sunRead _ _ f c => be2 f ++ be1 c
  | .sunWrite _ _ r f es => be1 r ++ be2 f ++ be1 es.length ++ es.flatMap (fun e => be2 e.rise ++ be2 e.set)
  | .dialRead _ _ d => be1 d
  | .dialSet _ _ d p' q => be1 d ++ be2 p' ++ be1 q
  | .dialStop _ _ d => be1 d
  | .dialStart _ _ d => be1 d
  | .dialConfig _ _ a => be1 a.dial ++ be1 a.revision ++ be1 a.fitted ++ be1 a.confirm ++ be2 a.width ++ be1 a.fast ++ be2 a.hold
  | .bellRead _ _ b => be1 b
  | .bellConfig _ _ a => be1 a.bell ++ be1 a.revision ++ be1 a.hammer ++ be1 a.guard ++ be1 a.drive ++ be1 a.sensor ++ be1 a.policy ++
      be1 a.substitute ++ be1 a.width ++ be2 a.recovery ++ be1 a.travel ++ be2 a.period ++ be1 a.settle
  | .claim _ _ k m => be1 k ++ be2 m
  | .release _ _ m => be2 m
  | .bellFaultClear _ _ b => be1 b
  | .ringRead _ _ n => be1 n
  | .ringStart _ _ m s d => be2 m ++ be1 s ++ be1 d
  | .ringCancel _ _ n => be1 n
  | .tuneRead _ _ t f c => be1 t ++ be1 f ++ be1 c
  | .tuneOpen _ _ t n r => be1 t ++ be1 n ++ be1 r
  | .tuneWrite _ _ t f ns => be1 t ++ be1 f ++ be1 ns.length ++ ns.flatMap (fun n => be1 n.bell ++ be2 n.offset)
  | .tuneClose _ _ t => be1 t
  | .tuneAbort _ _ t => be1 t
  | .tuneDelete _ _ t r => be1 t ++ be1 r
  | .planRead _ _ n => be1 n
  | .planWrite _ _ a => be1 a.plan ++ be1 a.revision ++ be1 a.first ++ be1 a.second ++ be1 a.third ++ be1 a.hour ++ be1 a.bell ++
      be2 a.gap ++ be2 a.pace
  | .strikeStatus _ _ f => be1 f
  | .strike _ _ b c i => be1 b ++ be1 c ++ be2 i
  | .tollStart _ _ b i c m => be1 b ++ be1 i ++ be2 c ++ be1 m
  | .tollStop _ _ b => be1 b
  | .silenceSet _ _ v => be1 v
  | .eventRead _ _ e => be1 e
  | .eventWrite _ _ a => be1 a.event ++ be1 a.revision ++ be1 a.kind ++ be1 a.selector ++ be1 a.weekdays ++ be1 a.classes ++ be2 a.year ++
      be1 a.month ++ be1 a.day ++ be1 a.anchor ++ be2 a.minute ++ beS2 a.sunOffset ++ be2 a.duration ++ be2 a.ringMask ++
      be1 a.stagger ++ be1 a.tollBell ++ be1 a.interval ++ be2 a.count ++ be1 a.tune ++ be1 a.channels ++ be1 a.scope
  | .eventDelete _ _ e r => be1 e ++ be1 r
  | .lightRead _ _ c => be1 c
  | .lightConfig _ _ a => be1 a.channel ++ be1 a.revision ++ be1 a.configured ++ be1 a.kind ++ be2 a.warmUp ++ be2 a.restrike ++ be1 a.follow ++
      be1 a.sense
  | .lightOverride _ _ c m u => be1 c ++ be1 m ++ be2 u
  | .lightFaultClear _ _ c => be1 c
  | .coldStart | .localSecondBoundary | .missedLimit | .holdoverLimit | .offsetChangeApplied | .refPulse
  | .refMessageReceived _ | .refMessageGapTimeout | .refMessageExpired | .heldQuarterExpiry | .dialImpulseStart _ | .dialImpulseEnd _
  | .dialConfChange _ _ | .guardContactChange _ _ _ | .guardContactSettled _ _ | .guardTravelTimeout _ | .sensorPulse _ | .driftSettled _
  | .stopSettled _ | .startTimeout _ | .swingLost _ | .sessionStartSlot _ | .sessionEndTime _ | .sessionStopSlot _
  | .strikeEntryDue | .hammerRecoveryEnd _ | .hammerPulseEnd _ | .tollEndTime _ | .tuneEditTimeout _ | .overrideExpiry _
  | .warmupEnd _ | .restrikeExpiry _ | .senseWatchStart _ | .lampSenseChange _ _ | .lampFailed _ | .mainsOkChange _
  | .mainsLost | .mainsRestored | .battLowChange _ | .batteryLowSettled | .resetNChange _ | .warmResetEntry
  | .warmResetCompletion | .frameComplete _ _ | .frameGapTimeout _ | .responseSent _ | .holdoffEnd _ | .frameLengthRejected _ _ => []

end Sys2Proof
end

