-- ==== Sys2Proof/Machine/State.lean ====
section
/-! DEFINITION. The state of the T16: every register, record, queue, mark and line the manual gives it,
as plain data, with its cold value (R25, R44, R63, R64, R86, R95, R108, R120, R125, R146, R162, R184).
Bells, dials, channels, sessions, tolls, tunes and events are numbered from 0 in the arrays. -/

namespace Sys2Proof.Machine

/-- What stops the machine: nothing. The manual gives every command an effect; troubles are states,
notices and refusal statuses of the device itself. No constructor, so no step faults. -/
inductive Fault where
deriving DecidableEq, Repr

/-- Why a command has no meaning. -/
inductive Refusal where
  /-- Raised by exec's arm for a command not modelled yet, and by nothing else; safe (the model stops). -/
  | notModelled (mnemonic : String)
deriving DecidableEq, Repr

/-! ### Chapter 1: time base and reference receiver -/

/-- A reference or civil label: a day 0..65,535 and a second of the day 0..86,399. -/
structure Label where
  day : Nat
  sec : Nat
deriving DecidableEq, Repr

/-- The discipline states (R4). -/
inductive Discipline where
  | unset | free | acquire | locked | holdover
deriving DecidableEq, Repr

/-- The reference modes (R5). -/
inductive RefMode where
  | off | pulse | full
deriving DecidableEq, Repr

/-- The pairing state of the last message (section 1.5). -/
inductive Pairing where
  | waiting | used | expired
deriving DecidableEq, Repr

/-- The Time Base (R1 to R4, R25). -/
structure TimeBase where
  uptime : Instant := 0
  ms : Nat := 0
  count : Nat := 0
  len : Nat := 4194304
  freq : Int := 0
  residue : Nat := 0
  slew : Int := 0
  label : Option Label := none
  disc : Discipline := .unset
  good : Nat := 0
  missed : Nat := 0
  outlier : Nat := 0
  mismatch : Nat := 0
  holdover : Nat := 0
  pendingLabel : Option Label := none
  lastAccepted : Option Instant := none
  curMark : Bool := false
  prevMark : Bool := false
  /-- The model's own: time was valid at the last boundary (assumption 14). -/
  validAtBoundary : Bool := false
deriving DecidableEq, Repr

/-- The last message record (section 1.5). -/
structure RefMessage where
  label : Label
  quality : Byte
  arrival : Instant
  pairing : Pairing
deriving DecidableEq, Repr

/-- The Reference Receiver Interface. `rx` is the message being received, empty while hunting. -/
structure RefRx where
  mode : RefMode := .off
  message : Option RefMessage := none
  continuity : Option (Label × Int) := none
  rx : List Byte := []
  lastByte : Instant := 0
deriving DecidableEq, Repr

/-! ### Chapter 2: civil time, day classes, sun table -/

/-- The day classes. -/
inductive DayClass where
  | ordinary | feast | solemn | penitential
deriving DecidableEq, Repr

/-- The instant of a pending offset change (R27). -/
inductive OffsetInstant where
  | next
  | label (l : Label)
deriving DecidableEq, Repr

/-- A pending offset change (R27). -/
structure OffsetChange where
  offset : Int
  instant : OffsetInstant
deriving DecidableEq, Repr

/-- The Civil Time Unit (R27, R35). -/
structure Civil where
  offset : Int := 0
  change : Option OffsetChange := none
  sundayClass : DayClass := .feast
deriving DecidableEq, Repr

/-- An entry of the Day-Class List (R36). -/
structure DayEntry where
  date : Nat
  cls : DayClass
deriving DecidableEq, Repr

/-- The Day-Class List (R36), ascending by date in the comparison of R31. -/
structure DayList where
  entries : List DayEntry := []
  revision : Nat := 0
deriving DecidableEq, Repr

/-- An entry of the Sun Table in reference minutes; none is UNSET (R41). -/
structure SunEntry where
  rise : Option Nat := none
  set : Option Nat := none
deriving DecidableEq, Repr

/-- The Sun Table (R41): ordinal n stands at place n − 1. -/
structure SunTable where
  entries : Vector SunEntry 366 := Vector.replicate 366 {}
  revision : Nat := 0
deriving DecidableEq, Repr

/-! ### Chapter 3: dials -/

/-- The states of a dial (R44). -/
inductive DialState where
  | unknown | run | advance | hold | stopped | fault
deriving DecidableEq, Repr

inductive Polarity where
  | positive | negative
deriving DecidableEq, Repr

/-- The decision owed to an impulse's end (R51). -/
inductive Owed where
  | none | continuing | full
deriving DecidableEq, Repr

/-- An impulse in flight (R44); the level and contact setting are those at its start (R46, R61). -/
structure Impulse where
  polarity : Polarity
  start : Instant
  width : Nat
  superseded : Bool
  confirmed : Bool
  watched : Bool
  startLevel : Bool
deriving DecidableEq, Repr

/-- A dial record (R44). Width in ms, fast interval in s, hold limit in positions. -/
structure Dial where
  fitted : Bool := false
  confirm : Bool := false
  width : Nat := 500
  fast : Nat := 2
  holdLimit : Nat := 240
  revision : Nat := 0
  state : DialState := .unknown
  position : Nat := 0
  polarity : Polarity := .negative
  misses : Nat := 0
  flight : Option Impulse := none
  lastStart : Option Instant := none
  owed : Owed := .none
deriving DecidableEq, Repr

/-! ### Chapter 4: bells and guards -/

/-- The conflict policy (R63). -/
inductive Policy where
  | skip
  | substitute (b : Fin 16)
deriving DecidableEq, Repr

/-- The configuration of a bell (R63). Period in units of 10 ms, travel and settle in s. -/
structure BellConfig where
  hammer : Bool := false
  guardFitted : Bool := false
  drive : Bool := false
  sensor : Bool := false
  width : Nat := 60
  recovery : Nat := 400
  travel : Nat := 5
  period : Nat := 200
  settle : Nat := 8
  policy : Policy := .skip
  revision : Nat := 0
deriving DecidableEq, Repr

/-- Who has a bell (R65); ROPES records L2 always, SERVICE the session. -/
inductive Holder where
  | free
  | service (n : Fin 4)
  | ropes
  | maint (p : Port)
deriving DecidableEq, Repr

inductive GuardState where
  | disengaged | engaging | engaged | releasing | fault
deriving DecidableEq, Repr

inductive Direction where
  | engage | release
deriving DecidableEq, Repr

inductive Motion where
  | idle | running | waitingPulse | halted
deriving DecidableEq, Repr

/-- The settled level of a limit contact and the start of a settling in progress (R70). -/
structure ContactLevel where
  settled : Bool := false
  since : Option Instant := none
deriving DecidableEq, Repr

/-- The live guard fields (R64) and its contacts. -/
structure Guard where
  state : GuardState := .disengaged
  direction : Direction := .release
  motion : Motion := .idle
  deadline : Option Instant := none
  atEng : ContactLevel := {}
  atDis : ContactLevel := {}
deriving DecidableEq, Repr

/-- A bell record (R63, R64). `pulseEnd` is the end of the pulse in progress; none is no pulse. -/
structure Bell where
  config : BellConfig := {}
  holder : Holder := .free
  guard : Guard := {}
  lastStrike : Option Instant := none
  pulseEnd : Option Instant := none
deriving DecidableEq, Repr

/-! ### Chapter 5: swings and sessions -/

inductive SwingState where
  | atRest | starting | swinging | stopping | drifting | fault
deriving DecidableEq, Repr

inductive SwingFault where
  | none | startTimeout | swingLost
deriving DecidableEq, Repr

/-- A swing record (R86). -/
structure Swing where
  state : SwingState := .atRest
  motor : Bool := false
  lastPulse : Option Instant := none
  history : List Nat := []
  qualifying : Nat := 0
  motorOn : Option Instant := none
  settleDeadline : Option Instant := none
  fault : SwingFault := .none
deriving DecidableEq, Repr

inductive Phase where
  | startingBells | ringing | stoppingBells | ended
deriving DecidableEq, Repr

inductive EndCause where
  | none | endTime | cancel | supply | warmReset | emptied
deriving DecidableEq, Repr

/-- Who created a session (R95). -/
inductive SessionOrigin where
  | event (n : Fin 96)
  | manual
  | none
deriving DecidableEq, Repr

/-- A bell of a session and its started mark (R95). -/
structure SessionBell where
  bell : Fin 16
  started : Bool
deriving DecidableEq, Repr

/-- The statuses of responses (R193, spec/12). -/
inductive Status where
  | ok | denied | malformed | range | stale | busy | full | noRoom | notFitted | state | unset
deriving DecidableEq, Repr

/-- A bell left out of a session, with its reason (R96). -/
structure LeftOut where
  bell : Fin 16
  reason : Status
deriving DecidableEq, Repr

/-- A ring-session record (R95). Stagger in s. The empty stagger, creation time and end time of a record never
used are 0, the model's choice (assumption 35). -/
structure Session where
  phase : Phase := .ended
  origin : SessionOrigin := .none
  bells : List SessionBell := []
  leftOut : List LeftOut := []
  departed : BitVec 16 := 0
  stagger : Nat := 0
  creation : Instant := 0
  endTime : Instant := 0
  nextStart : Option Instant := none
  nextStop : Option Instant := none
  endCause : EndCause := .none
deriving DecidableEq, Repr

/-! ### Chapter 6: tunes and plans -/

/-- A note (R109): a bell and an offset in units of 10 ms. -/
structure Note where
  bell : Fin 16
  offset : Nat
deriving DecidableEq, Repr

/-- What a tune holds (R108). The editing port of every EDITING tune is L1. -/
inductive TuneContent where
  | empty
  | editing (slots : List (Option Note)) (lastEdit : Instant)
  | valid (notes : List Note)
deriving DecidableEq, Repr

structure Tune where
  content : TuneContent := .empty
  revision : Nat := 0
deriving DecidableEq, Repr

/-- The two chime plans. -/
inductive PlanName where
  | ordinary | festal
deriving DecidableEq, Repr

/-- A chime plan (R120): tune numbers 1..24 or 0, hour bell 1..16 or 0, gap and pace in ms. -/
structure Plan where
  first : Nat := 0
  second : Nat := 0
  third : Nat := 0
  hour : Nat := 0
  hourBell : Nat := 0
  gap : Nat := 2000
  pace : Nat := 2500
  revision : Nat := 0
deriving DecidableEq, Repr

/-! ### Chapter 7: strike unit -/

inductive Origin where
  | quarter | hour | toll | panel | tuneEvent
deriving DecidableEq, Repr

inductive Wait where
  | pending | recovery | share
deriving DecidableEq, Repr

/-- An entry of the strike queue (R132). -/
structure Entry where
  due : Instant
  bell : Fin 16
  origin : Origin
  number : Nat
  substituted : Bool
  seq : Nat
  wait : Wait
deriving DecidableEq, Repr

inductive QuarterOutcome where
  | chimed | nothingToStrike | silenced | penitential | supply | queueFull | held | fallback | stepPassed
deriving DecidableEq, Repr

/-- The held quarter (R130). -/
structure Held where
  index : Nat
  slot : Nat
  plan : PlanName
  tune : Fin 24
  strokes : Nat
  hourBell : Nat
  gap : Nat
  pace : Nat
  start : Instant
  expiry : Instant
deriving DecidableEq, Repr

inductive TollOrigin where
  | port (p : Port)
  | event (n : Fin 96)
deriving DecidableEq, Repr

/-- A toll in use (R138). Interval in s; no remaining count is UNBOUNDED. -/
structure Toll where
  bell : Fin 16
  interval : Nat
  remaining : Option Nat
  endTime : Option Instant
  origin : TollOrigin
  begun : Nat
deriving DecidableEq, Repr

/-- The Strike Unit (R125). -/
structure Strike where
  queue : List Entry := []
  nextSeq : Nat := 0
  marker : Option Nat := none
  lastOutcome : Option (QuarterOutcome × Nat) := none
  held : Option Held := none
  tolls : Vector (Option Toll) 4 := Vector.replicate 4 none
  silence : Bool := false
  share : Nat := 4
deriving DecidableEq, Repr

/-! ### Chapter 8: event calendar -/

/-- The day selector (R146). -/
inductive DaySelector where
  | weekly (weekdays : BitVec 7) (classes : BitVec 4)
  | date (day : Nat)
deriving DecidableEq, Repr

/-- The anchor (R146). -/
inductive Anchor where
  | civil (minute : Nat)
  | sunrise (offset : Int)
  | sunset (offset : Int)
deriving DecidableEq, Repr

inductive Scope where
  | quarters | clock
deriving DecidableEq, Repr

/-- The kind of an event with the parameters of that kind (R146). -/
inductive EventKind where
  | ring (mask : BitVec 16) (stagger : Nat)
  | toll (bell : Fin 16) (interval count : Nat)
  | tune (tune : Nat)
  | scene (channels : BitVec 8)
  | silence (scope : Scope)
deriving DecidableEq, Repr

/-- An event record (R146). -/
structure Event where
  valid : Bool := false
  kind : EventKind := .ring 0 6
  selector : DaySelector := .weekly 0 0
  anchor : Anchor := .civil 0
  duration : Nat := 1
  lastFired : Option Nat := none
  revision : Nat := 0
deriving DecidableEq, Repr

/-- A civil day and minute: the cursor of R150, an override's expiry of R165. -/
structure DayMinute where
  day : Nat
  minute : Nat
deriving DecidableEq, Repr

/-- The Event Calendar. -/
structure Calendar where
  events : Vector Event 96 := Vector.replicate 96 {}
  cursor : Option DayMinute := none
  yesterday : Option DayEntry := none
  active : List (Fin 96) := []
  /-- The model's own: the civil dates on which a minute has been taken (assumption 15). -/
  datesTaken : List Nat := []
  /-- The model's own: the civil minute in which the last warm reset was completed, until the next comparison
  of the cursor (assumption 16). -/
  heldUntil : Option DayMinute := none
deriving DecidableEq, Repr

/-! ### Chapter 9: floodlights -/

inductive LampKind where
  | relay | discharge
deriving DecidableEq, Repr

inductive Override where
  | auto | forceOn | forceOff
deriving DecidableEq, Repr

inductive ChannelState where
  | off | warming | lit | cooling | failed
deriving DecidableEq, Repr

/-- The sense watch (R162): idle, or running with the start of an absence. -/
inductive Watch where
  | idle
  | running (absence : Option Instant)
deriving DecidableEq, Repr

inductive OffCause where
  | none | desired | sense | supply | reset
deriving DecidableEq, Repr

/-- The last derivation of a channel (R163, R179). -/
structure Derived where
  desired : Bool := false
  byOverride : Bool := false
  ringers : Bool := false
  sceneValid : Bool := false
  scene : Bool := false
deriving DecidableEq, Repr

/-- A channel record (R162). Warm-up and restrike in s. -/
structure Channel where
  configured : Bool := false
  kind : LampKind := .discharge
  warmUp : Nat := 180
  restrike : Nat := 600
  follow : Bool := false
  sense : Bool := false
  revision : Nat := 0
  override : Override := .auto
  expiry : Option DayMinute := none
  state : ChannelState := .off
  switchOn : Option Instant := none
  warmEnd : Option Instant := none
  restrikeExpiry : Option Instant := none
  pendingOn : Bool := false
  watch : Watch := .idle
  lastOff : OffCause := .none
  derived : Derived := {}
  /-- The model's own: the state a warm reset took the channel from, its CHANNEL_STATE owed (R175, assumption 28). -/
  resetLeft : Option ChannelState := none
deriving DecidableEq, Repr

/-! ### Chapters 10 and 11: supply, reset, ports -/

inductive SupplyState where
  | mains | battery
deriving DecidableEq, Repr

/-- The Supply Monitor (R180 to R182). -/
structure Supply where
  state : SupplyState := .battery
  debounce : Option Instant := none
  since : Instant := 0
  low : Bool := false
  lowSince : Option Instant := none
  reported : Bool := false
deriving DecidableEq, Repr

/-- The kinds of notice (R198). -/
inductive NoticeKind where
  | stateChanged | timeStepped | labelMismatch | offsetApplied
  | dialState | dialMiss
  | claimChanged | guardReady | guardFault | unexpectedMotion
  | sessionStarted | bellSwinging | bellAtRest | swingFault | sessionDegraded | sessionEnded
  | strikeSkipped | strikeSubstituted | quarterSkipped | quarterHeld | tollEnded
  | eventFired | eventDegraded | eventMissed
  | channelState | lampFailed
  | mainsLost | mainsRestored | batteryLow | warmResetDone
deriving DecidableEq, Repr

/-- A notice record (R198). -/
structure Notice where
  kind : NoticeKind
  subject : Nat
  detail : BitVec 16
  stamp : Instant
  label : Option Label
deriving DecidableEq, Repr

/-- The course of a warm reset (R185 to R187): the timing of RESET_N, the entry while held, the reset
notice list and whether a notice was lost from it. -/
structure WarmReset where
  since : Option Instant := none
  held : Option Instant := none
  notices : List Notice := []
  lost : Bool := false
deriving DecidableEq, Repr

/-- A link port (R189 to R203). `rx` is the frame being received, empty while hunting; `sending` the
response going out; `owed` the BUSY tags. Holdoff length in units of 10 ms. -/
structure LinkPort where
  rx : List Byte := []
  lastByte : Instant := 0
  sending : Option (List Byte) := none
  /-- The model's own: TXEN is released between a response that has ended and the owed BUSY that follows it
  (R190, assumption 34). -/
  between : Bool := false
  owed : List Byte := []
  queue : List Notice := []
  lost : Bool := false
  routing : BitVec 8 := 0
  attention : Bool := true
  holdoffLength : Nat := 10
  holdoffEnd : Option Instant := none
  discard : Nat := 0
deriving DecidableEq, Repr

/-- The levels of the input lines (spec/00, Signals; assumption 5 for the values before any change). -/
structure Lines where
  mainsOk : Bool := false
  battLow : Bool := false
  resetN : Bool := true
  dialConf : Vector Bool 4 := Vector.replicate 4 false
  guardEng : Vector Bool 16 := Vector.replicate 16 false
  guardDis : Vector Bool 16 := Vector.replicate 16 false
  lampSense : Vector Bool 8 := Vector.replicate 8 false
deriving DecidableEq, Repr

/-- The whole device, and the queue of the commands that wait. -/
structure State where
  tb : TimeBase
  ref : RefRx
  civil : Civil
  days : DayList
  sun : SunTable
  dials : Vector Dial 4
  bells : Vector Bell 16
  swings : Vector Swing 16
  sessions : Vector Session 4
  tunes : Vector Tune 24
  ordinary : Plan
  festal : Plan
  strike : Strike
  cal : Calendar
  lights : Vector Channel 8
  supply : Supply
  warm : WarmReset
  ports : Vector LinkPort 3
  lines : Lines
  pending : List Instr
deriving DecidableEq, Repr

/-- The place of a port in the array. -/
def portIndex : Port → Fin 3
  | .l1 => 0
  | .l2 => 1
  | .l3 => 2

/-- The role defaults of the routing (R199): bit 0 TIME, DIAL, BELL, RING, STRIKE, EVENT, LIGHT, bit 7 SUPPLY. -/
def defaultRouting : Fin 3 → BitVec 8
  | 0 => 0xFF#8
  | 1 => 0x9D#8
  | 2 => 0xC1#8

/-- A port at its cold values (R184, R199, R203). -/
def coldPort (i : Fin 3) : LinkPort := { routing := defaultRouting i }

/-- The Supply Monitor at cold start: BATTERY, its timer running from run time 0 if MAINS_OK is high
(R180), the settling of BATT_LOW begun at once (R182). -/
def coldSupply (l : Lines) : Supply :=
  { debounce := if l.mainsOk then some 0 else none
    lowSince := if l.battLow then some 0 else none }

/-- A guard at cold start: not fitted, DISENGAGED; its contacts at the levels of their lines (assumption 5). -/
def coldGuard (l : Lines) (i : Fin 16) : Guard :=
  { atEng := { settled := l.guardEng[i] }, atDis := { settled := l.guardDis[i] } }

/-- Every piece of state at its cold value, under the lines as they stand (R184). A RESET_N already low
begins its 10 ms timing at once (assumption 33). -/
def coldState (l : Lines) (pending : List Instr) : State where
  tb := {}
  ref := {}
  civil := {}
  days := {}
  sun := {}
  dials := Vector.replicate 4 {}
  bells := Vector.ofFn fun i => { guard := coldGuard l i }
  swings := Vector.replicate 16 {}
  sessions := Vector.replicate 4 {}
  tunes := Vector.replicate 24 {}
  ordinary := {}
  festal := {}
  strike := {}
  cal := {}
  lights := Vector.replicate 8 {}
  supply := coldSupply l
  warm := { since := if l.resetN then none else some 0 }
  ports := Vector.ofFn coldPort
  lines := l
  pending := pending

/-- The machine right after reset: the cold state (R184) under the line levels of assumption 5, no
command waiting. -/
def State.reset : State := coldState {} []

end Sys2Proof.Machine
end

