-- ==== Sys2Proof/Machine/Calc.lean ====
section
/-! DEFINITION. Calculations without state: circles, labels, civil time, dates, deadlines, arrays. -/

namespace Sys2Proof.Machine

/-! ### Arrays -/

/-- Apply a function to every element (structural, so that it evaluates). -/
def mapV {α β : Type} {n : Nat} (f : α → β) (v : Vector α n) : Vector β n :=
  ⟨(v.toList.map f).toArray, by simp⟩

/-- The numbers of the sixteen bells, in ascending order. -/
def allBells : List (Fin 16) := List.finRange 16
/-- The numbers of the eight channels, in ascending order. -/
def allChannels : List (Fin 8) := List.finRange 8
/-- The numbers of the 96 events, in ascending order. -/
def allEvents : List (Fin 96) := List.finRange 96
/-- The numbers of the four dials, sessions or tolls. -/
def allFour : List (Fin 4) := List.finRange 4
/-- The numbers of the 24 tunes. -/
def allTunes : List (Fin 24) := List.finRange 24

/-- The thing a number from 1 names among `n`, or none outside 1..n. -/
def named (n : Nat) (x : Nat) : Option (Fin n) :=
  if h : 1 ≤ x ∧ x ≤ n then some ⟨x - 1, by omega⟩ else none

/-- The bells of a mask, ascending: bit 0 is bell 1 (R204). -/
def maskBells (m : BitVec 16) : List (Fin 16) := allBells.filter (fun b => m.getLsbD b.1)

/-- The mask of a list of bells. -/
def bellMask (bs : List (Fin 16)) : BitVec 16 := bs.foldl (fun m b => m ||| (1#16 <<< b.1)) 0

/-! ### Numbers -/

/-- A number clamped to a range (R194). -/
def clamp (lo hi x : Nat) : Nat := max lo (min hi x)
/-- A signed number clamped to a range. -/
def clampInt (lo hi x : Int) : Int := max lo (min hi x)
/-- A revision after an accepted write: 254 is followed by 0 (R195). -/
def nextRevision (r : Nat) : Nat := if r ≥ 254 then 0 else r + 1
/-- Whether a write with this expected revision is not STALE: 255 is unconditional (R195). -/
def revisionOk (expected actual : Nat) : Bool := expected == 255 || expected == actual

/-- The signed difference of least magnitude of `a − b` on a circle of `m` points; at exactly half the
circle its sign is a free value (assumption 6). -/
def circleDiff (m a b : Nat) : Int :=
  let r := (a % m + (m - b % m)) % m
  if 2 * r < m then r
  else if 2 * r = m then (if Config.halfCirclePositive then (r : Int) else (r : Int) - m)
  else (r : Int) - m

/-! ### Deadlines (R2) -/

/-- A deadline is reached when the present time is at or after it. -/
def reached (deadline : Option Instant) (now : Instant) : Bool :=
  match deadline with
  | some d => d ≤ now
  | none => false

/-- Run time: the instant modulo 2^32 (R2). -/
def runTime (t : Instant) : BitVec 32 := BitVec.ofNat 32 t

/-! ### Labels (R3, R22) -/

def daySeconds : Nat := 86400
/-- The circle of labels, in seconds: 65,536 days. -/
def labelCircle : Nat := 65536 * 86400
/-- A label as a number of seconds. -/
def Label.seconds (l : Label) : Nat := l.day * 86400 + l.sec
/-- The label a number of seconds names. -/
def labelOf (n : Nat) : Label := { day := n / 86400 % 65536, sec := n % 86400 }
/-- A label moved by a signed number of seconds around the circle. -/
def Label.shift (l : Label) (d : Int) : Label :=
  labelOf (((l.seconds : Int) + d) % (labelCircle : Int)).toNat
/-- The label of the next second (R3). -/
def Label.advance (l : Label) : Label :=
  if l.sec < 86399 then { l with sec := l.sec + 1 }
  else { day := if l.day < 65535 then l.day + 1 else 0, sec := 0 }
/-- `a − b` in seconds (R22). -/
def Label.diff (a b : Label) : Int := circleDiff labelCircle a.seconds b.seconds
/-- "At or after" (R31). -/
def Label.atOrAfter (a b : Label) : Bool := 0 ≤ a.diff b

/-- `a − b` in days (R31). -/
def dayDiff (a b : Nat) : Int := circleDiff 65536 a b
/-- "Before" (R31). -/
def dayBefore (a b : Nat) : Bool := dayDiff a b < 0

/-- Civil time of a label under an offset in minutes (R28). -/
def civilOf (offset : Int) (l : Label) : Label := l.shift (60 * offset)
/-- The minute of the day of a civil label. -/
def Label.minute (l : Label) : Nat := l.sec / 60
/-- A civil label's day and minute. -/
def Label.dayMinute (l : Label) : DayMinute := { day := l.day, minute := l.minute }

/-- A day and minute on the circle of 65,536 × 1,440 minutes (R150). -/
def DayMinute.number (m : DayMinute) : Nat := m.day * 1440 + m.minute
def minuteCircle : Nat := 65536 * 1440
/-- `a − b` in minutes (R150, R165). -/
def DayMinute.diff (a b : DayMinute) : Int := circleDiff minuteCircle a.number b.number
/-- The day and minute a number of minutes names. -/
def dayMinuteOf (n : Nat) : DayMinute := { day := n / 1440 % 65536, minute := n % 1440 }

/-- The quarter index of a label (R126). -/
def quarterIndex (l : Label) : Nat := l.day * 96 + l.sec / 900
def quarterCircle : Nat := 65536 * 96
/-- An index is newer than the marker; every index is newer than none (R126). -/
def newerQuarter (i : Nat) (marker : Option Nat) : Bool :=
  match marker with
  | none => true
  | some m => 0 < circleDiff quarterCircle i m

/-! ### Dates (R29, R30, R31) -/

def leapYear (y : Nat) : Bool := (y % 4 == 0 && y % 100 != 0) || y % 400 == 0
def yearLength (y : Nat) : Nat := if leapYear y then 366 else 365
/-- The lengths of the months of a year. -/
def monthLengths (y : Nat) : List Nat := [31, if leapYear y then 29 else 28, 31, 30, 31, 30, 31, 31, 30, 31, 30, 31]
/-- The length of a month 1..12; 0 for no month. -/
def monthLength (y m : Nat) : Nat := if m = 0 then 0 else (monthLengths y).getD (m - 1) 0
/-- The days of the years from 2000 up to a year. -/
def daysOfYears : Nat → Nat
  | 0 => 0
  | k + 1 => daysOfYears k + yearLength (2000 + k)
/-- The days of a year before a month. -/
def daysBeforeMonth (y m : Nat) : Nat := ((monthLengths y).take (m - 1)).sum

/-- A date as year, month, day of the month. -/
structure CivilDate where
  year : Nat
  month : Nat
  day : Nat
deriving DecidableEq, Repr

/-- Find the month of a day of the year. -/
def monthOf : List Nat → Nat → Nat → Nat × Nat
  | [], m, d => (m, d)
  | len :: rest, m, d => if d < len then (m, d) else monthOf rest (m + 1) (d - len)
/-- Find the year of a day number, by taking whole years away. -/
def yearOf : Nat → Nat → Nat → Nat × Nat
  | 0, y, d => (y, d)
  | fuel + 1, y, d => if d < yearLength y then (y, d) else yearOf fuel (y + 1) (d - yearLength y)
/-- The date of a day number, day 0 being 1 January 2000 (R29). -/
def dateOf (n : Nat) : CivilDate :=
  let y := yearOf 180 2000 n
  let m := monthOf (monthLengths y.1) 1 y.2
  { year := y.1, month := m.1, day := m.2 + 1 }
/-- The day number of a date. -/
def dayNumber (d : CivilDate) : Nat :=
  daysOfYears (d.year - 2000) + daysBeforeMonth d.year d.month + (d.day - 1)
/-- The checks of R31 on a date in a request; its day number if it passes. -/
def checkDate (d : CivilDate) : Option Nat :=
  if 2000 ≤ d.year ∧ d.year ≤ 2179 ∧ 1 ≤ d.month ∧ d.month ≤ 12 ∧ 1 ≤ d.day ∧ d.day ≤ monthLength d.year d.month then
    let n := dayNumber d
    if n ≤ 65535 then some n else none
  else none
/-- The weekday, 0 for Monday (R29). -/
def weekday (n : Nat) : Nat := (n + 5) % 7
/-- The ordinals of the first days of the months in a leap-year calendar (R30). -/
def firstOrdinals : List Nat := [1, 32, 61, 92, 122, 153, 183, 214, 245, 275, 306, 336]
/-- The sun ordinal of a day number (R30). -/
def sunOrdinal (n : Nat) : Nat :=
  let d := dateOf n
  d.day + firstOrdinals.getD (d.month - 1) 1 - 1

/-! ### Dials (R45, R49) -/

/-- The dial position of a civil time: the half-minute on a twelve-hour face. -/
def dialTarget (c : Label) : Nat :=
  let minute := c.minute
  (minute / 60 % 12 * 60 + minute % 60) * 2 + (if c.sec % 60 ≥ 30 then 1 else 0)
/-- The distance d (R45). -/
def dialDistance (target position : Nat) : Nat := (target + (1440 - position % 1440)) % 1440

/-! ### Notes (R109) -/

/-- Notes with their times in ms, each offset counted from the note before. -/
def noteTimesFrom : Nat → List Note → List (Fin 16 × Nat)
  | _, [] => []
  | t, n :: rest => (n.bell, t + 10 * n.offset) :: noteTimesFrom (t + 10 * n.offset) rest
/-- The times of a tune's notes, from the tune's start: the first note's offset is taken as 0. -/
def noteTimes : List Note → List (Fin 16 × Nat)
  | [] => []
  | n :: rest => (n.bell, 0) :: noteTimesFrom 0 rest
/-- The length of a tune in time, in units of 10 ms: the time of its last note. -/
def tuneUnits (ns : List Note) : Nat := (ns.tail.map (·.offset)).sum

end Sys2Proof.Machine
end

