-- ==== Sys2Proof/Machine/Operands.lean ====
section
/-! DEFINITION. Coded operands (R204) and the items of responses (R205). -/

namespace Sys2Proof.Machine

/-! ### Decoding coded values: none is a code beyond the list, refused with RANGE (R204) -/

/-- A yes/no setting or a flag. -/
def yesNo (n : Nat) : Option Bool := if n = 0 then some false else if n = 1 then some true else none
def modeOf (n : Nat) : Option RefMode :=
  if n = 0 then some .off else if n = 1 then some .pulse else if n = 2 then some .full else none
def classOfCode (n : Nat) : Option DayClass :=
  if n = 0 then some .ordinary else if n = 1 then some .feast else if n = 2 then some .solemn
  else if n = 3 then some .penitential else none
/-- The Sunday class: ORDINARY or FEAST (R35). -/
def sundayClassOf (n : Nat) : Option DayClass :=
  if n = 0 then some .ordinary else if n = 1 then some .feast else none
def polarityOf (n : Nat) : Option Polarity :=
  if n = 0 then some .positive else if n = 1 then some .negative else none
def planOf (n : Nat) : Option PlanName :=
  if n = 0 then some .ordinary else if n = 1 then some .festal else none
def lampKindOf (n : Nat) : Option LampKind :=
  if n = 0 then some .relay else if n = 1 then some .discharge else none
def overrideOf (n : Nat) : Option Override :=
  if n = 0 then some .auto else if n = 1 then some .forceOn else if n = 2 then some .forceOff else none
def scopeOf (n : Nat) : Option Scope :=
  if n = 0 then some .quarters else if n = 1 then some .clock else none
/-- SILENCE_SET's value: SET or CLEAR, in that order (R142). -/
def silenceOf (n : Nat) : Option Bool := if n = 0 then some true else if n = 1 then some false else none
/-- A minute of the Sun Table: 0..1,439 or UNSET (0xFFFF). -/
def sunMinuteOf (n : Nat) : Option (Option Nat) :=
  if n = 0xFFFF then some none else if n < 1440 then some (some n) else none

/-! ### Codes of states (R204: the position in the list of the record's table) -/

def Discipline.code : Discipline → Nat
  | .unset => 0 | .free => 1 | .acquire => 2 | .locked => 3 | .holdover => 4
def RefMode.code : RefMode → Nat
  | .off => 0 | .pulse => 1 | .full => 2
def Pairing.code : Pairing → Nat
  | .waiting => 0 | .used => 1 | .expired => 2
def DayClass.code : DayClass → Nat
  | .ordinary => 0 | .feast => 1 | .solemn => 2 | .penitential => 3
def DialState.code : DialState → Nat
  | .unknown => 0 | .run => 1 | .advance => 2 | .hold => 3 | .stopped => 4 | .fault => 5
def Polarity.code : Polarity → Nat
  | .positive => 0 | .negative => 1
def Owed.code : Owed → Nat
  | .none => 0 | .continuing => 1 | .full => 2
def Policy.code : Policy → Nat
  | .skip => 0 | .substitute _ => 1
/-- The substitute bell's number; 0 under SKIP (R63). -/
def Policy.bell : Policy → Nat
  | .skip => 0 | .substitute b => b.1 + 1
/-- A port is coded 1, 2 or 3. -/
def portCode : Port → Nat
  | .l1 => 1 | .l2 => 2 | .l3 => 3
def Holder.code : Holder → Nat
  | .free => 0 | .service _ => 1 | .ropes => 2 | .maint _ => 3
/-- The holder's port or session; 0 for FREE, L2 for ROPES (12.5). -/
def Holder.party : Holder → Nat
  | .free => 0 | .service n => n.1 + 1 | .ropes => 2 | .maint p => portCode p
def GuardState.code : GuardState → Nat
  | .disengaged => 0 | .engaging => 1 | .engaged => 2 | .releasing => 3 | .fault => 4
def Direction.code : Direction → Nat
  | .engage => 0 | .release => 1
def Motion.code : Motion → Nat
  | .idle => 0 | .running => 1 | .waitingPulse => 2 | .halted => 3
def SwingState.code : SwingState → Nat
  | .atRest => 0 | .starting => 1 | .swinging => 2 | .stopping => 3 | .drifting => 4 | .fault => 5
def SwingFault.code : SwingFault → Nat
  | .none => 0 | .startTimeout => 1 | .swingLost => 2
def Phase.code : Phase → Nat
  | .startingBells => 0 | .ringing => 1 | .stoppingBells => 2 | .ended => 3
def EndCause.code : EndCause → Nat
  | .none => 0 | .endTime => 1 | .cancel => 2 | .supply => 3 | .warmReset => 4 | .emptied => 5
def SessionOrigin.code : SessionOrigin → Nat
  | .event _ => 0 | .manual => 1 | .none => 2
/-- The event number behind an origin's code; 0 where there is none (assumption 18). -/
def SessionOrigin.number : SessionOrigin → Nat
  | .event n => n.1 + 1 | .manual => 0 | .none => 0
def Status.code : Status → Byte
  | .ok => 0x00 | .denied => 0x01 | .malformed => 0x02 | .range => 0x03 | .stale => 0x04 | .busy => 0x05
  | .full => 0x06 | .noRoom => 0x07 | .notFitted => 0x08 | .state => 0x09 | .unset => 0x0A
def TuneContent.code : TuneContent → Nat
  | .empty => 0 | .editing _ _ => 1 | .valid _ => 2
def PlanName.code : PlanName → Nat
  | .ordinary => 0 | .festal => 1
def Origin.code : Origin → Nat
  | .quarter => 0 | .hour => 1 | .toll => 2 | .panel => 3 | .tuneEvent => 4
def Wait.code : Wait → Nat
  | .pending => 0 | .recovery => 1 | .share => 2
def QuarterOutcome.code : QuarterOutcome → Nat
  | .chimed => 0 | .nothingToStrike => 1 | .silenced => 2 | .penitential => 3 | .supply => 4
  | .queueFull => 5 | .held => 6 | .fallback => 7 | .stepPassed => 8
/-- A toll's origin: 0 for a port, 1 for an event, the model's choice (R143, assumption 18). -/
def TollOrigin.code : TollOrigin → Nat
  | .port _ => 0 | .event _ => 1
/-- The port or the event number behind that code (assumption 18). -/
def TollOrigin.number : TollOrigin → Nat
  | .port p => portCode p | .event n => n.1 + 1
def Scope.code : Scope → Nat
  | .quarters => 0 | .clock => 1
def EventKind.code : EventKind → Nat
  | .ring _ _ => 0 | .toll _ _ _ => 1 | .tune _ => 2 | .scene _ => 3 | .silence _ => 4
def LampKind.code : LampKind → Nat
  | .relay => 0 | .discharge => 1
def Override.code : Override → Nat
  | .auto => 0 | .forceOn => 1 | .forceOff => 2
def ChannelState.code : ChannelState → Nat
  | .off => 0 | .warming => 1 | .lit => 2 | .cooling => 3 | .failed => 4
def OffCause.code : OffCause → Nat
  | .none => 0 | .desired => 1 | .sense => 2 | .supply => 3 | .reset => 4
def SupplyState.code : SupplyState → Nat
  | .mains => 0 | .battery => 1

/-! ### Items of responses (R205) -/

/-- A flag or mark: one byte, 1 when set. -/
def beFlag (b : Bool) : List Byte := be1 (if b then 1 else 0)
/-- A run time (four bytes). -/
def beTime (t : Instant) : List Byte := be4 (runTime t).toNat
/-- A span of run time without a stated range (four bytes). -/
def beSpan (n : Nat) : List Byte := be4 n
/-- A reference label (day two bytes, second three). -/
def beLabel (l : Label) : List Byte := be2 l.day ++ be3 l.sec
/-- A date from a day number (year two bytes, month, day). -/
def beDate (n : Nat) : List Byte :=
  let d := dateOf n
  be2 d.year ++ be1 d.month ++ be1 d.day
/-- An item behind its present or valid mark; zeros of its width when the mark is clear (R205). -/
def beMarked {α : Type} (width : Nat) (f : α → List Byte) : Option α → List Byte
  | some x => beFlag true ++ f x
  | none => beFlag false ++ List.replicate width 0
/-- An item that may be absent without a mark: every bit of its width set (R204). -/
def beAbsent {α : Type} (width : Nat) (f : α → List Byte) : Option α → List Byte
  | some x => f x
  | none => List.replicate width 0xFF
/-- A list behind its one-byte count (R205). -/
def beList {α : Type} (f : α → List Byte) (xs : List α) : List Byte := be1 xs.length ++ xs.flatMap f
/-- A signed delta, saturated to ±32,767 (R205). -/
def beDelta (z : Int) : List Byte := beS2 (clampInt (-32767) 32767 z)
/-- A bell mask (two bytes). -/
def beMask (m : BitVec 16) : List Byte := be2 m.toNat
/-- The instant of an offset change; NEXT has every bit set (R204). -/
def beInstant : OffsetInstant → List Byte
  | .next => List.replicate 5 0xFF
  | .label l => beLabel l
/-- A minute that may be UNSET. -/
def beMinute (m : Option Nat) : List Byte := be2 (m.getD 0xFFFF)
/-- A left-out mask followed by the reasons, one status per bell left out, ascending (assumption 18). -/
def beLeftOut (l : List LeftOut) : List Byte :=
  beMask (bellMask (l.map (·.bell))) ++ beList (fun x => [x.reason.code]) l

end Sys2Proof.Machine
end

