-- ==== Sys2Proof/Machine/Flags.lean ====
section
/-! DEFINITION. The flags the device shows: notice kinds and details (12.5), the check of a frame (R189),
and the levels of the output lines, each a function of the state. -/

namespace Sys2Proof.Machine

/-! ### Notices -/

/-- The kind code of a notice (12.5); its high four bits are the class. -/
def NoticeKind.code : NoticeKind → Nat
  | .stateChanged => 0x00 | .timeStepped => 0x01 | .labelMismatch => 0x02 | .offsetApplied => 0x03
  | .dialState => 0x10 | .dialMiss => 0x11
  | .claimChanged => 0x20 | .guardReady => 0x21 | .guardFault => 0x22 | .unexpectedMotion => 0x23
  | .sessionStarted => 0x30 | .bellSwinging => 0x31 | .bellAtRest => 0x32 | .swingFault => 0x33
  | .sessionDegraded => 0x34 | .sessionEnded => 0x35
  | .strikeSkipped => 0x40 | .strikeSubstituted => 0x41 | .quarterSkipped => 0x42 | .quarterHeld => 0x43
  | .tollEnded => 0x44
  | .eventFired => 0x50 | .eventDegraded => 0x51 | .eventMissed => 0x52
  | .channelState => 0x60 | .lampFailed => 0x61
  | .mainsLost => 0x70 | .mainsRestored => 0x71 | .batteryLow => 0x72 | .warmResetDone => 0x73

/-- The class of a kind, 0 for TIME to 7 for SUPPLY: the bit of the routing that carries it (R199). -/
def NoticeKind.cls (k : NoticeKind) : Nat := k.code / 16

/-- A detail of a high byte and a low byte. -/
def pair (hi lo : Nat) : BitVec 16 := BitVec.ofNat 16 (hi % 256 * 256 + lo % 256)
/-- A number saturated to a largest value. -/
def sat (top n : Nat) : Nat := min top n
/-- A signed delta saturated to ±32,767. -/
def deltaDetail (z : Int) : BitVec 16 := BitVec.ofInt 16 (clampInt (-32767) 32767 z)
/-- CLAIM_CHANGED: the holder left and entered, each with its port or session. -/
def claimDetail (left entered : Holder) : BitVec 16 :=
  BitVec.ofNat 16 (left.code * 4096 + left.party * 256 + entered.code * 16 + entered.party)
/-- The causes of GUARD_FAULT. -/
inductive GuardCause where
  | contactRead | travelEngage | travelRelease | lostEngaged | lostDisengaged
deriving DecidableEq, Repr
def GuardCause.code : GuardCause → Nat
  | .contactRead => 0 | .travelEngage => 1 | .travelRelease => 2 | .lostEngaged => 3 | .lostDisengaged => 4
/-- GUARD_FAULT: the cause and the settled levels of both contacts. -/
def guardFaultDetail (c : GuardCause) (g : Guard) : BitVec 16 :=
  pair c.code ((if g.atEng.settled then 2 else 0) + (if g.atDis.settled then 1 else 0))
/-- DIAL_MISS: miss count in bits 15..14, position in bits 10..0. -/
def dialMissDetail (misses position : Nat) : BitVec 16 := BitVec.ofNat 16 (misses % 4 * 16384 + position % 2048)
/-- The causes of CHANNEL_STATE (R172). -/
inductive LightCause where
  | desired | warmed | expiry | sense | supply | reset | clear | config
deriving DecidableEq, Repr
def LightCause.code : LightCause → Nat
  | .desired => 0 | .warmed => 1 | .expiry => 2 | .sense => 3 | .supply => 4 | .reset => 5 | .clear => 6 | .config => 7
/-- CHANNEL_STATE: state left, state entered, cause. -/
def channelDetail (left entered : ChannelState) (c : LightCause) : BitVec 16 :=
  BitVec.ofNat 16 (left.code * 4096 + entered.code * 256 + c.code)
/-- LAMP_FAILED: the kind in bit 15, seconds since switch-on below. -/
def lampDetail (k : LampKind) (seconds : Nat) : BitVec 16 := BitVec.ofNat 16 (k.code * 32768 + sat 32767 seconds)
/-- Why an entry's bell is not strikeable, in the order tested (R133). -/
inductive StrikeFail where
  | notFitted | holder | swing | guard | supply
deriving DecidableEq, Repr
def StrikeFail.code : StrikeFail → Nat
  | .notFitted => 0 | .holder => 1 | .swing => 2 | .guard => 3 | .supply => 4
/-- The reasons of QUARTER_SKIPPED. -/
inductive SkipReason where
  | supply | queueFull | step
deriving DecidableEq, Repr
def SkipReason.code : SkipReason → Nat
  | .supply => 0 | .queueFull => 1 | .step => 2
/-- The causes of TOLL_ENDED. -/
inductive TollCause where
  | count | endTime | stop | supply
deriving DecidableEq, Repr
def TollCause.code : TollCause → Nat
  | .count => 0 | .endTime => 1 | .stop => 2 | .supply => 3
/-- TOLL_ENDED: the cause in bits 15..14, the pulses begun saturated to 16,383 below. -/
def tollDetail (c : TollCause) (begun : Nat) : BitVec 16 := BitVec.ofNat 16 (c.code * 16384 + sat 16383 begun)
/-- The reasons of EVENT_DEGRADED; `none` for EVENT_FIRED (12.5). -/
inductive EventReason where
  | none | supply | sessionsFull | noBells | silenced | tuneNotValid | queueFull | sunUnset
deriving DecidableEq, Repr
def EventReason.code : EventReason → Nat
  | .none => 0 | .supply => 1 | .sessionsFull => 2 | .noBells => 3 | .silenced => 4 | .tuneNotValid => 5
  | .queueFull => 6 | .sunUnset => 7
/-- EVENT_FIRED and EVENT_DEGRADED: kind, late flag, session created, reason. -/
def eventDetail (k : EventKind) (late : Bool) (session : Nat) (r : EventReason) : BitVec 16 :=
  BitVec.ofNat 16 (k.code * 4096 + (if late then 2048 else 0) + session % 8 * 256 + r.code)

/-- A notice record as its 14 bytes (12.5). -/
def Notice.bytes (n : Notice) : List Byte :=
  be1 n.kind.code ++ be1 n.subject ++ be2 n.detail.toNat ++ beTime n.stamp ++
  (match n.label with
   | some l => beLabel l ++ beFlag true
   | none => List.replicate 5 0 ++ beFlag false)

/-! ### The frame check (R189) -/

/-- One bit of the CRC-16, polynomial 0x1021, most significant bit first. -/
def crcBit (r : BitVec 16) : BitVec 16 := if r.msb then (r <<< 1) ^^^ 0x1021#16 else r <<< 1
def crcBits : Nat → BitVec 16 → BitVec 16
  | 0, r => r
  | n + 1, r => crcBits n (crcBit r)
/-- One byte of the CRC-16. -/
def crcByte (r : BitVec 16) (b : Byte) : BitVec 16 := crcBits 8 (r ^^^ (b.setWidth 16 <<< 8))
/-- The check of a run of bytes, from 0xFFFF, not inverted. -/
def crc16 (bs : List Byte) : BitVec 16 := bs.foldl crcByte 0xFFFF#16

/-- A frame: start byte, length, tag, code, payload, check high byte first (12.2). -/
def frame (tag code : Byte) (payload : List Byte) : List Byte :=
  let body := be1 (payload.length + 2) ++ [tag, code] ++ payload
  0xA5#8 :: body ++ be2 (crc16 body).toNat

/-- The payload that goes out: one a frame cannot carry is a free value (assumption 8). -/
def fitPayload (pl : List Byte) : List Byte :=
  if pl.length ≤ 248 then pl else (Config.oversizePayload pl).take 248

/-! ### Output lines (spec/00, Signals) -/

/-- HAMMERn is driven while a pulse is in progress (R136). -/
def State.hammer (s : State) (b : Fin 16) : Bool := s.bells[b].pulseEnd.isSome
/-- GUARDn_ENG is driven while the guard runs toward the engaged stop (R75). -/
def State.guardEngDrive (s : State) (b : Fin 16) : Bool :=
  s.bells[b].guard.motion == .running && s.bells[b].guard.state == .engaging
/-- GUARDn_REL is driven while the guard runs toward the disengaged stop. -/
def State.guardRelDrive (s : State) (b : Fin 16) : Bool :=
  s.bells[b].guard.motion == .running && s.bells[b].guard.state == .releasing
/-- SWINGn_DRIVE is the motor's level (R86). -/
def State.swingDrive (s : State) (b : Fin 16) : Bool := s.swings[b].motor
/-- DIALn_A is the source wire of a POSITIVE impulse (R46). -/
def State.dialA (s : State) (d : Fin 4) : Bool := s.dials[d].flight.any (fun i => i.polarity == .positive)
/-- DIALn_B is the source wire of a NEGATIVE impulse. -/
def State.dialB (s : State) (d : Fin 4) : Bool := s.dials[d].flight.any (fun i => i.polarity == .negative)
/-- A channel's output is on in WARMING and LIT, off in every other state (R162). -/
def ChannelState.output : ChannelState → Bool
  | .warming => true
  | .lit => true
  | .off => false
  | .cooling => false
  | .failed => false
/-- LAMPn. -/
def State.lamp (s : State) (c : Fin 8) : Bool := s.lights[c].state.output
/-- ATTNn (R203): a notice queued, attention enabled, no holdoff running, no warm reset held. -/
def State.attn (s : State) (p : Port) : Bool :=
  let l := s.ports[portIndex p]
  !l.queue.isEmpty && l.attention && l.holdoffEnd.isNone && s.warm.held.isNone
/-- Ln_TXEN is asserted while a response goes out, and released between responses (R190). -/
def State.txen (s : State) (p : Port) : Bool :=
  let l := s.ports[portIndex p]
  l.sending.isSome && !l.between

end Sys2Proof.Machine
end

