-- ==== Sys2Proof/Machine/Ops.lean ====
section
/-! DEFINITION. The named operations every chapter uses: access to the records, the present time and the
civil time, posting notices (R198 to R200), and taking a request at a port (R190 to R193). -/

namespace Sys2Proof.Machine

/-! ### Records -/

def State.dial (s : State) (d : Fin 4) : Dial := s.dials[d]
def State.setDial (s : State) (d : Fin 4) (r : Dial) : State := { s with dials := s.dials.set d r }
def State.bell (s : State) (b : Fin 16) : Bell := s.bells[b]
def State.setBell (s : State) (b : Fin 16) (r : Bell) : State := { s with bells := s.bells.set b r }
def State.swing (s : State) (b : Fin 16) : Swing := s.swings[b]
def State.setSwing (s : State) (b : Fin 16) (r : Swing) : State := { s with swings := s.swings.set b r }
def State.session (s : State) (n : Fin 4) : Session := s.sessions[n]
def State.setSession (s : State) (n : Fin 4) (r : Session) : State := { s with sessions := s.sessions.set n r }
def State.tune (s : State) (t : Fin 24) : Tune := s.tunes[t]
def State.setTune (s : State) (t : Fin 24) (r : Tune) : State := { s with tunes := s.tunes.set t r }
def State.event (s : State) (e : Fin 96) : Event := s.cal.events[e]
def State.setEvent (s : State) (e : Fin 96) (r : Event) : State :=
  { s with cal := { s.cal with events := s.cal.events.set e r } }
def State.light (s : State) (c : Fin 8) : Channel := s.lights[c]
def State.setLight (s : State) (c : Fin 8) (r : Channel) : State := { s with lights := s.lights.set c r }
def State.port (s : State) (p : Port) : LinkPort := s.ports[portIndex p]
def State.setPort (s : State) (p : Port) (r : LinkPort) : State := { s with ports := s.ports.set (portIndex p) r }
def State.toll (s : State) (t : Fin 4) : Option Toll := s.strike.tolls[t]
def State.setToll (s : State) (t : Fin 4) (r : Option Toll) : State :=
  { s with strike := { s.strike with tolls := s.strike.tolls.set t r } }
def State.setGuard (s : State) (b : Fin 16) (g : Guard) : State := s.setBell b { s.bell b with guard := g }
def State.setQueue (s : State) (q : List Entry) : State := { s with strike := { s.strike with queue := q } }
def State.setLines (s : State) (l : Lines) : State := { s with lines := l }
def State.plan (s : State) : PlanName → Plan
  | .ordinary => s.ordinary
  | .festal => s.festal
def State.setPlan (s : State) (n : PlanName) (r : Plan) : State :=
  match n with
  | .ordinary => { s with ordinary := r }
  | .festal => { s with festal := r }

/-! ### Present time -/

/-- The present instant (R2). -/
def State.now (s : State) : Instant := s.tb.uptime
/-- The label of the current second; none while UNSET (R3). -/
def State.label (s : State) : Option Label := s.tb.label
/-- Time is valid while a label is carried, that is in every discipline state but UNSET (R4). -/
def State.timeValid (s : State) : Bool := s.tb.label.isSome
/-- The civil time of the current second (R28); none while UNSET. -/
def State.civilNow (s : State) : Option Label := s.tb.label.map (civilOf s.civil.offset)
/-- A warm reset is held (R186): the blocks other than the Time Base, receiver, civil unit and supply
monitor take nothing. -/
def State.isHeld (s : State) : Bool := s.warm.held.isSome
def State.onMains (s : State) : Bool := s.supply.state == .mains

/-! ### Notices -/

/-- Copy a notice to a port whose routing takes its class; a full queue loses it and sets the lost flag
(R199, R200). -/
def LinkPort.take (n : Notice) (p : LinkPort) : LinkPort :=
  if p.routing.getLsbD n.kind.cls then
    if p.queue.length < 32 then { p with queue := p.queue ++ [n] } else { p with lost := true }
  else p

/-- Post a notice: to the ports, or to the reset notice list while a warm reset is held (R186, R198). -/
def postNotice (n : Notice) (s : State) : State :=
  if s.isHeld then
    if s.warm.notices.length < 16 then { s with warm := { s.warm with notices := s.warm.notices ++ [n] } }
    else { s with warm := { s.warm with lost := true } }
  else { s with ports := mapV (LinkPort.take n) s.ports }

/-- Post a notice that names its own reference label (R4, R22). -/
def postAt (k : NoticeKind) (subject : Nat) (detail : BitVec 16) (l : Option Label) (s : State) : State :=
  postNotice { kind := k, subject := subject, detail := detail, stamp := s.now, label := l } s

/-- Post a notice stamped now with the label of the current second (R198). -/
def post (k : NoticeKind) (subject : Nat) (detail : BitVec 16) (s : State) : State :=
  postAt k subject detail s.label s

/-! ### Requests at a port -/

/-- What a request's owner gives back: the state after, the status and the payload of the response. -/
structure Reply where
  state : State
  status : Status
  payload : List Byte

/-- A refusal that changes nothing and carries no payload. -/
def refuse (st : Status) (s : State) : Reply := { state := s, status := st, payload := [] }
/-- A refusal with a payload its rule names. -/
def refuseWith (st : Status) (pl : List Byte) (s : State) : Reply := { state := s, status := st, payload := pl }
/-- STALE carries the record's revision as it stands (R195). -/
def refuseStale (revision : Nat) (s : State) : Reply := refuseWith .stale (be1 revision) s
/-- OK with a payload. -/
def accept (pl : List Byte) (s : State) : Reply := { state := s, status := .ok, payload := pl }

/-- Raise a port's discard count, saturating at 65,535 (R189). -/
def LinkPort.discarded (r : LinkPort) : LinkPort := { r with discard := min 65535 (r.discard + 1) }

def discardFrame (p : Port) (s : State) : State := s.setPort p (s.port p).discarded

/-- RESPONDING: a response is going out or BUSY responses are owed (R191). -/
def LinkPort.responding (r : LinkPort) : Bool := r.sending.isSome || !r.owed.isEmpty

/-- A frame handed over while the port is RESPONDING: its tag is owed a BUSY, up to four; beyond that the
frame is discarded (R191). -/
def oweBusy (p : Port) (tag : Byte) (s : State) : State :=
  let r := s.port p
  if r.owed.length < 4 then s.setPort p { r with owed := r.owed ++ [tag] } else discardFrame p s

/-- Begin sending the response (R190). -/
def respond (p : Port) (tag : Byte) (st : Status) (pl : List Byte) (s : State) : State :=
  s.setPort p { s.port p with sending := some (frame tag st.code (fitPayload pl)) }

/-- A frame with a good check is handed over at a port (R191): discarded while a warm reset is held
(R186), owed BUSY while RESPONDING, and taken as a request while IDLE. -/
def takeRequest (p : Port) (tag : Byte) (act : State → Reply) (s : State) : State :=
  if s.isHeld then discardFrame p s
  else if (s.port p).responding then oweBusy p tag s
  else
    let r := act s
    respond p tag r.status r.payload r.state

/-- A request with its role check (R192): DENIED acts on nothing and carries no payload. -/
def request (r : Req) (p : Port) (tag : Byte) (act : State → Reply) (s : State) : State :=
  takeRequest p tag (fun s => if r.permits p then act s else refuse .denied s) s

end Sys2Proof.Machine
end

