-- ==== Sys2Proof/Machine/Bells.lean ====
section
/-! DEFINITION. Chapters 4 and 5: holders, guards, swings and ring sessions; the shared operations first,
then one meaning for each of their commands. -/

namespace Sys2Proof.Machine

/-! ### Session start (R97) -/

/-- The bell waiting for its start: the first not started. -/
def Session.waiting (r : Session) : Option (Fin 16) := (r.bells.find? (fun x => !x.started)).map (·.bell)
/-- The bells not started. -/
def Session.unstarted (r : Session) : List (Fin 16) := (r.bells.filter (fun x => !x.started)).map (·.bell)
/-- Without a bell. -/
def Session.without (r : Session) (b : Fin 16) : Session := { r with bells := r.bells.filter (fun x => x.bell != b) }
/-- With a bell marked started. -/
def Session.markStarted (r : Session) (b : Fin 16) : Session :=
  { r with bells := r.bells.map (fun x => if x.bell = b then { x with started := true } else x) }
/-- "When no bell of the session is marked not started, the phase becomes RINGING. The next start slot
then becomes none." -/
def Session.ringIfAllStarted (r : Session) : Session :=
  if r.phase = .startingBells ∧ r.unstarted = [] then { r with phase := .ringing, nextStart := none } else r

/-- The bell that session `n` may start now (R97). -/
def startable (n : Fin 4) (s : State) : Option (Fin 16) :=
  let r := s.session n
  if r.phase = .startingBells ∧ reached r.nextStart s.now ∧ s.onMains then
    match r.waiting with
    | some b =>
      if (s.bell b).guard.state = .engaged ∧ ((s.swing b).state = .atRest ∨ (s.swing b).state = .drifting) then some b
      else none
    | none => none
  else none

/-- Start the motor of a session's waiting bell (R97). A settle deadline of DRIFTING ends, the model's choice
(assumption 43). -/
def startBell (n : Fin 4) (b : Fin 16) (s : State) : State :=
  let s := s.setSwing b { s.swing b with
    motor := true, motorOn := some s.now, qualifying := 0, state := .starting, settleDeadline := none }
  let r := (s.session n).markStarted b
  s.setSession n { r with nextStart := some (s.now + r.stagger * 1000) }.ringIfAllStarted

/-- The start test of R97: at the slot, at a guard's report, at an entry into AT_REST. -/
def tryStart (n : Fin 4) (s : State) : State :=
  match startable n s with
  | some b => startBell n b s
  | none => s

/-- The start test for the session that holds a bell. -/
def tryStartOf (b : Fin 16) (s : State) : State :=
  match (s.bell b).holder with
  | .service n => tryStart n s
  | _ => s

/-! ### Guard motion (R73 to R76) -/

/-- A motion is complete (R76): the stop is reached, GUARD_READY is posted, the swing controller is told. -/
def guardComplete (b : Fin 16) (s : State) : State :=
  let g := (s.bell b).guard
  let st := if g.state = .engaging then GuardState.engaged else .disengaged
  let s := s.setGuard b { g with state := st, motion := .idle, deadline := none }
  let s := post .guardReady (b.1 + 1) (pair 0 st.code) s
  tryStartOf b s

/-- The contact of the stop a guard was sent to is closed (R76). -/
def Guard.atTarget (g : Guard) : Bool :=
  match g.state with
  | .engaging => g.atEng.settled
  | .releasing => g.atDis.settled
  | _ => false

/-- Begin the motion of a guard in ENGAGING or RELEASING (R75), completing at once if its target contact
is closed already (R76). -/
def guardBegin (b : Fin 16) (s : State) : State :=
  let r := s.bell b
  if r.pulseEnd.isSome then s.setGuard b { r.guard with motion := .waitingPulse, deadline := none }
  else if !s.onMains then s.setGuard b { r.guard with motion := .halted, deadline := none }
  else if r.guard.atTarget then guardComplete b s
  else s.setGuard b { r.guard with motion := .running, deadline := some (s.now + r.config.travel * 1000) }

/-- A guard is commanded to engage (R73). -/
def guardEngage (b : Fin 16) (s : State) : State :=
  let r := s.bell b
  if !r.config.guardFitted then s
  else
    match r.guard.state with
    | .disengaged | .releasing =>
      guardBegin b (s.setGuard b { r.guard with direction := .engage, state := .engaging })
    | .engaging | .engaged | .fault => s.setGuard b { r.guard with direction := .engage }

/-- The release test (R74): made when the holder becomes FREE, at AT_REST, and after a reading. -/
def guardRelease (b : Fin 16) (s : State) : State :=
  let r := s.bell b
  if !r.config.guardFitted || r.holder != .free then s
  else
    match r.guard.state with
    | .engaged | .engaging =>
      if (s.swing b).state = .atRest then
        guardBegin b (s.setGuard b { r.guard with direction := .release, state := .releasing })
      else s.setGuard b { r.guard with direction := .release }
    | .disengaged | .releasing | .fault => s.setGuard b { r.guard with direction := .release }

/-! ### Holders (R65) -/

/-- A bell's holder becomes another, and CLAIM_CHANGED is posted. -/
def changeHolder (b : Fin 16) (h : Holder) (s : State) : State :=
  let old := (s.bell b).holder
  post .claimChanged (b.1 + 1) (claimDetail old h) (s.setBell b { s.bell b with holder := h })

/-- Change a bell's holder: CLAIM_CHANGED is posted and the guard controller is told. A holder kept posts
nothing. -/
def setHolder (b : Fin 16) (h : Holder) (s : State) : State :=
  let old := (s.bell b).holder
  if old = h then s
  else
    let s := changeHolder b h s
    if h = .free then guardRelease b s
    else if old = .free then guardEngage b s
    else s

/-! ### Swings and sessions -/

/-- The settle time of a bell in ms, as configured now. -/
def settleMs (b : Fin 16) (s : State) : Nat := (s.bell b).config.settle * 1000

/-- Turn a motor off (R89): STARTING and SWINGING enter STOPPING (R92). -/
def motorOff (b : Fin 16) (s : State) : State :=
  let w := s.swing b
  let w' := { w with motor := false, motorOn := none }
  if w.state = .starting ∨ w.state = .swinging then
    s.setSwing b { w' with state := .stopping, settleDeadline := some (max s.now (w.lastPulse.getD 0) + settleMs b s) }
  else s.setSwing b w'

/-- A session of which no bell has its motor on has no next stop slot (R100). -/
def settleStopSlot (n : Fin 4) (s : State) : State :=
  let r := s.session n
  if r.phase = .stoppingBells ∧ r.bells.all (fun x => !(s.swing x.bell).motor) then
    s.setSession n { r with nextStop := none }
  else s

/-- The last bell has left: the session ends (R101). -/
def endSession (n : Fin 4) (s : State) : State :=
  let r := s.session n
  let cause := if r.phase = .startingBells ∨ r.phase = .ringing then EndCause.emptied else r.endCause
  let s := s.setSession n { r with phase := .ended, nextStart := none, nextStop := none, endCause := cause }
  post .sessionEnded (n.1 + 1) (pair 0 cause.code) s

/-- After bells have left a session: it ends if it has none, rings if all are started, and the next
waiting bell may start (R97, R99, R101). -/
def afterLeaving (n : Fin 4) (s : State) : State :=
  let r := s.session n
  if r.phase = .ended then s
  else if r.bells = [] then endSession n s
  else tryStart n (settleStopSlot n (s.setSession n r.ringIfAllStarted))

/-- A bell leaves its session early (R99): motor off, its holder becomes `h`, it departs, SESSION_DEGRADED. -/
def leaveEarly (b : Fin 16) (h : Holder) (s : State) : State :=
  match (s.bell b).holder with
  | .service n =>
    let s := setHolder b h (motorOff b s)
    let r := (s.session n).without b
    let s := s.setSession n { r with departed := r.departed ||| bellMask [b] }
    let s := post .sessionDegraded (n.1 + 1) (bellMask [b]) s
    afterLeaving n s
  | _ => motorOff b s

/-- A guard enters GUARD_FAULT and posts it (R77, R78). -/
def guardFaultState (b : Fin 16) (c : GuardCause) (s : State) : State :=
  let g := (s.bell b).guard
  let s := s.setGuard b { g with state := .fault, motion := .idle, deadline := none }
  post .guardFault (b.1 + 1) (guardFaultDetail c g) s

/-- A guard fault, handed to the swing controller: a SERVICE bell leaves its session (R77, R78). -/
def guardFault (b : Fin 16) (c : GuardCause) (s : State) : State :=
  leaveEarly b .free (guardFaultState b c s)

/-- Read a fitted guard from its settled contacts and reconcile it with the holder (R72). -/
def readGuard (b : Fin 16) (s : State) : State :=
  let r := s.bell b
  let g := r.guard
  let dir := if r.holder = .free then Direction.release else .engage
  let st := match g.atEng.settled, g.atDis.settled with
    | true, false => GuardState.engaged
    | false, true => .disengaged
    | _, _ => .fault
  let s := s.setGuard b { g with state := st, direction := dir, motion := .idle, deadline := none }
  match st with
  | .fault => post .guardFault (b.1 + 1) (guardFaultDetail .contactRead g) s
  | .disengaged => if r.holder = .free then s else guardEngage b s
  | _ => guardRelease b s

/-- A swing enters AT_REST: the history is emptied and the last sensor pulse becomes none (R86). -/
def enterAtRest (b : Fin 16) (s : State) : State :=
  s.setSwing b { s.swing b with state := .atRest, settleDeadline := none, history := [], lastPulse := none }

/-- A swing fault (R90, R91, R93): motor off, FAULT with its cause, SWING_FAULT, a SERVICE bell leaves. -/
def swingFault (b : Fin 16) (c : SwingFault) (s : State) : State :=
  let s := s.setSwing b { s.swing b with
    state := .fault, fault := c, motor := false, motorOn := none, settleDeadline := none }
  let s := post .swingFault (b.1 + 1) (pair 0 c.code) s
  leaveEarly b .free s

/-- The measured period (R86). -/
def Swing.period (w : Swing) : Option Nat :=
  if w.history = [] then none else some (w.history.sum / w.history.length)

/-- A session enters STOPPING_BELLS outside warm reset (R100): the bells not started leave at once, ascending, each
with its CLAIM_CHANGED and its guard's release before the next, the model's choice (assumption 51). -/
def enterStopping (n : Fin 4) (c : EndCause) (s : State) : State :=
  let r := s.session n
  let out := r.unstarted
  let s := s.setSession n { r with
    phase := .stoppingBells, endCause := c, nextStart := none, nextStop := some s.now,
    bells := r.bells.filter (·.started) }
  let s := out.foldl (fun s b => setHolder b .free s) s
  let s := settleStopSlot n s
  if (s.session n).bells = [] then endSession n s else s

/-! ### Session creation (R96) -/

/-- Why a named bell is left out, or none if it is eligible. -/
def leftOutReason (b : Fin 16) (s : State) : Option Status :=
  if !(s.bell b).config.drive then some .notFitted
  else if (s.bell b).holder ≠ .free then some .busy
  else if (s.swing b).state = .fault then some .state
  else none

/-- The bells of a list that would be left out, with their reasons. -/
def leftOutOf (bs : List (Fin 16)) (s : State) : List LeftOut :=
  bs.filterMap (fun b => (leftOutReason b s).map (fun r => { bell := b, reason := r }))

/-- The outcome of a session creation (R96). -/
inductive Created where
  | created (n : Fin 4)
  | supply
  | sessionsFull
  | noBells
deriving DecidableEq, Repr

/-- Hand a guard already in GUARD_FAULT to the swing controller (R79). -/
def handFault (b : Fin 16) (s : State) : State :=
  if (s.bell b).guard.state = .fault then leaveEarly b .free s else s

/-- Fill a session record and take its bells (R96, R101). Duration in ms. A bell whose guard is in GUARD_FAULT is handed
over after SESSION_STARTED and SESSION_DEGRADED, the model's choice (R79, assumption 50). -/
def createIn (n : Fin 4) (origin : SessionOrigin) (mask : BitVec 16) (stagger duration : Nat) (s : State) : State :=
  let named := maskBells mask
  let out := leftOutOf named s
  let bs := named.filter (fun b => (leftOutReason b s).isNone)
  let s := s.setSession n {
    phase := .startingBells, origin := origin, bells := bs.map (fun b => { bell := b, started := false }),
    leftOut := out, departed := 0, stagger := stagger, creation := s.now, endTime := s.now + duration,
    nextStart := some s.now, nextStop := none, endCause := .none }
  let s := bs.foldl (fun s b => setHolder b (.service n) s) s
  let s := post .sessionStarted (n.1 + 1) (bellMask bs) s
  let s := if out = [] then s else post .sessionDegraded (n.1 + 1) (bellMask (out.map (·.bell))) s
  let s := bs.foldl (fun s b => handFault b s) s
  tryStart n s

/-- Create a session if its checks pass (R96). -/
def createSession (origin : SessionOrigin) (mask : BitVec 16) (stagger duration : Nat) (s : State) : State × Created :=
  if !s.onMains then (s, .supply)
  else
    match allFour.find? (fun n => (s.session n).phase == .ended) with
    | none => (s, .sessionsFull)
    | some n =>
      if (maskBells mask).all (fun b => (leftOutReason b s).isSome) then (s, .noBells)
      else (createIn n origin mask stagger duration s, .created n)

/-! ### Contacts (R70) -/

/-- The level of a guard contact line. -/
def State.contactLine (s : State) (b : Fin 16) : Contact → Bool
  | .engaged => s.lines.guardEng[b]
  | .disengaged => s.lines.guardDis[b]
def Guard.contact (g : Guard) : Contact → ContactLevel
  | .engaged => g.atEng
  | .disengaged => g.atDis
def Guard.setContact (g : Guard) (c : Contact) (l : ContactLevel) : Guard :=
  match c with
  | .engaged => { g with atEng := l }
  | .disengaged => { g with atDis := l }

/-- A settling that has held 20 ms. -/
def settleReached (l : ContactLevel) (now : Instant) : Bool :=
  match l.since with
  | some t => t + 20 ≤ now
  | none => false

/-- What a newly settled contact does (R76, R78). -/
def contactTaken (b : Fin 16) (c : Contact) (closed : Bool) (s : State) : State :=
  let r := s.bell b
  if !r.config.guardFitted then s
  else
    match r.guard.state, c, closed with
    | .engaged, .engaged, false => guardFault b .lostEngaged s
    | .disengaged, .disengaged, false => guardFault b .lostDisengaged s
    | .engaging, .engaged, true => if r.guard.motion = .running then guardComplete b s else s
    | .releasing, .disengaged, true => if r.guard.motion = .running then guardComplete b s else s
    | _, _, _ => s

/-! ### Reactions to the supply (R80, R89, R102) -/

/-- The Guard Controller at the loss of mains: a running motion halts (R80). -/
def guardHalt (b : Fin 16) (s : State) : State :=
  let g := (s.bell b).guard
  if g.motion = .running then s.setGuard b { g with motion := .halted, deadline := none } else s

/-- The Guard Controller at the return of mains: a halted motion resumes (R80). -/
def guardResume (b : Fin 16) (s : State) : State :=
  if (s.bell b).guard.motion = .halted then guardBegin b s else s

/-- A session at the loss of mains (R102). -/
def sessionSupplyLost (n : Fin 4) (s : State) : State :=
  match (s.session n).phase with
  | .startingBells => enterStopping n .supply s
  | .ringing => enterStopping n .supply s
  | .stoppingBells => settleStopSlot n s
  | .ended => s

/-- The swing controller at the loss of mains: every motor off, every session stopping (R89, R102), the bells and
the sessions ascending, the model's choice (assumption 24). -/
def swingsSupplyLost (s : State) : State :=
  let s := allBells.foldl (fun s b => motorOff b s) s
  allFour.foldl (fun s n => sessionSupplyLost n s) s

/-! ### Warm reset (R85, R94, R103) -/

/-- A bell at the entry of a warm reset: the pulse mark cleared, the guard outputs released (R85). -/
def Bell.warmReset (r : Bell) : Bell :=
  { r with pulseEnd := none, guard := { r.guard with motion := .idle, deadline := none } }

/-- A swing at the entry of a warm reset: STOPPING, its settle deadline set at the completion (R94). -/
def Swing.warmReset (_ : Swing) : Swing := { state := .stopping }

/-- A session at the entry of a warm reset (R103). -/
def Session.warmReset (r : Session) : Session :=
  match r.phase with
  | .ended => r
  | .stoppingBells => { r with nextStart := none, nextStop := none }
  | _ => { r with phase := .stoppingBells, endCause := .warmReset, nextStart := none, nextStop := none }

/-- At the completion a contact level that has held 20 ms is the settled one (R187 step 3; assumption 22). -/
def ContactLevel.settle (l : ContactLevel) (line : Bool) (now : Instant) : ContactLevel :=
  if settleReached l now then { settled := line, since := none } else l

/-- Guard and swing of a bell at the completion (R72, R94, R187 step 3). -/
def bellCompletion (b : Fin 16) (s : State) : State :=
  let r := s.bell b
  let g := { r.guard with
    atEng := r.guard.atEng.settle s.lines.guardEng[b] s.now
    atDis := r.guard.atDis.settle s.lines.guardDis[b] s.now }
  let s := s.setGuard b g
  if r.config.guardFitted then readGuard b s else s

/-- The settle deadline every swing takes from the completion (R94). -/
def swingCompletion (b : Fin 16) (s : State) : State :=
  s.setSwing b { s.swing b with settleDeadline := some (s.now + settleMs b s) }

/-! ### Events -/

/-- GUARD_CONTACT_CHANGE (R70): the line moves and its settling starts, or ends unseen. -/
def guardContactChange (b : Fin 16) (c : Contact) (closed : Bool) (s : State) : State :=
  if s.contactLine b c = closed then s
  else
    let l := s.lines
    let s := s.setLines (match c with
      | .engaged => { l with guardEng := l.guardEng.set b closed }
      | .disengaged => { l with guardDis := l.guardDis.set b closed })
    let g := (s.bell b).guard
    let k := g.contact c
    s.setGuard b (g.setContact c { k with since := if closed = k.settled then none else some s.now })

def execGuardContactChange (b : Fin 16) (c : Contact) (closed : Bool) (s : State) :
    Host.Outcome State Fault Refusal := .next (guardContactChange b c closed s)

/-- GUARD_CONTACT_SETTLED (R70, R76, R78). -/
def guardContactSettled (b : Fin 16) (c : Contact) (s : State) : State :=
  let g := (s.bell b).guard
  if s.isHeld || !settleReached (g.contact c) s.now then s
  else
    let level := s.contactLine b c
    contactTaken b c level (s.setGuard b (g.setContact c { settled := level, since := none }))

def execGuardContactSettled (b : Fin 16) (c : Contact) (s : State) : Host.Outcome State Fault Refusal :=
  .next (guardContactSettled b c s)

/-- GUARD_TRAVEL_TIMEOUT (R77): a running guard's deadline passes. -/
def guardTravelTimeout (b : Fin 16) (s : State) : State :=
  let g := (s.bell b).guard
  if s.isHeld || g.motion != .running || !reached g.deadline s.now then s
  else guardFault b (if g.state = .engaging then .travelEngage else .travelRelease) s

def execGuardTravelTimeout (b : Fin 16) (s : State) : Host.Outcome State Fault Refusal :=
  .next (guardTravelTimeout b s)

/-- An interval lies within ±25 % of the nominal period, both bounds included (R90). -/
def qualifies (b : Fin 16) (interval : Nat) (s : State) : Bool :=
  let n := (s.bell b).config.period * 10
  3 * n ≤ 4 * interval && 4 * interval ≤ 5 * n

/-- What a taken pulse does by the swing state (R88, R90 to R93); the interval is recorded already. -/
def pulseTaken (b : Fin 16) (interval : Option Nat) (s : State) : State :=
  let w := s.swing b
  let settled := some (s.now + settleMs b s)
  match w.state with
  | .atRest =>
    let s := s.setSwing b { w with state := .drifting, settleDeadline := settled }
    if (s.bell b).holder = .free then
      post .unexpectedMotion (b.1 + 1) (pair 0 (s.bell b).guard.state.code) s
    else s
  | .drifting => s.setSwing b { w with settleDeadline := settled }
  | .stopping => s.setSwing b { w with settleDeadline := settled }
  | .starting =>
    match interval with
    | none => s
    | some i =>
      if !qualifies b i s then s.setSwing b { w with qualifying := 0 }
      else if w.qualifying + 1 ≥ 3 then
        let s := s.setSwing b { w with state := .swinging, qualifying := 0 }
        post .bellSwinging (b.1 + 1) (BitVec.ofNat 16 (sat 65535 (w.period.getD 0))) s
      else s.setSwing b { w with qualifying := w.qualifying + 1 }
  | .swinging => s
  | .fault => s

/-- SENSOR_PULSE (R87): read with a sensor fitted, 250 ms of bounce ignored. -/
def sensorPulse (b : Fin 16) (s : State) : State :=
  let w := s.swing b
  if s.isHeld || !(s.bell b).config.sensor then s
  else
    match w.lastPulse with
    | none => pulseTaken b none (s.setSwing b { w with lastPulse := some s.now })
    | some t =>
      let i := s.now - t
      if i < 250 then s
      else
        let h := w.history ++ [i]
        pulseTaken b (some i) (s.setSwing b { w with
          history := if h.length > 4 then h.drop 1 else h, lastPulse := some s.now })

def execSensorPulse (b : Fin 16) (s : State) : Host.Outcome State Fault Refusal := .next (sensorPulse b s)

/-- DRIFT_SETTLED (R88). -/
def driftSettled (b : Fin 16) (s : State) : State :=
  let w := s.swing b
  if s.isHeld || w.state != .drifting || !reached w.settleDeadline s.now then s
  else
    let s := post .bellAtRest (b.1 + 1) (pair 0 SwingState.drifting.code) (enterAtRest b s)
    tryStartOf b (guardRelease b s)

def execDriftSettled (b : Fin 16) (s : State) : Host.Outcome State Fault Refusal := .next (driftSettled b s)

/-- A bell of session `n` that has settled becomes FREE and leaves it, and last its guard is released (R92). -/
def leaveSettled (n : Fin 4) (b : Fin 16) (s : State) : State :=
  let s := changeHolder b .free s
  guardRelease b (afterLeaving n (s.setSession n ((s.session n).without b)))

/-- A session in STARTING_BELLS has a bell it has not started: one that a settle does not free (R97, R99,
assumption 23). -/
def Session.awaits (r : Session) (b : Fin 16) : Bool := r.phase == .startingBells && r.unstarted.contains b

/-- STOP_SETTLED (R92): AT_REST; a SERVICE bell that its session awaits may start (R97), any other is freed and
leaves its session; then the guard. -/
def stopSettled (b : Fin 16) (s : State) : State :=
  let w := s.swing b
  if s.isHeld || w.state != .stopping || !reached w.settleDeadline s.now then s
  else
    let s := post .bellAtRest (b.1 + 1) (pair 0 SwingState.stopping.code) (enterAtRest b s)
    match (s.bell b).holder with
    | .service n => if (s.session n).awaits b then tryStart n s else leaveSettled n b s
    | _ => guardRelease b s

def execStopSettled (b : Fin 16) (s : State) : Host.Outcome State Fault Refusal := .next (stopSettled b s)

/-- START_TIMEOUT (R90): 60 s from motor-on in STARTING. -/
def startTimeout (b : Fin 16) (s : State) : State :=
  let w := s.swing b
  if s.isHeld || w.state != .starting || !reached (w.motorOn.map (· + 60000)) s.now then s
  else swingFault b .startTimeout s

def execStartTimeout (b : Fin 16) (s : State) : Host.Outcome State Fault Refusal := .next (startTimeout b s)

/-- The loss deadline (R91): three nominal periods after the last taken pulse. -/
def lossDeadline (b : Fin 16) (s : State) : Option Instant :=
  (s.swing b).lastPulse.map (· + 3 * ((s.bell b).config.period * 10))

/-- SWING_LOST (R91). -/
def swingLost (b : Fin 16) (s : State) : State :=
  if s.isHeld || (s.swing b).state != .swinging || !reached (lossDeadline b s) s.now then s
  else swingFault b .swingLost s

def execSwingLost (b : Fin 16) (s : State) : Host.Outcome State Fault Refusal := .next (swingLost b s)

/-- SESSION_START_SLOT (R97). -/
def sessionStartSlot (n : Fin 4) (s : State) : State := if s.isHeld then s else tryStart n s

def execSessionStartSlot (n : Fin 4) (s : State) : Host.Outcome State Fault Refusal := .next (sessionStartSlot n s)

/-- A session is in STARTING_BELLS or RINGING. -/
def Session.running (r : Session) : Bool := r.phase == .startingBells || r.phase == .ringing

/-- SESSION_END_TIME (R98). -/
def sessionEndTime (n : Fin 4) (s : State) : State :=
  let r := s.session n
  if s.isHeld || !r.running || s.now < r.endTime then s else enterStopping n .endTime s

def execSessionEndTime (n : Fin 4) (s : State) : Host.Outcome State Fault Refusal := .next (sessionEndTime n s)

/-- The last bell of a session in start order whose motor is on (R100). -/
def lastRunning (n : Fin 4) (s : State) : Option (Fin 16) :=
  (((s.session n).bells.map (·.bell)).filter (fun b => (s.swing b).motor)).getLast?

/-- SESSION_STOP_SLOT (R100). -/
def sessionStopSlot (n : Fin 4) (s : State) : State :=
  let r := s.session n
  if s.isHeld || r.phase != .stoppingBells || !reached r.nextStop s.now then s
  else
    match lastRunning n s with
    | none => settleStopSlot n s
    | some b =>
      let s := motorOff b s
      settleStopSlot n (s.setSession n { s.session n with nextStop := some (s.now + r.stagger * 1000) })

def execSessionStopSlot (n : Fin 4) (s : State) : Host.Outcome State Fault Refusal := .next (sessionStopSlot n s)

/-! ### Requests of the Bell Table (R66 to R68, R81 to R84) -/

/-- Claim one bell for ROPES or MAINT (R66, R67): the state after and the reason it is refused, if it is. A bell
taken from a session leaves it whole before the next bell of the mask is decided, the model's choice
(assumption 42). -/
def claimBell (p : Port) (ropes : Bool) (b : Fin 16) (s : State) : State × Option Status :=
  let r := s.bell b
  match r.holder with
  | .free =>
    if ropes then
      if r.config.guardFitted then (setHolder b .ropes s, none) else (s, some .notFitted)
    else (setHolder b (.maint p) s, none)
  | .service _ => if ropes then (s, some .busy) else (leaveEarly b (.maint p) s, none)
  | .ropes => if ropes then (s, none) else (s, some .busy)
  | .maint q => if !ropes ∧ q = p then (s, none) else (s, some .busy)

/-- Decide a list of bells one by one, ascending, gathering each bell's refusal. -/
def decideBells (f : Fin 16 → State → State × Option Status) :
    List (Fin 16) → State → State × List (Fin 16 × Option Status)
  | [], s => (s, [])
  | b :: bs, s =>
    let r := f b s
    let rest := decideBells f bs r.1
    (rest.1, (b, r.2) :: rest.2)

/-- The bells granted or released, and refused, of a decision. -/
def grantedMask (ds : List (Fin 16 × Option Status)) : BitVec 16 :=
  bellMask ((ds.filter (fun d => d.2.isNone)).map (·.1))
def refusedMask (ds : List (Fin 16 × Option Status)) : BitVec 16 :=
  bellMask ((ds.filter (fun d => d.2.isSome)).map (·.1))

/-- The payload of CLAIM and RELEASE (12.3): the two masks and sixteen bytes, one per bell. -/
def bellsPayload (ds : List (Fin 16 × Option Status)) (granted : Fin 16 → List Byte) : List Byte :=
  beMask (grantedMask ds) ++ beMask (refusedMask ds) ++
  allBells.flatMap (fun b =>
    match ds.find? (fun d => d.1 = b) with
    | none => [0xFF]
    | some (_, none) => granted b
    | some (_, some st) => [st.code])

/-- CLAIM (R66). -/
def actClaim (p : Port) (kind mask : Nat) (s : State) : Reply :=
  if kind = 0 ∧ p = .l1 then refuse .denied s
  else if kind > 1 ∨ mask % 65536 = 0 then refuse .range s
  else
    let d := decideBells (claimBell p (kind == 0)) (maskBells (BitVec.ofNat 16 mask)) s
    accept (bellsPayload d.2 (fun b => be1 (d.1.bell b).guard.state.code)) d.1

def claim (p : Port) (tag : Byte) (kind mask : Nat) (s : State) : State :=
  request .claim p tag (actClaim p kind mask) s

def execClaim (p : Port) (tag : Byte) (kind mask : Nat) (s : State) : Host.Outcome State Fault Refusal :=
  .next (claim p tag kind mask s)

/-- Release one bell (R68). -/
def releaseBell (p : Port) (b : Fin 16) (s : State) : State × Option Status :=
  match (s.bell b).holder with
  | .free => (s, some .state)
  | .service _ => (s, some .busy)
  | .ropes => if p = .l2 then (setHolder b .free s, none) else (s, some .busy)
  | .maint q => if q = p then (setHolder b .free s, none) else (s, some .busy)

/-- RELEASE (R68). -/
def actRelease (p : Port) (mask : Nat) (s : State) : Reply :=
  if mask % 65536 = 0 then refuse .range s
  else
    let d := decideBells (releaseBell p) (maskBells (BitVec.ofNat 16 mask)) s
    accept (bellsPayload d.2 (fun _ => [0x00])) d.1

def release (p : Port) (tag : Byte) (mask : Nat) (s : State) : State := request .release p tag (actRelease p mask) s

def execRelease (p : Port) (tag : Byte) (mask : Nat) (s : State) : Host.Outcome State Fault Refusal :=
  .next (release p tag mask s)

/-- The configuration a BELL_CONFIG asks for, unclamped; none where a check of R81 fails with RANGE. -/
def bellSettings (b : Fin 16) (a : BellArgs) (revision : Nat) : Option BellConfig :=
  match yesNo a.hammer, yesNo a.guard, yesNo a.drive, yesNo a.sensor with
  | some h, some g, some d, some w =>
    let policy : Option Policy :=
      if a.policy = 0 then some .skip
      else if a.policy = 1 then
        match named 16 a.substitute with
        | some x => if x = b then none else some (.substitute x)
        | none => none
      else none
    match policy with
    | none => none
    | some pol =>
      if d && !(w && g) then none
      else some {
        hammer := h, guardFitted := g, drive := d, sensor := w
        width := clamp 20 200 a.width, recovery := clamp 150 3000 a.recovery, travel := clamp 1 20 a.travel
        period := clamp 100 400 a.period, settle := clamp 4 30 a.settle
        policy := pol, revision := nextRevision revision }
  | _, _, _, _ => none

/-- The stored values and revision of a bell configuration, in the record's order (R63). -/
def BellConfig.bytes (c : BellConfig) : List Byte :=
  beFlag c.hammer ++ beFlag c.guardFitted ++ beFlag c.drive ++ beFlag c.sensor ++ be1 c.width ++ be2 c.recovery ++
  be1 c.travel ++ be2 c.period ++ be1 c.settle ++ be1 c.policy.code ++ be1 c.policy.bell ++ be1 c.revision

/-- Write a bell's configuration and let the changes of fitting act (R82, R94). -/
def writeBell (b : Fin 16) (c : BellConfig) (s : State) : State :=
  let old := (s.bell b).config
  let s := s.setBell b { s.bell b with config := c }
  let s := if old.sensor && !c.sensor then
      s.setSwing b { s.swing b with history := [], lastPulse := none } else s
  if old.guardFitted && !c.guardFitted then
    s.setGuard b { (s.bell b).guard with state := .disengaged, direction := .release, motion := .idle, deadline := none }
  else if !old.guardFitted && c.guardFitted then readGuard b s
  else s

/-- BELL_CONFIG (R81, R82). -/
def actBellConfig (a : BellArgs) (s : State) : Reply :=
  match named 16 a.bell with
  | none => refuse .range s
  | some b =>
    let r := s.bell b
    match bellSettings b a r.config.revision with
    | none => refuse .range s
    | some c =>
      if !revisionOk a.revision r.config.revision then refuseStale r.config.revision s
      else if r.holder ≠ .free ∨ (s.swing b).state ≠ .atRest ∨ r.guard.state = .engaging ∨ r.guard.state = .releasing then
        refuse .busy s
      else accept c.bytes (writeBell b c s)

def bellConfig (p : Port) (tag : Byte) (a : BellArgs) (s : State) : State :=
  request .bellConfig p tag (actBellConfig a) s

def execBellConfig (p : Port) (tag : Byte) (args : BellArgs) (s : State) : Host.Outcome State Fault Refusal :=
  .next (bellConfig p tag args s)

/-- The outcomes of BELL_FAULT_CLEAR's parts (R83, R93; assumption 19 for the codes). -/
inductive ClearOutcome where
  | cleared | swingNotAtRest | notFaulted
deriving DecidableEq, Repr

def ClearOutcome.code : ClearOutcome → Nat
  | .cleared => 0 | .swingNotAtRest => 1 | .notFaulted => 2

/-- The swing part, decided first: FAULT moves to STOPPING (R93). -/
def clearSwing (b : Fin 16) (s : State) : State × ClearOutcome :=
  let w := s.swing b
  if w.state = .fault then
    (s.setSwing b { w with
      state := .stopping, fault := .none, settleDeadline := some (max s.now (w.lastPulse.getD 0) + settleMs b s) },
      .cleared)
  else (s, .notFaulted)

/-- The guard part: a faulted guard is retried toward its commanded stop (R83). -/
def clearGuard (b : Fin 16) (s : State) : State × ClearOutcome :=
  let g := (s.bell b).guard
  if g.state ≠ .fault ∨ !(s.bell b).config.guardFitted then (s, .notFaulted)
  else if g.direction = .engage then (guardBegin b (s.setGuard b { g with state := .engaging }), .cleared)
  else if (s.swing b).state = .atRest then (guardBegin b (s.setGuard b { g with state := .releasing }), .cleared)
  else (s, .swingNotAtRest)

/-- BELL_FAULT_CLEAR (R83). The codes of the outcomes are the model's choice (assumption 19). -/
def actBellFaultClear (bell : Nat) (s : State) : Reply :=
  match named 16 bell with
  | none => refuse .range s
  | some b =>
    let w := clearSwing b s
    let g := clearGuard b w.1
    let outcomes := be1 g.2.code ++ be1 w.2.code
    if w.2 = .cleared ∨ g.2 = .cleared then
      accept (outcomes ++ be1 (g.1.bell b).guard.state.code ++ be1 (g.1.swing b).state.code) g.1
    else refuseWith .state outcomes s

def bellFaultClear (p : Port) (tag : Byte) (bell : Nat) (s : State) : State :=
  request .bellFaultClear p tag (actBellFaultClear bell) s

def execBellFaultClear (p : Port) (tag : Byte) (bell : Nat) (s : State) : Host.Outcome State Fault Refusal :=
  .next (bellFaultClear p tag bell s)

/-! ### Requests of service ringing (R105 to R107) -/

/-- RING_START (R105). -/
def actRingStart (mask stagger duration : Nat) (s : State) : Reply :=
  if mask % 65536 = 0 then refuse .range s
  else
    let m := BitVec.ofNat 16 mask
    let stg := clamp 2 30 stagger
    let dur := clamp 1 60 duration
    let out := leftOutOf (maskBells m) s
    match createSession .manual m stg (dur * 60000) s with
    | (_, .supply) => refuseWith .state (beLeftOut out) s
    | (_, .sessionsFull) => refuseWith .full (beLeftOut out) s
    | (_, .noBells) =>
      refuseWith (if out.all (fun x => x.reason == .notFitted) then .notFitted else .busy) (beLeftOut out) s
    | (s', .created n) =>
      let taken := (maskBells m).filter (fun b => (leftOutReason b s).isNone)
      accept (be1 (n.1 + 1) ++ beMask (bellMask taken) ++ beLeftOut out ++ be1 stg ++ be1 dur ++
        beTime (s.now + dur * 60000)) s'

def ringStart (p : Port) (tag : Byte) (mask stagger duration : Nat) (s : State) : State :=
  request .ringStart p tag (actRingStart mask stagger duration) s

def execRingStart (p : Port) (tag : Byte) (mask stagger duration : Nat) (s : State) :
    Host.Outcome State Fault Refusal := .next (ringStart p tag mask stagger duration s)

/-- RING_CANCEL (R106). -/
def actRingCancel (session : Nat) (s : State) : Reply :=
  match named 4 session with
  | none => refuse .range s
  | some n =>
    let r := s.session n
    match r.phase with
    | .ended => refuse .state s
    | .stoppingBells => accept (be1 Phase.stoppingBells.code) s
    | _ => accept (be1 Phase.stoppingBells.code ++ beMask (bellMask r.unstarted)) (enterStopping n .cancel s)

def ringCancel (p : Port) (tag : Byte) (session : Nat) (s : State) : State :=
  request .ringCancel p tag (actRingCancel session) s

def execRingCancel (p : Port) (tag : Byte) (session : Nat) (s : State) : Host.Outcome State Fault Refusal :=
  .next (ringCancel p tag session s)

/-- The snapshot of RING_READ: the items of R107, and the fault cause of each bell that R86 adds (assumption 18). -/
def sessionBytes (n : Fin 4) (s : State) : List Byte :=
  let r := s.session n
  be1 r.phase.code ++ be1 r.origin.code ++ be1 r.origin.number ++ be1 r.stagger ++ beTime r.creation ++
  beTime r.endTime ++ beSpan (r.endTime - s.now) ++ beMarked 4 beTime r.nextStart ++ beMarked 4 beTime r.nextStop ++
  beLeftOut r.leftOut ++ beMask r.departed ++ be1 r.endCause.code ++
  beList (fun x => be1 (x.bell.1 + 1) ++ beFlag x.started ++ be1 (s.swing x.bell).state.code ++
    be1 (s.swing x.bell).fault.code ++ beMarked 4 beSpan (s.swing x.bell).period ++ be1 (s.bell x.bell).guard.state.code) r.bells

/-- RING_READ (R107). -/
def actRingRead (session : Nat) (s : State) : Reply :=
  match named 4 session with
  | none => refuse .range s
  | some n => accept (sessionBytes n s) s

def ringRead (p : Port) (tag : Byte) (session : Nat) (s : State) : State :=
  request .ringRead p tag (actRingRead session) s

def execRingRead (p : Port) (tag : Byte) (session : Nat) (s : State) : Host.Outcome State Fault Refusal :=
  .next (ringRead p tag session s)

end Sys2Proof.Machine
end

