-- ==== Sys2Proof/Machine/Windows.lean ====
section
/-! DEFINITION. What other blocks read of the class of a date (R37, R148), the match and start minute of an
event (R147, R149) and the window test (R155). Nothing here changes the state. -/

namespace Sys2Proof.Machine

/-- The class of a civil date: its entry, the Sunday class on a Sunday, else ORDINARY (R37). -/
def State.classOf (s : State) (date : Nat) : DayClass :=
  match s.days.entries.find? (fun e => e.date == date) with
  | some e => e.cls
  | none => if weekday date = 6 then s.civil.sundayClass else .ordinary

/-- The date before a date. -/
def dayBeforeOf (date : Nat) : Nat := (date + 65535) % 65536

/-- The class of a date as the calendar needs it on the date `today`: the yesterday record serves the date
before today if it is that date's, every other class is looked up (R148). -/
def State.calendarClass (s : State) (today date : Nat) : DayClass :=
  match s.cal.yesterday with
  | some y => if date = dayBeforeOf today ∧ y.date = date then y.cls else s.classOf date
  | none => s.classOf date

/-- A day selector admits a date of a class (R147). -/
def DaySelector.admits (sel : DaySelector) (date : Nat) (c : DayClass) : Bool :=
  match sel with
  | .weekly w cs => w.getLsbD (weekday date) && cs.getLsbD c.code
  | .date d => d == date

/-- An event matches a date, on the date `today` (R147). -/
def eventMatches (today date : Nat) (e : Event) (s : State) : Bool :=
  e.valid && e.selector.admits date (s.calendarClass today date)

/-- The Sun Table entry of a date (R41). -/
def State.sunEntry (s : State) (date : Nat) : SunEntry := (s.sun.entries[sunOrdinal date - 1]?).getD {}

/-- A reference minute as a civil minute, wrapping within the day (R41). -/
def civilMinute (offset : Int) (m : Nat) : Nat := (((m : Int) + offset) % 1440).toNat

/-- A sun minute moved by an anchor's offset, clamped to the day (R149). -/
def anchoredMinute (offset sunOffset : Int) (m : Nat) : Nat :=
  (clampInt 0 1439 ((civilMinute offset m : Int) + sunOffset)).toNat

/-- The start minute of an event on a date (R149); none where the Sun Table entry it needs is UNSET. -/
def startMinute (date : Nat) (e : Event) (s : State) : Option Nat :=
  match e.anchor with
  | .civil m => some m
  | .sunrise o => (s.sunEntry date).rise.map (anchoredMinute s.civil.offset o)
  | .sunset o => (s.sunEntry date).set.map (anchoredMinute s.civil.offset o)

/-- The first condition of the window test: the window of today. -/
def windowToday (date minute : Nat) (e : Event) (s : State) : Bool :=
  eventMatches date date e s &&
  (match startMinute date e s with
   | some m => decide (m ≤ minute ∧ minute < m + e.duration)
   | none => false)

/-- The second condition of the window test: the window that runs on from the date before. -/
def windowYesterday (date minute : Nat) (e : Event) (s : State) : Bool :=
  eventMatches date (dayBeforeOf date) e s &&
  (match startMinute (dayBeforeOf date) e s with
   | some m => decide (minute + 1440 < m + e.duration)
   | none => false)

/-- The window test of R155 for a civil date and a minute of it. -/
def windowTest (date minute : Nat) (e : Event) (s : State) : Bool :=
  windowToday date minute e s || windowYesterday date minute e s

/-- SCENE and SILENCE events have windows (R146). -/
def EventKind.isWindow : EventKind → Bool
  | .scene _ => true
  | .silence _ => true
  | .ring _ _ => false
  | .toll _ _ _ => false
  | .tune _ => false

/-- A SILENCE window of a scope is active at a civil time (R128, R155). -/
def silenceActive (scope : Scope) (date minute : Nat) (s : State) : Bool :=
  allEvents.any (fun n => (s.event n).kind == .silence scope && windowTest date minute (s.event n) s)

/-- A SCENE window naming a channel is active at a civil time (R155, R163). -/
def sceneActive (c : Fin 8) (date minute : Nat) (s : State) : Bool :=
  allEvents.any (fun n =>
    (match (s.event n).kind with
     | .scene m => m.getLsbD c.1
     | _ => false) && windowTest date minute (s.event n) s)

end Sys2Proof.Machine
end

