-- ==== Sys2Proof/Machine/Strike.lean ====
section
/-! DEFINITION. Chapter 7: quarters, the held quarter, the strike queue, hammer pulses and shares, tolls,
panel strikes, tune events and silence; and BELL_READ, which shows the strikeable test (R84). -/

namespace Sys2Proof.Machine

/-! ### The queue (R132) -/

/-- The free room of the queue. -/
def State.room (s : State) : Nat := 64 - s.strike.queue.length

/-- Insert after every entry whose due time is the same or earlier (R132). -/
def insertEntry (e : Entry) : List Entry → List Entry
  | [] => [e]
  | x :: xs => if x.due ≤ e.due then x :: insertEntry e xs else e :: x :: xs

/-- Enqueue one stroke, PENDING. -/
def enqueue (due : Instant) (b : Fin 16) (o : Origin) (number : Nat) (s : State) : State :=
  { s with strike := { s.strike with
      queue := insertEntry
        { due := due, bell := b, origin := o, number := number, substituted := false,
          seq := s.strike.nextSeq, wait := .pending } s.strike.queue
      nextSeq := s.strike.nextSeq + 1 } }

/-- Remove the entry of an insertion sequence. -/
def removeEntry (seq : Nat) (s : State) : State := s.setQueue (s.strike.queue.filter (fun e => e.seq != seq))

/-- Put an entry in the place of the one with its insertion sequence. -/
def replaceEntry (e : Entry) (s : State) : State :=
  s.setQueue (s.strike.queue.map (fun x => if x.seq = e.seq then e else x))

/-! ### The tests of serving (R133, R135, R136) -/

/-- Why a bell is not strikeable; none if it is (R133). -/
def strikeFail (b : Fin 16) (s : State) : Option StrikeFail :=
  let r := s.bell b
  if !r.config.hammer then some .notFitted
  else if r.holder ≠ .free then some .holder
  else if (s.swing b).state ≠ .atRest then some .swing
  else if r.config.guardFitted ∧ r.guard.state ≠ .disengaged then some .guard
  else if !s.onMains then some .supply
  else none

/-- A bell has recovered (R135). -/
def recovered (b : Fin 16) (s : State) : Bool :=
  let r := s.bell b
  r.pulseEnd.isNone &&
  (match r.lastStrike with
   | none => true
   | some t => decide (t + r.config.recovery ≤ s.now))

/-- The energised count: the hammers with a pulse in progress (R125, R136). -/
def State.energised (s : State) : Nat := (allBells.filter (fun b => (s.bell b).pulseEnd.isSome)).length

/-! ### Tolls ending (R139) -/

/-- A toll ends: its entry leaves the queue, TOLL_ENDED is posted, the record is freed. -/
def endToll (n : Fin 4) (c : TollCause) (s : State) : State :=
  match s.toll n with
  | none => s
  | some t =>
    let s := s.setQueue (s.strike.queue.filter (fun e => !(e.origin == .toll && e.number == n.1 + 1)))
    let s := post .tollEnded (t.bell.1 + 1) (tollDetail c t.begun) s
    s.setToll n none

/-- A toll's entry has left the queue, its pulse begun or skipped (R139). -/
def tollServed (n : Fin 4) (begun : Bool) (due : Instant) (s : State) : State :=
  match s.toll n with
  | none => s
  | some t =>
    let t := { t with remaining := t.remaining.map (· - 1), begun := t.begun + (if begun then 1 else 0) }
    let s := s.setToll n (some t)
    if t.remaining = some 0 then endToll n .count s
    else enqueue ((if begun then s.now else due) + t.interval * 1000) t.bell .toll (n.1 + 1) s

/-- An entry has left the queue: its toll, if it is a toll's, goes on (R139). -/
def entryLeft (e : Entry) (begun : Bool) (s : State) : State :=
  match e.origin, named 4 e.number with
  | .toll, some n => tollServed n begun e.due s
  | _, _ => s

/-! ### Taking up an entry (R133 to R136) -/

/-- Skip an entry: it is removed and STRIKE_SKIPPED is posted for the bell that failed (R134). A toll that ends with it
posts its TOLL_ENDED after that, the model's choice (R139, assumption 52). -/
def skipEntry (e : Entry) (f : StrikeFail) (s : State) : State :=
  let s := post .strikeSkipped (e.bell.1 + 1) (pair e.origin.code f.code) (removeEntry e.seq s)
  entryLeft e false s

/-- Begin a hammer pulse (R136). -/
def beginPulse (e : Entry) (s : State) : State :=
  let r := s.bell e.bell
  let s := s.setBell e.bell { r with lastStrike := some s.now, pulseEnd := some (s.now + r.config.width) }
  entryLeft e true (removeEntry e.seq s)

/-- An entry for a strikeable bell: recovery, then a share (R135, R136). -/
def serveEntry (e : Entry) (s : State) : State :=
  if !recovered e.bell s then replaceEntry { e with wait := .recovery } s
  else if s.energised < s.strike.share then beginPulse e s
  else replaceEntry { e with wait := .share } s

/-- Take up an entry: the strikeable test, the conflict policy, the recovery and the share. -/
def takeUp (e : Entry) (s : State) : State :=
  match strikeFail e.bell s with
  | none => serveEntry e s
  | some f =>
    if e.substituted then skipEntry e f s
    else
      match (s.bell e.bell).config.policy with
      | .skip => skipEntry e f s
      | .substitute b =>
        let e' := { e with bell := b, substituted := true }
        let s := post .strikeSubstituted (e.bell.1 + 1) (pair (b.1 + 1) e.origin.code) (replaceEntry e' s)
        match strikeFail b s with
        | none => serveEntry e' s
        | some f' => skipEntry e' f' s

/-- Take up, one at a time in queue order, the entries a test picks when their turn comes. -/
def takeUpEach (pick : Entry → State → Bool) (s : State) : State :=
  s.strike.queue.foldl (fun s e =>
    match s.strike.queue.find? (fun x => x.seq == e.seq) with
    | some x => if pick x s then takeUp x s else s
    | none => s) s

/-- Shares go to the entries in WAIT_SHARE while the count is below K (R136). -/
def grantShares (s : State) : State :=
  takeUpEach (fun e s => e.wait == .share && decide (s.energised < s.strike.share)) s

/-- An entry has come up: its due time is reached, the recovery it waits for is over, or a share is free (R133). -/
def comesUp (e : Entry) (s : State) : Bool :=
  match e.wait with
  | .pending => decide (e.due ≤ s.now)
  | .recovery => recovered e.bell s
  | .share => decide (s.energised < s.strike.share)

/-- Take up every entry that has come up, in queue order, whichever bell it names and whichever event made it
come up (R133, R135, R136). -/
def serveQueue (s : State) : State := takeUpEach comesUp s

/-- A pulse's drive is released; a waiting guard motion begins (R75, R136). -/
def releaseHammer (b : Fin 16) (s : State) : State :=
  let r := s.bell b
  if r.pulseEnd.isNone then s
  else
    let s := s.setBell b { r with pulseEnd := none }
    if r.guard.motion = .waitingPulse then guardBegin b s else s

/-! ### Quarters (R126 to R131) -/

def setOutcome (o : QuarterOutcome) (index : Nat) (s : State) : State :=
  { s with strike := { s.strike with lastOutcome := some (o, index) } }
def setHeld (h : Option Held) (s : State) : State := { s with strike := { s.strike with held := h } }
def setMarker (index : Nat) (s : State) : State := { s with strike := { s.strike with marker := some index } }
/-- QUARTER_SKIPPED. -/
def quarterSkipped (r : SkipReason) (needed : Nat) (s : State) : State := post .quarterSkipped 0 (pair r.code needed) s

/-- The notes of a tune that is VALID (R109). -/
def Tune.notes (t : Tune) : List Note :=
  match t.content with
  | .valid ns => ns
  | _ => []
def Tune.isValid (t : Tune) : Bool :=
  match t.content with
  | .valid _ => true
  | _ => false

/-- The tune field of a plan for a slot 1..4 (R122). -/
def Plan.field (p : Plan) (slot : Nat) : Nat :=
  if slot = 1 then p.first else if slot = 2 then p.second else if slot = 3 then p.third else p.hour
/-- The VALID tune a plan's field names, or none. -/
def validField (p : Plan) (slot : Nat) (s : State) : Option (Fin 24) :=
  match named 24 (p.field slot) with
  | some t => if (s.tune t).isValid then some t else none
  | none => none
/-- The quarter slot of a civil time at a quarter's start (R122): 1, 2, 3, or 4 for the hour. -/
def slotOf (c : Label) : Nat := if c.minute % 60 / 15 = 0 then 4 else c.minute % 60 / 15
/-- The plan for a class; none on a PENITENTIAL date (R121). -/
def planFor : DayClass → Option PlanName
  | .ordinary => some .ordinary
  | .feast => some .festal
  | .solemn => some .festal
  | .penitential => none
/-- The strokes of a civil hour: hour mod 12, with 0 taken as 12 (R129). -/
def strokesOf (hour : Nat) : Nat := if hour % 12 = 0 then 12 else hour % 12

/-- Insert notes with their times in ms after a base. -/
def enqueueNotes (base : Instant) (o : Origin) (number : Nat) (ns : List (Fin 16 × Nat)) (s : State) : State :=
  ns.foldl (fun s n => enqueue (base + n.2) n.1 o number s) s

/-- Insert strokes of the hour bell: stroke k + 1 at `start` plus k paces. -/
def enqueueStrokes (start : Instant) (pace : Nat) (b : Fin 16) (count : Nat) (s : State) : State :=
  (List.range count).foldl (fun s k => enqueue (start + k * pace) b .hour (k + 1) s) s

/-- What is struck at a quarter (R129): a tune, strokes and their spacing. -/
structure Chime where
  index : Nat
  tune : Option (Fin 24)
  strokes : Nat
  hourBell : Nat
  gap : Nat
  pace : Nat

/-- Insert a quarter's entries, measured from `base`, or skip them for want of room; `done` is the outcome
when they are inserted (R129, R131). -/
def insertChime (c : Chime) (base : Instant) (done : QuarterOutcome) (s : State) : State :=
  let notes := match c.tune with
    | some t => (s.tune t).notes
    | none => []
  let needed := notes.length + c.strokes
  if s.room < needed then quarterSkipped .queueFull needed (setOutcome .queueFull c.index s)
  else
    let s := match c.tune with
      | some t => enqueueNotes base .quarter (t.1 + 1) (noteTimes notes) s
      | none => s
    let s := match named 16 c.hourBell with
      | some b => enqueueStrokes (base + 10 * tuneUnits notes + c.gap) c.pace b c.strokes s
      | none => s
    setOutcome done c.index s

/-- The other plan. -/
def PlanName.other : PlanName → PlanName
  | .ordinary => .festal
  | .festal => .ordinary

/-- What a held quarter strikes, with a tune resolved at its ending. -/
def Held.chime (h : Held) (t : Option (Fin 24)) : Chime :=
  { index := h.index, tune := t, strokes := h.strokes, hourBell := h.hourBell, gap := h.gap, pace := h.pace }

/-- End a hold in fallback form, measured from `base` (R131). -/
def endHeldFallback (base : Instant) (s : State) : State :=
  match s.strike.held with
  | none => s
  | some h =>
    let t := validField (s.plan h.plan.other) h.slot s
    setHeld none (insertChime (h.chime t) base .fallback s)

/-- End a hold with the held tune (R131). -/
def endHeldTune (base : Instant) (s : State) : State :=
  match s.strike.held with
  | none => s
  | some h => setHeld none (insertChime (h.chime (some h.tune)) base .chimed s)

/-- Drop a held quarter at the loss of mains (R131). -/
def dropHeld (s : State) : State :=
  match s.strike.held with
  | none => s
  | some h => quarterSkipped .supply 0 (setHeld none (setOutcome .supply h.index s))

/-- A change of a tune's state, handed to the Strike Unit (R117, R131). -/
def tuneHandoff (t : Fin 24) (s : State) : State :=
  match s.strike.held with
  | none => s
  | some h =>
    if h.tune = t then
      match (s.tune t).content with
      | .valid _ => endHeldTune s.now s
      | .empty => endHeldFallback s.now s
      | .editing _ _ => s
    else s

/-- Hold a quarter (R130); a hold already taken is ended first in fallback form. -/
def holdQuarter (h : Held) (s : State) : State :=
  let s := endHeldFallback s.now s
  let s := setOutcome .held h.index (setHeld (some h) s)
  post .quarterHeld (h.tune.1 + 1) (pair 0 h.slot) s

/-- How the tune of a quarter is resolved (R129). -/
inductive TuneChoice where
  | none
  | play (t : Fin 24)
  | hold (t : Fin 24)

def chooseTune (plan : PlanName) (slot : Nat) (silenced : Bool) (s : State) : TuneChoice :=
  if silenced then .none
  else
    match named 24 ((s.plan plan).field slot) with
    | none => .none
    | some t =>
      match (s.tune t).content with
      | .valid _ => .play t
      | .editing _ _ => .hold t
      | .empty =>
        match plan with
        | .festal =>
          match validField (s.plan .ordinary) slot s with
          | some t' => .play t'
          | none => .none
        | .ordinary => .none

/-- Build a quarter that passes R128 (R129). -/
def buildQuarter (index : Nat) (c : Label) (plan : PlanName) (s : State) : State :=
  let slot := slotOf c
  let p := s.plan plan
  let strokes := if slot = 4 ∧ p.hourBell ≠ 0 then strokesOf (c.minute / 60) else 0
  let chime (t : Option (Fin 24)) : Chime :=
    { index := index, tune := t, strokes := strokes, hourBell := p.hourBell, gap := p.gap, pace := p.pace }
  match chooseTune plan slot (silenceActive .quarters c.day c.minute s) s with
  | .hold t => holdQuarter {
      index := index, slot := slot, plan := plan, tune := t, strokes := strokes, hourBell := p.hourBell,
      gap := p.gap, pace := p.pace, start := s.now, expiry := s.now + 60000 } s
  | .play t => insertChime (chime (some t)) s.now .chimed s
  | .none =>
    if strokes = 0 then setOutcome .nothingToStrike index s else insertChime (chime none) s.now .chimed s

/-- The civil time at which a quarter starts, under the offset in force. -/
def State.quarterStart (s : State) (index : Nat) : Label :=
  civilOf s.civil.offset { day := index / 96, sec := index % 96 * 900 }

/-- Decide a quarter (R128). -/
def decideQuarter (index : Nat) (s : State) : State :=
  let c := s.quarterStart index
  if !s.onMains then quarterSkipped .supply 0 (setOutcome .supply index s)
  else
    match planFor (s.classOf c.day) with
    | none => setOutcome .penitential index s
    | some plan =>
      if s.strike.silence || silenceActive .clock c.day c.minute s then setOutcome .silenced index s
      else buildQuarter index c plan s

/-- The quarter boundary (R126). -/
def quarterBoundary (l : Label) (s : State) : State :=
  if l.sec % 900 = 0 ∧ newerQuarter (quarterIndex l) s.strike.marker then
    decideQuarter (quarterIndex l) (setMarker (quarterIndex l) s)
  else s

/-- A time step (R127). While the marker is none it moves onto the step's quarter like any other, the model's choice
between R127 and the last words of R126 (assumption 46). -/
def quarterStep (delta : Int) (l : Label) (s : State) : State :=
  let i := quarterIndex l
  if delta ≤ 0 ∨ !newerQuarter i s.strike.marker then s
  else if delta ≤ 120 then decideQuarter i (setMarker i s)
  else quarterSkipped .step 0 (setOutcome .stepPassed i (setMarker i s))

/-- The Strike Unit at a boundary whose label is `l`, with the time step taken there if there was one.
Which of step and boundary comes first matters only above +120 s on a quarter's first second; there it is
a free value (R127, assumption 7). -/
def strikeBoundary (delta : Option Int) (l : Label) (s : State) : State :=
  match delta with
  | none => quarterBoundary l s
  | some d =>
    if 120 < d ∧ l.sec % 900 = 0 ∧ !Config.quarterStepFirst then quarterStep d l (quarterBoundary l s)
    else quarterBoundary l (quarterStep d l s)

/-! ### Tolls, tune events (R138, R141) -/

/-- The outcome of starting a toll (R138). -/
inductive TollStarted where
  | supply | noHammer | full
  | started (n : Fin 4)
deriving DecidableEq, Repr

/-- Start or replace a toll (R138); interval in s and count checked and clamped already, minutes 0 for no end. The
origin number of its entries is the toll's number, the model's choice (assumption 44). -/
def startToll (b : Fin 16) (interval count minutes : Nat) (o : TollOrigin) (s : State) : State × TollStarted :=
  let remaining := if count = 0 then none else some count
  let endTime := if minutes = 0 then none else some (s.now + minutes * 60000)
  if !s.onMains then (s, .supply)
  else if !(s.bell b).config.hammer then (s, .noHammer)
  else
    match allFour.find? (fun n => (s.toll n).any (fun t => t.bell == b)) with
    | some n =>
      match s.toll n with
      | some t => (s.setToll n (some { t with
          interval := interval, remaining := remaining, endTime := endTime, origin := o }), .started n)
      | none => (s, .full)
    | none =>
      match allFour.find? (fun n => (s.toll n).isNone) with
      | none => (s, .full)
      | some n =>
        if s.room = 0 then (s, .full)
        else
          let t : Toll := { bell := b, interval := interval, remaining := remaining, endTime := endTime, origin := o, begun := 0 }
          (enqueue s.now b .toll (n.1 + 1) (s.setToll n (some t)), .started n)

/-- Play the tune of a TUNE event (R141); the outcome as the calendar reports it. -/
def playTune (n : Fin 96) (tune : Nat) (s : State) : State × EventReason :=
  let silenced : Bool := match s.civilNow with
    | some c => s.classOf c.day == .penitential || s.strike.silence || silenceActive .clock c.day c.minute s
    | none => s.strike.silence
  if !s.onMains then (s, .supply)
  else if silenced then (s, .silenced)
  else
    match named 24 tune with
    | none => (s, .tuneNotValid)
    | some t =>
      if !(s.tune t).isValid then (s, .tuneNotValid)
      else if s.room < (s.tune t).notes.length then (s, .queueFull)
      else (enqueueNotes s.now .tuneEvent (n.1 + 1) (noteTimes (s.tune t).notes) s, .none)

/-! ### Supply and warm reset (R137, R145) -/

/-- The Strike Unit at the loss of mains, in the order of R137; bells and tolls ascending, the model's choice
(assumption 24). A waiting entry whose bell fails an earlier test too is reported with the first reason of R133, not
with SUPPLY, the model's choice (assumption 49). -/
def strikeSupplyLost (s : State) : State :=
  let s := allBells.foldl (fun s b => releaseHammer b s) s
  let s := allFour.foldl (fun s n => endToll n .supply s) s
  let s := dropHeld s
  takeUpEach (fun e _ => e.wait != .pending) s

/-- The Strike Unit at the entry of a warm reset (R145). -/
def Strike.warmReset (r : Strike) : Strike :=
  { r with queue := [], held := none, tolls := Vector.replicate 4 none }

/-! ### Events -/

/-- HELD_QUARTER_EXPIRY (R131). -/
def heldQuarterExpiry (s : State) : State :=
  match s.strike.held with
  | none => s
  | some h => if s.isHeld || s.now < h.expiry then s else endHeldFallback h.expiry s

def execHeldQuarterExpiry (s : State) : Host.Outcome State Fault Refusal := .next (heldQuarterExpiry s)

/-- The first PENDING entry in queue order whose due time is reached. -/
def dueEntry (s : State) : Option Entry :=
  s.strike.queue.find? (fun e => e.wait == .pending && decide (e.due ≤ s.now))

/-- STRIKE_ENTRY_DUE (R133). -/
def strikeEntryDue (s : State) : State := if s.isHeld || (dueEntry s).isNone then s else serveQueue s

def execStrikeEntryDue (s : State) : Host.Outcome State Fault Refusal := .next (strikeEntryDue s)

/-- An entry waits for a bell's recovery, and the recovery is over. -/
def recoveryOver (b : Fin 16) (s : State) : Bool :=
  s.strike.queue.any (fun e => e.wait == .recovery && e.bell == b) && recovered b s

/-- HAMMER_RECOVERY_END (R135): the entries that wait for this bell are taken up, with all that come up together
with them (R133). -/
def hammerRecoveryEnd (b : Fin 16) (s : State) : State :=
  if s.isHeld || !recoveryOver b s then s else serveQueue s

def execHammerRecoveryEnd (b : Fin 16) (s : State) : Host.Outcome State Fault Refusal := .next (hammerRecoveryEnd b s)

/-- HAMMER_PULSE_END (R136): the entries that wait for this bell's recovery or for a share are taken up. -/
def hammerPulseEnd (b : Fin 16) (s : State) : State :=
  if s.isHeld || !reached (s.bell b).pulseEnd s.now then s else serveQueue (releaseHammer b s)

def execHammerPulseEnd (b : Fin 16) (s : State) : Host.Outcome State Fault Refusal := .next (hammerPulseEnd b s)

/-- TOLL_END_TIME (R139). -/
def tollEndTime (n : Fin 4) (s : State) : State :=
  if s.isHeld || !reached ((s.toll n).bind (·.endTime)) s.now then s else endToll n .endTime s

def execTollEndTime (t : Fin 4) (s : State) : Host.Outcome State Fault Refusal := .next (tollEndTime t s)

/-! ### Requests -/

/-- PART_CONFIG (R144). -/
def actPartConfig (share : Nat) (s : State) : Reply :=
  let k := clamp 1 8 share
  accept (be1 k) (grantShares { s with strike := { s.strike with share := k } })

def partConfig (p : Port) (tag : Byte) (share : Nat) (s : State) : State := request .partConfig p tag (actPartConfig share) s

def execPartConfig (p : Port) (tag : Byte) (share : Nat) (s : State) : Host.Outcome State Fault Refusal :=
  .next (partConfig p tag share s)

/-- The snapshot of BELL_READ (R84). A travel time or a period that is none has every bit set (assumption 18). -/
def bellBytes (b : Fin 16) (s : State) : List Byte :=
  let r := s.bell b
  let w := s.swing b
  r.config.bytes ++ be1 r.holder.code ++ be1 r.holder.party ++ be1 r.guard.state.code ++ be1 r.guard.direction.code ++
  be1 r.guard.motion.code ++ beAbsent 4 beSpan (r.guard.deadline.map (· - s.now)) ++
  beFlag r.guard.atEng.settled ++ beFlag r.guard.atDis.settled ++ beMarked 4 beTime r.lastStrike ++
  beFlag r.pulseEnd.isSome ++ be1 w.state.code ++ be1 w.fault.code ++ beAbsent 4 beSpan w.period ++
  beFlag (strikeFail b s).isNone

/-- BELL_READ (R84). -/
def actBellRead (bell : Nat) (s : State) : Reply :=
  match named 16 bell with
  | none => refuse .range s
  | some b => accept (bellBytes b s) s

def bellRead (p : Port) (tag : Byte) (bell : Nat) (s : State) : State := request .bellRead p tag (actBellRead bell) s

def execBellRead (p : Port) (tag : Byte) (bell : Nat) (s : State) : Host.Outcome State Fault Refusal :=
  .next (bellRead p tag bell s)

/-- The snapshot of STRIKE_STATUS (R143). A toll's origin goes as a byte 0 for a port or 1 for an event and a byte
with its number, the marker's day as a day number, the model's choices (assumption 18). -/
def strikeBytes (first : Nat) (s : State) : List Byte :=
  let q := s.strike.queue
  let scopes (x : Scope) := s.cal.active.any (fun n => (s.event n).kind == .silence x)
  be1 q.length ++ be1 s.room ++
  beList (fun e => beTime e.due ++ be1 (e.bell.1 + 1) ++ be1 e.origin.code ++ be1 e.number ++ beFlag e.substituted ++
    be1 e.wait.code) ((q.drop first).take 16) ++
  be1 s.strike.share ++ be1 s.energised ++
  beMarked 3 (fun m => be2 (m / 96) ++ be1 (m % 96)) s.strike.marker ++
  beAbsent 5 (fun o => be1 o.1.code ++ be4 o.2) s.strike.lastOutcome ++
  beMarked 7 (fun h => be1 (h.tune.1 + 1) ++ be1 h.slot ++ be1 h.plan.code ++ beSpan (h.expiry - s.now)) s.strike.held ++
  beList (fun t => be1 (t.bell.1 + 1) ++ be1 t.interval ++ be2 (t.remaining.getD 0) ++ beMarked 4 beTime t.endTime ++
    be1 t.origin.code ++ be1 t.origin.number ++ beSpan t.begun) (allFour.filterMap s.toll) ++
  beFlag s.strike.silence ++
  beMarked 2 (fun _ => beFlag (scopes .quarters) ++ beFlag (scopes .clock)) s.label

/-- STRIKE_STATUS (R143). -/
def actStrikeStatus (first : Nat) (s : State) : Reply :=
  if first > 63 then refuse .range s else accept (strikeBytes first s) s

def strikeStatus (p : Port) (tag : Byte) (first : Nat) (s : State) : State :=
  request .strikeStatus p tag (actStrikeStatus first) s

def execStrikeStatus (p : Port) (tag : Byte) (first : Nat) (s : State) : Host.Outcome State Fault Refusal :=
  .next (strikeStatus p tag first s)

/-- The strokes of a panel strike: stroke k + 1 at now plus k intervals (R140). -/
def enqueuePanel (b : Fin 16) (count interval : Nat) (s : State) : State :=
  (List.range count).foldl (fun s k => enqueue (s.now + k * interval) b .panel (k + 1) s) s

/-- STRIKE (R140). -/
def actStrike (bell count interval : Nat) (s : State) : Reply :=
  match named 16 bell with
  | none => refuse .range s
  | some b =>
    if count < 1 ∨ 12 < count then refuse .range s
    else if !(s.bell b).config.hammer then refuse .notFitted s
    else if !s.onMains then refuse .state s
    else if s.room < count then refuse .full s
    else
      let i := clamp 500 10000 interval
      accept (be2 i ++ beTime s.now) (enqueuePanel b count i s)

def strike (p : Port) (tag : Byte) (bell count interval : Nat) (s : State) : State :=
  request .strike p tag (actStrike bell count interval) s

def execStrike (p : Port) (tag : Byte) (bell count interval : Nat) (s : State) : Host.Outcome State Fault Refusal :=
  .next (strike p tag bell count interval s)

/-- TOLL_START (R138). Its OK gives the stored values as they were given and clamped: toll number, bell, interval,
count, and the end in minutes, one byte, the model's choice (assumption 18). -/
def actTollStart (p : Port) (bell interval count minutes : Nat) (s : State) : Reply :=
  match named 16 bell with
  | none => refuse .range s
  | some b =>
    if 999 < count then refuse .range s
    else
      let i := clamp 4 60 interval
      let m := min 240 minutes
      match startToll b i count m (.port p) s with
      | (_, .supply) => refuse .state s
      | (_, .noHammer) => refuse .notFitted s
      | (_, .full) => refuse .full s
      | (s', .started n) => accept (be1 (n.1 + 1) ++ be1 bell ++ be1 i ++ be2 count ++ be1 m) s'

def tollStart (p : Port) (tag : Byte) (bell interval count minutes : Nat) (s : State) : State :=
  request .tollStart p tag (actTollStart p bell interval count minutes) s

def execTollStart (p : Port) (tag : Byte) (bell interval count minutes : Nat) (s : State) :
    Host.Outcome State Fault Refusal := .next (tollStart p tag bell interval count minutes s)

/-- TOLL_STOP (R139). The pulses begun take four bytes, here and in STRIKE_STATUS (assumption 18). -/
def actTollStop (bell : Nat) (s : State) : Reply :=
  match named 16 bell with
  | none => refuse .range s
  | some b =>
    match allFour.find? (fun n => (s.toll n).any (fun t => t.bell == b)) with
    | none => refuse .state s
    | some n => accept (beSpan (((s.toll n).map (·.begun)).getD 0)) (endToll n .stop s)

def tollStop (p : Port) (tag : Byte) (bell : Nat) (s : State) : State := request .tollStop p tag (actTollStop bell) s

def execTollStop (p : Port) (tag : Byte) (bell : Nat) (s : State) : Host.Outcome State Fault Refusal :=
  .next (tollStop p tag bell s)

/-- SILENCE_SET (R142). -/
def actSilenceSet (value : Nat) (s : State) : Reply :=
  match silenceOf value with
  | none => refuse .range s
  | some f => accept (be1 value) { s with strike := { s.strike with silence := f } }

def silenceSet (p : Port) (tag : Byte) (value : Nat) (s : State) : State :=
  request .silenceSet p tag (actSilenceSet value) s

def execSilenceSet (p : Port) (tag : Byte) (value : Nat) (s : State) : Host.Outcome State Fault Refusal :=
  .next (silenceSet p tag value s)

end Sys2Proof.Machine
end

