-- ==== Sys2Proof/Machine/Tunes.lean ====
section
/-! DEFINITION. Chapter 6: the Tune Store with its edit protocol, and the Chime Plans. -/

namespace Sys2Proof.Machine

/-- The places a tune takes of the pool: its length n (R110). -/
def Tune.length (t : Tune) : Nat :=
  match t.content with
  | .empty => 0
  | .editing slots _ => slots.length
  | .valid ns => ns.length

/-- The free count of the pool (R110). -/
def State.freeCount (s : State) : Nat := 1024 - (allTunes.map (fun t => (s.tune t).length)).sum

/-- Change what a tune holds and hand the change to the Strike Unit (R117). -/
def changeTune (t : Fin 24) (r : Tune) (s : State) : State := tuneHandoff t (s.setTune t r)

/-- An edit request that names an EDITING tune restarts its timer (R115). -/
def restartEdit (t : Fin 24) (s : State) : State :=
  match (s.tune t).content with
  | .editing slots _ => s.setTune t { s.tune t with content := .editing slots s.now }
  | _ => s

/-- An EDITING tune becomes EMPTY as by TUNE_ABORT; any other tune is left as it is (R114 to R116). -/
def abortEdit (t : Fin 24) (s : State) : State :=
  match (s.tune t).content with
  | .editing _ _ => changeTune t { s.tune t with content := .empty } s
  | _ => s

/-- Every EDITING tune becomes EMPTY: port reset of L1, warm reset (R116). -/
def abortEdits (s : State) : State := allTunes.foldl (fun s t => abortEdit t s) s

/-- The number of unwritten slots. -/
def unwritten (slots : List (Option Note)) : Nat := (slots.filter (fun x => x.isNone)).length
/-- The index from 1 of the first unwritten slot, or 0. -/
def firstUnwritten (slots : List (Option Note)) : Nat :=
  match slots.findIdx? (fun x => x.isNone) with
  | some i => i + 1
  | none => 0

/-- TUNE_EDIT_TIMEOUT (R115). -/
def tuneEditTimeout (t : Fin 24) (s : State) : State :=
  match (s.tune t).content with
  | .editing _ last => if s.isHeld || s.now < last + 300000 then s else abortEdit t s
  | _ => s

def execTuneEditTimeout (t : Fin 24) (s : State) : Host.Outcome State Fault Refusal := .next (tuneEditTimeout t s)

/-- The snapshot of TUNE_READ (R119). An item that the tune's state does not have is left out of the payload, and the
first unwritten slot is 0 where none is, the model's choices (assumption 18). -/
def tuneBytes (t : Fin 24) (first count : Nat) (s : State) : List Byte :=
  let r := s.tune t
  let note (n : Note) : List Byte := be1 (n.bell.1 + 1) ++ be2 n.offset
  let slots (xs : List (Option Note)) : List Byte :=
    beList (fun x => match x with
      | some n => note n
      | none => [0, 0, 0]) ((xs.drop (first - 1)).take count)
  be1 r.content.code ++ be1 r.revision ++ be2 s.freeCount ++
  (match r.content with
   | .empty => slots []
   | .editing xs last =>
     be1 xs.length ++ be1 (unwritten xs) ++ be1 (firstUnwritten xs) ++ beSpan (last + 300000 - s.now) ++ slots xs
   | .valid ns => be1 ns.length ++ be2 (tuneUnits ns) ++ slots (ns.map some))

/-- TUNE_READ (R119). -/
def actTuneRead (tune first count : Nat) (s : State) : Reply :=
  match named 24 tune with
  | none => refuse .range s
  | some t => if 64 < count ∨ first = 0 then refuse .range s else accept (tuneBytes t first count s) s

def tuneRead (p : Port) (tag : Byte) (tune first count : Nat) (s : State) : State :=
  request .tuneRead p tag (actTuneRead tune first count) s

def execTuneRead (p : Port) (tag : Byte) (tune first count : Nat) (s : State) : Host.Outcome State Fault Refusal :=
  .next (tuneRead p tag tune first count s)

/-- A tune is in EDITING. -/
def Tune.isEditing (t : Tune) : Bool :=
  match t.content with
  | .editing _ _ => true
  | _ => false

/-- A response of the edit protocol: the items its own rule names, then the free count as it stands after the
request (R110). Every response has it but TUNE_WRITE's OK, whose layout section 12.3 gives (assumption 40). -/
def editReply (st : Status) (pl : List Byte) (s : State) : Reply :=
  { state := s, status := st, payload := pl ++ be2 s.freeCount }

/-- TUNE_OPEN (R111). -/
def actTuneOpen (tune length revision : Nat) (s : State) : Reply :=
  match named 24 tune with
  | none => editReply .range [] s
  | some t =>
    let r := s.tune t
    let most := s.freeCount + r.length
    if length < 1 ∨ 128 < length then editReply .range [] (restartEdit t s)
    else if !revisionOk revision r.revision then editReply .stale (be1 r.revision) (restartEdit t s)
    else if r.isEditing then editReply .busy [] (restartEdit t s)
    else if most < length then editReply .noRoom (be1 most) s
    else
      let s := changeTune t { r with content := .editing (List.replicate length none) s.now } s
      editReply .ok (be1 tune ++ be1 length ++ be1 r.revision) s

def tuneOpen (p : Port) (tag : Byte) (tune length revision : Nat) (s : State) : State :=
  request .tuneOpen p tag (actTuneOpen tune length revision) s

def execTuneOpen (p : Port) (tag : Byte) (tune length revision : Nat) (s : State) : Host.Outcome State Fault Refusal :=
  .next (tuneOpen p tag tune length revision s)

/-- The note stored in a slot: an offset above 500 is clamped, slot 1 stores 0 (R109, R112). -/
def storedNote (slot : Nat) (b : Fin 16) (offset : Nat) : Note :=
  { bell := b, offset := if slot = 1 then 0 else min 500 offset }

/-- The notes of a run from a slot onward; none if a bell is outside 1..16. -/
def storedNotes : Nat → List RawNote → Option (List (Option Note))
  | _, [] => some []
  | slot, n :: rest =>
    match named 16 n.bell, storedNotes (slot + 1) rest with
    | some b, some ns => some (some (storedNote slot b n.offset) :: ns)
    | _, _ => none

/-- Write a run of notes over the slots from a first index. -/
def writeSlots (first : Nat) (ns slots : List (Option Note)) : List (Option Note) :=
  slots.take (first - 1) ++ ns ++ slots.drop (first - 1 + ns.length)

/-- TUNE_WRITE (R112). -/
def actTuneWrite (tune first : Nat) (notes : List RawNote) (s : State) : Reply :=
  match named 24 tune with
  | none => editReply .range [] s
  | some t =>
    match (s.tune t).content with
    | .editing slots _ =>
      match storedNotes first notes with
      | none => editReply .range [] (restartEdit t s)
      | some ns =>
        if notes = [] ∨ 64 < notes.length ∨ first < 1 ∨ slots.length < first - 1 + notes.length then
          editReply .range [] (restartEdit t s)
        else
          let slots' := writeSlots first ns slots
          accept (be1 first ++ be1 notes.length ++ be1 (notes.filter (fun n => decide (500 < n.offset))).length ++
              be1 (unwritten slots') ++ be1 (firstUnwritten slots'))
            (s.setTune t { s.tune t with content := .editing slots' s.now })
    | _ => editReply .state [] s

def tuneWrite (p : Port) (tag : Byte) (tune first : Nat) (notes : List RawNote) (s : State) : State :=
  request .tuneWrite p tag (actTuneWrite tune first notes) s

def execTuneWrite (p : Port) (tag : Byte) (tune first : Nat) (notes : List RawNote) (s : State) :
    Host.Outcome State Fault Refusal := .next (tuneWrite p tag tune first notes s)

/-- TUNE_CLOSE (R113). -/
def actTuneClose (tune : Nat) (s : State) : Reply :=
  match named 24 tune with
  | none => editReply .range [] s
  | some t =>
    let r := s.tune t
    match r.content with
    | .editing slots _ =>
      if 0 < unwritten slots then
        editReply .state (be1 (firstUnwritten slots) ++ be1 (unwritten slots)) (restartEdit t s)
      else
        let ns := slots.filterMap id
        editReply .ok (be1 tune ++ be1 ns.length ++ be1 (nextRevision r.revision) ++ be2 (tuneUnits ns))
          (changeTune t { content := .valid ns, revision := nextRevision r.revision } s)
    | c => editReply .state (be1 c.code) s

def tuneClose (p : Port) (tag : Byte) (tune : Nat) (s : State) : State := request .tuneClose p tag (actTuneClose tune) s

def execTuneClose (p : Port) (tag : Byte) (tune : Nat) (s : State) : Host.Outcome State Fault Refusal :=
  .next (tuneClose p tag tune s)

/-- TUNE_ABORT (R114). -/
def actTuneAbort (tune : Nat) (s : State) : Reply :=
  match named 24 tune with
  | none => editReply .range [] s
  | some t =>
    if (s.tune t).isEditing then
      let s := abortEdit t s
      editReply .ok [] s
    else editReply .state [] s

def tuneAbort (p : Port) (tag : Byte) (tune : Nat) (s : State) : State := request .tuneAbort p tag (actTuneAbort tune) s

def execTuneAbort (p : Port) (tag : Byte) (tune : Nat) (s : State) : Host.Outcome State Fault Refusal :=
  .next (tuneAbort p tag tune s)

/-- TUNE_DELETE (R118). -/
def actTuneDelete (tune revision : Nat) (s : State) : Reply :=
  match named 24 tune with
  | none => editReply .range [] s
  | some t =>
    let r := s.tune t
    if !revisionOk revision r.revision then editReply .stale (be1 r.revision) (restartEdit t s)
    else if r.isEditing then editReply .busy [] (restartEdit t s)
    else if !r.isValid then editReply .state [] s
    else
      let s := changeTune t { content := .empty, revision := nextRevision r.revision } s
      editReply .ok (be1 (nextRevision r.revision)) s

def tuneDelete (p : Port) (tag : Byte) (tune revision : Nat) (s : State) : State :=
  request .tuneDelete p tag (actTuneDelete tune revision) s

def execTuneDelete (p : Port) (tag : Byte) (tune revision : Nat) (s : State) : Host.Outcome State Fault Refusal :=
  .next (tuneDelete p tag tune revision s)

/-! ### Chime plans (R120 to R124) -/

/-- A plan's fields and revision, in the record's order (R120). -/
def Plan.bytes (r : Plan) : List Byte :=
  be1 r.first ++ be1 r.second ++ be1 r.third ++ be1 r.hour ++ be1 r.hourBell ++ be2 r.gap ++ be2 r.pace ++ be1 r.revision

/-- The snapshot of PLAN_READ (R124). The states of the tunes named are a counted list, and no plan is 0xFF, the
model's choices (assumption 18). -/
def planBytes (n : PlanName) (s : State) : List Byte :=
  let r := s.plan n
  r.bytes ++
  beList (fun t => be1 (s.tune t).content.code) ([r.first, r.second, r.third, r.hour].filterMap (named 24)) ++
  beMarked 6 (fun c => beDate c.day ++ be1 (s.classOf c.day).code ++
    be1 (match planFor (s.classOf c.day) with
      | some q => q.code
      | none => 0xFF)) s.civilNow

/-- PLAN_READ (R124). -/
def actPlanRead (plan : Nat) (s : State) : Reply :=
  match planOf plan with
  | none => refuse .range s
  | some n => accept (planBytes n s) s

def planRead (p : Port) (tag : Byte) (plan : Nat) (s : State) : State := request .planRead p tag (actPlanRead plan) s

def execPlanRead (p : Port) (tag : Byte) (plan : Nat) (s : State) : Host.Outcome State Fault Refusal :=
  .next (planRead p tag plan s)

/-- PLAN_WRITE (R123). -/
def actPlanWrite (a : PlanArgs) (s : State) : Reply :=
  match planOf a.plan with
  | none => refuse .range s
  | some n =>
    let r := s.plan n
    if 24 < a.first ∨ 24 < a.second ∨ 24 < a.third ∨ 24 < a.hour ∨ 16 < a.bell then refuse .range s
    else if !revisionOk a.revision r.revision then refuseStale r.revision s
    else
      let r' : Plan := {
        first := a.first, second := a.second, third := a.third, hour := a.hour, hourBell := a.bell
        gap := clamp 0 10000 a.gap, pace := clamp 1000 10000 a.pace, revision := nextRevision r.revision }
      accept r'.bytes (s.setPlan n r')

def planWrite (p : Port) (tag : Byte) (a : PlanArgs) (s : State) : State := request .planWrite p tag (actPlanWrite a) s

def execPlanWrite (p : Port) (tag : Byte) (args : PlanArgs) (s : State) : Host.Outcome State Fault Refusal :=
  .next (planWrite p tag args s)

end Sys2Proof.Machine
end

