-- ==== Sys2Proof/Machine/Dials.lean ====
section
/-! DEFINITION. Chapter 3: the dials, their impulses, correction decisions and requests. -/

namespace Sys2Proof.Machine

/-! ### Decisions (R45, R49 to R52) -/

/-- The target of every dial (R45); none while UNSET. -/
def State.target (s : State) : Option Nat := s.civilNow.map dialTarget

/-- A dial that takes decisions: fitted, in RUN, ADVANCE or HOLD (R51). -/
def Dial.deciding (r : Dial) : Bool :=
  r.fitted && (r.state == .run || r.state == .advance || r.state == .hold)

/-- A dial enters a state; a change posts DIAL_STATE (R52). -/
def enterDial (d : Fin 4) (st : DialState) (s : State) : State :=
  let r := s.dial d
  if r.state = st then s
  else post .dialState (d.1 + 1) (pair r.state.code st.code) (s.setDial d { r with state := st })

/-- The table of R49 for a target. -/
def fullState (r : Dial) (target : Nat) : DialState :=
  let d := dialDistance target r.position
  let a := 1440 - d
  if d = 0 then .run
  else if a ≤ r.holdLimit then .hold
  else if d * r.fast < a * (30 - r.fast) then (if d = 1 then .run else .advance)
  else .hold

/-- The continuing decision of R50 for a target. -/
def continuingState (r : Dial) (target : Nat) : DialState :=
  let d := dialDistance target r.position
  match r.state with
  | .hold => if d = 0 then .run else .hold
  | .advance => if d ≤ 1 then .run else .advance
  | .run => fullState r target
  | st => st

/-- A full decision (R49): HOLD while UNSET. -/
def fullDecision (d : Fin 4) (s : State) : State :=
  match s.target with
  | none => enterDial d .hold s
  | some t => enterDial d (fullState (s.dial d) t) s

/-- A continuing decision (R50), taken while time is valid. -/
def continuingDecision (d : Fin 4) (s : State) : State :=
  match s.target with
  | none => s
  | some t => enterDial d (continuingState (s.dial d) t) s

/-- A full cause reaches a dial (R51). -/
def fullCause (d : Fin 4) (s : State) : State :=
  let r := s.dial d
  if !r.deciding then s
  else if r.flight.isSome then s.setDial d { r with owed := .full }
  else fullDecision d s

/-- A continuing cause reaches a dial (R51). -/
def continuingCause (d : Fin 4) (s : State) : State :=
  let r := s.dial d
  if !r.deciding then s
  else if r.flight.isSome then
    s.setDial d { r with owed := if r.owed = .full then .full else .continuing }
  else continuingDecision d s

/-- Every dial takes a full cause, in the order of their numbers, the model's choice (R52, assumption 37). -/
def dialsFull (s : State) : State := allFour.foldl (fun s d => fullCause d s) s

/-- The dials at a local second boundary: one decision each, full if a full cause stands, continuing at a
civil half-minute (R51). -/
def dialsBoundary (full : Bool) (s : State) : State :=
  if full then dialsFull s
  else
    match s.civilNow with
    | some c => if c.sec % 30 = 0 then allFour.foldl (fun s d => continuingCause d s) s else s
    | none => s

/-! ### Impulses (R46 to R48, R55) -/

/-- The conditions of R46. -/
def canStart (d : Fin 4) (s : State) : Bool :=
  let r := s.dial d
  match s.target with
  | none => false
  | some t =>
    let dd := dialDistance t r.position
    r.fitted && ((r.state == .run && dd == 1) || (r.state == .advance && decide (2 ≤ dd))) && s.onMains &&
    r.flight.isNone &&
    (match r.lastStart with
     | none => true
     | some x => decide (x + r.fast * 1000 ≤ s.now))

def Polarity.opposite : Polarity → Polarity
  | .positive => .negative
  | .negative => .positive

/-- DIAL_IMPULSE_START (R46). -/
def dialImpulseStart (d : Fin 4) (s : State) : State :=
  if s.isHeld || !canStart d s then s
  else
    let r := s.dial d
    s.setDial d { r with
      flight := some {
        polarity := r.polarity.opposite, start := s.now, width := r.width, superseded := false,
        confirmed := false, watched := r.confirm, startLevel := s.lines.dialConf[d] }
      lastStart := some s.now }

def execDialImpulseStart (d : Fin 4) (s : State) : Host.Outcome State Fault Refusal := .next (dialImpulseStart d s)

/-- A delivered impulse (R47). -/
def Dial.delivered (r : Dial) (i : Impulse) : Dial :=
  { r with position := (r.position + 1) % 1440, polarity := i.polarity, misses := 0 }

/-- A missed impulse (R48): DIAL_MISS, and FAULT at the third in a row. -/
def dialMissed (d : Fin 4) (s : State) : State :=
  let r := s.dial d
  let n := min 3 (r.misses + 1)
  let s := s.setDial d { r with misses := n }
  let s := post .dialMiss (d.1 + 1) (dialMissDetail n r.position) s
  if n = 3 ∧ (r.state = .run ∨ r.state = .advance ∨ r.state = .hold) then enterDial d .fault s else s

/-- The decision at an impulse's end (R47): full if FULL is owed, continuing otherwise. -/
def endDecision (d : Fin 4) (s : State) : State :=
  let r := s.dial d
  let s := s.setDial d { r with owed := .none }
  if !r.deciding then s
  else if r.owed = .full then fullDecision d s
  else continuingDecision d s

/-- Judge an impulse at its end (R47, R48); it is absent after. -/
def judgeImpulse (d : Fin 4) (i : Impulse) (s : State) : State :=
  let r := { s.dial d with flight := none }
  if i.superseded then s.setDial d r
  else if !i.watched || i.confirmed then s.setDial d (r.delivered i)
  else dialMissed d (s.setDial d r)

/-- DIAL_IMPULSE_END (R47). -/
def dialImpulseEnd (d : Fin 4) (s : State) : State :=
  match (s.dial d).flight with
  | none => s
  | some i =>
    if s.isHeld || s.now < i.start + i.width then s else endDecision d (judgeImpulse d i s)

def execDialImpulseEnd (d : Fin 4) (s : State) : Host.Outcome State Fault Refusal := .next (dialImpulseEnd d s)

/-- DIAL_CONF_CHANGE (R48): a watched impulse in flight is confirmed by a level other than its first. -/
def dialConfChange (d : Fin 4) (closed : Bool) (s : State) : State :=
  let l := s.lines
  let s := s.setLines { l with dialConf := l.dialConf.set d closed }
  let r := s.dial d
  match r.flight with
  | none => s
  | some i =>
    if i.watched && closed != i.startLevel then s.setDial d { r with flight := some { i with confirmed := true } } else s

def execDialConfChange (d : Fin 4) (closed : Bool) (s : State) : Host.Outcome State Fault Refusal :=
  .next (dialConfChange d closed s)

/-- A dial at the loss of mains (R55): delivered after half its width, else cut; an owed decision is taken. Where none
is owed no decision is taken, after a delivered impulse either, the model's choice (R47, assumption 48). -/
def dialSupplyLost (d : Fin 4) (s : State) : State :=
  let r := s.dial d
  match r.flight with
  | none => s
  | some i =>
    let r' := { r with flight := none }
    let s := s.setDial d (if !i.superseded && decide (i.width ≤ 2 * (s.now - i.start)) then r'.delivered i else r')
    if r.owed = .none then s else endDecision d s

/-- The Dial Drive Unit at the loss of mains. -/
def dialsSupplyLost (s : State) : State := allFour.foldl (fun s d => dialSupplyLost d s) s

/-- A dial at the entry of a warm reset (R57). -/
def Dial.warmReset (r : Dial) : Dial := { r with flight := none, owed := .none }

/-! ### Requests (R58 to R62) -/

/-- A full decision is owed to an impulse's end. -/
def Dial.owes (r : Dial) : Bool := r.owed == .full

/-- DIAL_SET (R58). -/
def actDialSet (dial position polarity : Nat) (s : State) : Reply :=
  match named 4 dial, polarityOf polarity with
  | some d, some pol =>
    let r := s.dial d
    if 1439 < position then refuse .range s
    else if !r.fitted then refuse .notFitted s
    else
      let r' := { r with
        position := position, polarity := pol, misses := 0
        flight := r.flight.map (fun i => { i with superseded := true }) }
      let s := if r.state = .stopped then s.setDial d r'
        else if r.flight.isSome then s.setDial d { r' with owed := .full }
        else fullDecision d (s.setDial d r')
      accept (be2 position ++ be1 pol.code ++ be1 (s.dial d).state.code ++ beFlag (s.dial d).owes) s
  | _, _ => refuse .range s

def dialSet (p : Port) (tag : Byte) (dial position polarity : Nat) (s : State) : State :=
  request .dialSet p tag (actDialSet dial position polarity) s

def execDialSet (p : Port) (tag : Byte) (dial position polarity : Nat) (s : State) : Host.Outcome State Fault Refusal :=
  .next (dialSet p tag dial position polarity s)

/-- DIAL_STOP (R59). -/
def actDialStop (dial : Nat) (s : State) : Reply :=
  match named 4 dial with
  | none => refuse .range s
  | some d =>
    let r := s.dial d
    if !r.fitted then refuse .notFitted s
    else if r.state = .unknown then refuse .state s
    else
      let s := if r.state = .stopped then s else enterDial d .stopped (s.setDial d { r with owed := .none })
      accept (be1 DialState.stopped.code ++ be2 r.position) s

def dialStop (p : Port) (tag : Byte) (dial : Nat) (s : State) : State := request .dialStop p tag (actDialStop dial) s

def execDialStop (p : Port) (tag : Byte) (dial : Nat) (s : State) : Host.Outcome State Fault Refusal :=
  .next (dialStop p tag dial s)

/-- DIAL_START (R60). -/
def actDialStart (dial : Nat) (s : State) : Reply :=
  match named 4 dial with
  | none => refuse .range s
  | some d =>
    let r := s.dial d
    if !r.fitted then refuse .notFitted s
    else if r.state = .unknown then refuse .state s
    else
      let r' := { r with misses := 0 }
      let s := if r.flight.isSome then
          let s := s.setDial d { r' with owed := .full }
          if r.state = .stopped ∨ r.state = .fault then enterDial d .hold s else s
        else fullDecision d (s.setDial d r')
      accept (be1 (s.dial d).state.code ++ beFlag (s.dial d).owes) s

def dialStart (p : Port) (tag : Byte) (dial : Nat) (s : State) : State := request .dialStart p tag (actDialStart dial) s

def execDialStart (p : Port) (tag : Byte) (dial : Nat) (s : State) : Host.Outcome State Fault Refusal :=
  .next (dialStart p tag dial s)

/-- The fast interval stored with a width: at least the width plus 200 ms, in whole seconds (R61). -/
def fastFor (width fast : Nat) : Nat := max (clamp 1 10 fast) ((width + 200 + 999) / 1000)

/-- Write a dial's configuration and let a change of fitting or of the contact act (R61). -/
def writeDial (d : Fin 4) (fitted confirm : Bool) (width fast hold : Nat) (s : State) : State :=
  let r := s.dial d
  let r' := { r with
    fitted := fitted, confirm := confirm, width := width, fast := fast, holdLimit := hold
    revision := nextRevision r.revision
    misses := if r.confirm = confirm then r.misses else 0 }
  if r.fitted = fitted then s.setDial d r'
  else enterDial d .unknown (s.setDial d { r' with flight := none, owed := .none })

/-- The configuration of a dial as its response gives it (R61, R62). -/
def Dial.configBytes (r : Dial) : List Byte :=
  beFlag r.fitted ++ beFlag r.confirm ++ be2 r.width ++ be1 r.fast ++ be2 r.holdLimit ++ be1 r.revision

/-- DIAL_CONFIG (R61). -/
def actDialConfig (a : DialArgs) (s : State) : Reply :=
  match named 4 a.dial, yesNo a.fitted, yesNo a.confirm with
  | some d, some f, some c =>
    let r := s.dial d
    if !revisionOk a.revision r.revision then refuseStale r.revision s
    else
      let w := clamp 200 2000 a.width
      let s := writeDial d f c w (fastFor w a.fast) (clamp 0 720 a.hold) s
      accept (s.dial d).configBytes s
  | _, _, _ => refuse .range s

def dialConfig (p : Port) (tag : Byte) (a : DialArgs) (s : State) : State := request .dialConfig p tag (actDialConfig a) s

def execDialConfig (p : Port) (tag : Byte) (args : DialArgs) (s : State) : Host.Outcome State Fault Refusal :=
  .next (dialConfig p tag args s)

/-- The target that DIAL_READ reports: a dial that is not fitted has none (R45, assumption 38). -/
def reportedTarget (d : Fin 4) (s : State) : Option Nat := if (s.dial d).fitted then s.target else none

/-- The snapshot of DIAL_READ (R62). A closed confirm contact is sent as 1, the model's choice (assumption 18). -/
def dialBytes (d : Fin 4) (s : State) : List Byte :=
  let r := s.dial d
  r.configBytes ++ be1 r.state.code ++ be2 r.position ++ be1 r.polarity.code ++ be1 r.misses ++
  beMarked 8 (fun i => be1 i.polarity.code ++ beTime i.start ++ be2 i.width ++ beFlag i.superseded) r.flight ++
  beAbsent 4 beTime r.lastStart ++ be1 r.owed.code ++
  beMarked 4 (fun t => be2 t ++ be2 (dialDistance t r.position)) (reportedTarget d s) ++
  beFlag s.lines.dialConf[d]

/-- DIAL_READ (R62). -/
def actDialRead (dial : Nat) (s : State) : Reply :=
  match named 4 dial with
  | none => refuse .range s
  | some d => accept (dialBytes d s) s

def dialRead (p : Port) (tag : Byte) (dial : Nat) (s : State) : State := request .dialRead p tag (actDialRead dial) s

def execDialRead (p : Port) (tag : Byte) (dial : Nat) (s : State) : Host.Outcome State Fault Refusal :=
  .next (dialRead p tag dial s)

end Sys2Proof.Machine
end

