-- ==== Sys2Proof/Machine/Lights.lean ====
section
/-! DEFINITION. Chapter 9: the floodlight channels. -/

namespace Sys2Proof.Machine

/-! ### The sense watch (R170) -/

/-- The watch of a channel may begin: LIT with sense fitted, no watch running, a RELAY channel two seconds
past its switch-on. A sense line that LIGHT_CONFIG adds within those two seconds waits for them too: R170 is followed
there, not the "at once" of R176, the model's choice (assumption 26). -/
def watchReady (c : Fin 8) (s : State) : Bool :=
  let r := s.light c
  r.state == .lit && r.sense && r.watch == .idle &&
  (r.kind == .discharge || decide (r.switchOn.getD 0 + 2000 ≤ s.now))

/-- Begin the watch where it may begin: an absence in progress is counted from the start of the watch. -/
def tryWatch (c : Fin 8) (s : State) : State :=
  if watchReady c s then
    s.setLight c { s.light c with watch := .running (if s.lines.lampSense[c] then none else some s.now) }
  else s

/-! ### Switching (R166 to R172) -/

/-- CHANNEL_STATE, for a change of state (R172). -/
def channelNotice (c : Fin 8) (left entered : ChannelState) (cause : LightCause) (s : State) : State :=
  if left = entered then s else post .channelState (c.1 + 1) (channelDetail left entered cause) s

/-- Switch a channel on (R166). -/
def switchOn (c : Fin 8) (cause : LightCause) (s : State) : State :=
  let r := s.light c
  let st := if r.warmUp = 0 then ChannelState.lit else .warming
  let s := s.setLight c { r with
    switchOn := some s.now, warmEnd := some (s.now + r.warmUp * 1000), state := st, pendingOn := false }
  tryWatch c (channelNotice c r.state st cause s)

/-- A channel switched off at an instant (R168). -/
def Channel.switchedOff (r : Channel) (cause : OffCause) (now : Instant) : Channel :=
  { r with
    warmEnd := none, watch := .idle, lastOff := cause, restrikeExpiry := some (now + r.restrike * 1000)
    state := if r.restrike = 0 then .off else .cooling, pendingOn := false }

/-- Switch a channel off and report it (R168). -/
def switchOff (c : Fin 8) (off : OffCause) (cause : LightCause) (s : State) : State :=
  let r := s.light c
  let r' := r.switchedOff off s.now
  channelNotice c r.state r'.state cause (s.setLight c r')

/-! ### The desired state (R163, R164) -/

/-- Ringers are present: some bell's holder is ROPES. -/
def State.ringers (s : State) : Bool := allBells.any (fun b => (s.bell b).holder == .ropes)

/-- The desired state of a channel and the terms that feed it (R163, R179). -/
def desiredNow (c : Fin 8) (s : State) : Derived :=
  let r := s.light c
  let scene := match s.civilNow with
    | some t => sceneActive c t.day t.minute s
    | none => false
  { desired := r.configured &&
      (match r.override with
       | .forceOn => true
       | .forceOff => false
       | .auto => (r.follow && s.ringers) || scene)
    byOverride := r.configured && r.override != .auto
    ringers := s.ringers
    sceneValid := s.timeValid
    scene := scene }

/-- Record a derivation. -/
def recordDerived (c : Fin 8) (s : State) : State := s.setLight c { s.light c with derived := desiredNow c s }

/-- Derive a channel's desired state and act on it (R164, R166, R168, R169, R171). -/
def deriveLight (c : Fin 8) (s : State) : State :=
  let s := recordDerived c s
  let r := s.light c
  match r.state with
  | .off => if r.derived.desired && s.onMains then switchOn c .desired s else s
  | .warming => if r.derived.desired then s else switchOff c .desired .desired s
  | .lit => if r.derived.desired then s else switchOff c .desired .desired s
  | .cooling => s.setLight c { r with pendingOn := r.derived.desired }
  | .failed => s

/-- Derive every channel, ascending. -/
def deriveLights (s : State) : State := allChannels.foldl (fun s c => deriveLight c s) s

/-- An override's expiry has come (R165). -/
def overrideReached (c : Fin 8) (s : State) : Bool :=
  match s.civilNow, (s.light c).expiry with
  | some t, some x => decide (0 ≤ t.dayMinute.diff x)
  | _, _ => false

/-- Test one override for expiry: it returns to AUTO and the channel is derived (R165). -/
def overrideTest (c : Fin 8) (s : State) : State :=
  if overrideReached c s then deriveLight c (s.setLight c { s.light c with override := .auto, expiry := none }) else s

def overrideTests (s : State) : State := allChannels.foldl (fun s c => overrideTest c s) s

/-! ### Supply and warm reset (R173, R175) -/

def lightSupplyLost (c : Fin 8) (s : State) : State :=
  if (s.light c).state.output then switchOff c .supply .supply s else s

/-- Every lit channel is switched off at the loss of mains (R173). -/
def lightsSupplyLost (s : State) : State := allChannels.foldl (fun s c => lightSupplyLost c s) s

/-- A channel at the entry of a warm reset (R162, R175). -/
def Channel.warmReset (now : Instant) (r : Channel) : Channel :=
  let r' := if r.state.output then { r.switchedOff .reset now with resetLeft := some r.state } else r
  { r' with switchOn := none, warmEnd := none, pendingOn := false, watch := .idle }

/-- The CHANNEL_STATE notice a warm reset owes, posted at the completion (R175). -/
def resetNotice (c : Fin 8) (s : State) : State :=
  let r := s.light c
  match r.resetLeft with
  | none => s
  | some left => channelNotice c left r.state .reset (s.setLight c { r with resetLeft := none })

/-- The Floodlight Controller at the completion of a warm reset (R175): every CHANNEL_STATE the reset owes is posted
before any channel is derived, the model's choice (assumption 39). -/
def lightsCompletion (s : State) : State :=
  deriveLights (allChannels.foldl (fun s c => resetNotice c s) s)

/-! ### Events -/

/-- OVERRIDE_EXPIRY (R165). -/
def overrideExpiry (c : Fin 8) (s : State) : State := if s.isHeld then s else overrideTest c s

def execOverrideExpiry (c : Fin 8) (s : State) : Host.Outcome State Fault Refusal := .next (overrideExpiry c s)

/-- WARMUP_END (R167). -/
def warmupEnd (c : Fin 8) (s : State) : State :=
  let r := s.light c
  if s.isHeld || r.state != .warming || !reached r.warmEnd s.now then s
  else tryWatch c (channelNotice c .warming .lit .warmed (s.setLight c { r with state := .lit }))

def execWarmupEnd (c : Fin 8) (s : State) : Host.Outcome State Fault Refusal := .next (warmupEnd c s)

/-- RESTRIKE_EXPIRY (R169). -/
def restrikeExpiry (c : Fin 8) (s : State) : State :=
  let r := s.light c
  if s.isHeld || r.state != .cooling || !reached r.restrikeExpiry s.now then s
  else
    let s := recordDerived c s
    let r := s.light c
    if r.derived.desired && s.onMains then switchOn c .expiry s
    else channelNotice c .cooling .off .expiry (s.setLight c { r with state := .off, pendingOn := false })

def execRestrikeExpiry (c : Fin 8) (s : State) : Host.Outcome State Fault Refusal := .next (restrikeExpiry c s)

/-- SENSE_WATCH_START (R170). -/
def senseWatchStart (c : Fin 8) (s : State) : State := if s.isHeld then s else tryWatch c s

def execSenseWatchStart (c : Fin 8) (s : State) : Host.Outcome State Fault Refusal := .next (senseWatchStart c s)

/-- LAMP_SENSE_CHANGE (R170): the line moves; a running watch begins or ends an absence. -/
def lampSenseChange (c : Fin 8) (current : Bool) (s : State) : State :=
  let l := s.lines
  let s := s.setLines { l with lampSense := l.lampSense.set c current }
  let r := s.light c
  match r.watch with
  | .idle => s
  | .running absence =>
    s.setLight c { r with watch := .running (if current then none else some (absence.getD s.now)) }

def execLampSenseChange (c : Fin 8) (current : Bool) (s : State) : Host.Outcome State Fault Refusal :=
  .next (lampSenseChange c current s)

/-- An absence has lasted 10,000 ms in LIT. -/
def lampAbsent (c : Fin 8) (s : State) : Bool :=
  let r := s.light c
  match r.state, r.watch with
  | .lit, .running (some t) => decide (t + 10000 ≤ s.now)
  | _, _ => false

/-- LAMP_FAILED (R170): the output is released, LAMP_FAILED and then CHANNEL_STATE are posted. -/
def lampFailed (c : Fin 8) (s : State) : State :=
  if s.isHeld || !lampAbsent c s then s
  else
    let r := s.light c
    let s := s.setLight c { r.switchedOff .sense s.now with state := .failed }
    let s := post .lampFailed (c.1 + 1) (lampDetail r.kind ((s.now - r.switchOn.getD 0) / 1000)) s
    channelNotice c .lit .failed .sense s

def execLampFailed (c : Fin 8) (s : State) : Host.Outcome State Fault Refusal := .next (lampFailed c s)

/-! ### Requests (R176 to R179) -/

/-- The time remaining to a channel's restrike expiry, or 0. -/
def Channel.restrikeLeft (r : Channel) (now : Instant) : Nat := r.restrikeExpiry.getD 0 - now

/-- The configuration of a channel as its response gives it. -/
def Channel.configBytes (r : Channel) : List Byte :=
  beFlag r.configured ++ be1 r.kind.code ++ be2 r.warmUp ++ be2 r.restrike ++ beFlag r.follow ++ beFlag r.sense ++
  be1 r.revision

/-- A warm-up or restrike as stored: DEFAULT is the kind's (R176). -/
def lampTime (given top discharge : Nat) (k : LampKind) : Nat :=
  if given = 0xFFFF then (match k with
    | .discharge => discharge
    | .relay => 0)
  else clamp 0 top given

/-- Write a channel's configuration and let the change act (R176). A sense line that is added starts its watch at
the write, but on a RELAY channel lit for less than 2 s at the time of R170, the model's choice (assumption 26). -/
def writeLight (c : Fin 8) (configured : Bool) (kind : LampKind) (follow sense : Bool) (a : LightArgs) (s : State) : State :=
  let r := s.light c
  let r1 := { r with
    configured := configured, kind := kind, follow := follow, sense := sense
    warmUp := lampTime a.warmUp 600 180 kind, restrike := lampTime a.restrike 1800 600 kind
    revision := nextRevision r.revision
    watch := if sense then r.watch else .idle }
  let r2 := if configured then r1 else { r1 with override := .auto, expiry := none }
  let r3 := if r.configured && !configured && r.state == .failed then
      { r2 with state := if reached r.restrikeExpiry s.now then .off else .cooling } else r2
  let s := channelNotice c r.state r3.state .config (s.setLight c r3)
  deriveLight c (tryWatch c s)

/-- LIGHT_CONFIG (R176). -/
def actLightConfig (a : LightArgs) (s : State) : Reply :=
  match named 8 a.channel with
  | none => refuse .range s
  | some c =>
    let r := s.light c
    match yesNo a.configured, lampKindOf a.kind, yesNo a.follow, yesNo a.sense with
    | some cf, some k, some f, some w =>
      if !revisionOk a.revision r.revision then refuseStale r.revision s
      else if k ≠ r.kind ∧ r.state ≠ .off then refuse .busy s
      else if cf ≠ r.configured ∧ r.state ≠ .off ∧ !(r.state = .failed ∧ cf = false) then refuse .busy s
      else
        let s := writeLight c cf k f w a s
        accept ((s.light c).configBytes ++ be1 (s.light c).state.code) s
    | _, _, _, _ => refuse .range s

def lightConfig (p : Port) (tag : Byte) (a : LightArgs) (s : State) : State :=
  request .lightConfig p tag (actLightConfig a) s

def execLightConfig (p : Port) (tag : Byte) (args : LightArgs) (s : State) : Host.Outcome State Fault Refusal :=
  .next (lightConfig p tag args s)

/-- The next occurrence of a minute after a civil time (R177). -/
def nextOccurrence (c : Label) (u : Nat) : DayMinute :=
  { day := if c.minute < u then c.day else (c.day + 1) % 65536, minute := u }

/-- The bytes of a civil day and minute, an override expiry or the minute cursor: the day goes as a four-byte date,
the model's choice (R205, assumption 18). -/
def beDayMinute (m : DayMinute) : List Byte := beDate m.day ++ be2 m.minute

/-- Set an override and derive (R177). -/
def setOverride (c : Fin 8) (m : Override) (x : Option DayMinute) (s : State) : Reply :=
  let s := deriveLight c (s.setLight c { s.light c with override := m, expiry := x })
  accept (be1 m.code ++ beAbsent 6 beDayMinute x ++ be1 (s.light c).state.code ++ beFlag (s.light c).pendingOn) s

/-- LIGHT_OVERRIDE (R177); an until-minute of 0xFFFF is none. -/
def actLightOverride (channel mode untilMinute : Nat) (s : State) : Reply :=
  match named 8 channel with
  | none => refuse .range s
  | some c =>
    match overrideOf mode with
    | none => refuse .range s
    | some m =>
      if untilMinute ≠ 0xFFFF ∧ (1439 < untilMinute ∨ m = .auto) then refuse .range s
      else if !(s.light c).configured then refuse .notFitted s
      else if untilMinute = 0xFFFF then setOverride c m none s
      else
        match s.civilNow with
        | none => refuse .unset s
        | some t => setOverride c m (some (nextOccurrence t untilMinute)) s

def lightOverride (p : Port) (tag : Byte) (channel mode untilMinute : Nat) (s : State) : State :=
  request .lightOverride p tag (actLightOverride channel mode untilMinute) s

def execLightOverride (p : Port) (tag : Byte) (channel mode untilMinute : Nat) (s : State) :
    Host.Outcome State Fault Refusal := .next (lightOverride p tag channel mode untilMinute s)

/-- LIGHT_FAULT_CLEAR (R178). -/
def actLightFaultClear (channel : Nat) (s : State) : Reply :=
  match named 8 channel with
  | none => refuse .range s
  | some c =>
    let r := s.light c
    if r.state ≠ .failed then refuseWith .state (be1 r.state.code) s
    else
      let st := if reached r.restrikeExpiry s.now then ChannelState.off else .cooling
      let s := deriveLight c (channelNotice c .failed st .clear (s.setLight c { r with state := st }))
      accept (be1 (s.light c).state.code ++ beSpan ((s.light c).restrikeLeft s.now)) s

def lightFaultClear (p : Port) (tag : Byte) (channel : Nat) (s : State) : State :=
  request .lightFaultClear p tag (actLightFaultClear channel) s

def execLightFaultClear (p : Port) (tag : Byte) (channel : Nat) (s : State) : Host.Outcome State Fault Refusal :=
  .next (lightFaultClear p tag channel s)

/-- The length of the absence in progress, in ms; 0 where none is, the model's choice (R179, assumption 18). -/
def Watch.absence (w : Watch) (now : Instant) : Nat :=
  match w with
  | .running (some t) => now - t
  | _ => 0

/-- The snapshot of LIGHT_READ (R179). The output level, the lamp's sense line and the desired state are sent as 1
for on, the model's choice (assumption 18). -/
def lightBytes (c : Fin 8) (s : State) : List Byte :=
  let r := s.light c
  r.configBytes ++ be1 r.override.code ++ beMarked 6 beDayMinute r.expiry ++ be1 r.state.code ++
  beFlag r.state.output ++ be1 r.lastOff.code ++ beMarked 4 beTime r.switchOn ++ beMarked 4 beTime r.warmEnd ++
  beMarked 8 (fun x => beTime x ++ beSpan (r.restrikeLeft s.now)) r.restrikeExpiry ++ beFlag r.pendingOn ++
  beFlag s.lines.lampSense[c] ++ beFlag (r.watch != .idle) ++ beSpan (r.watch.absence s.now) ++
  beFlag r.derived.desired ++ beFlag r.derived.byOverride ++ beFlag r.derived.ringers ++
  beFlag r.derived.sceneValid ++ beFlag r.derived.scene

/-- LIGHT_READ (R179). -/
def actLightRead (channel : Nat) (s : State) : Reply :=
  match named 8 channel with
  | none => refuse .range s
  | some c => accept (lightBytes c s) s

def lightRead (p : Port) (tag : Byte) (channel : Nat) (s : State) : State :=
  request .lightRead p tag (actLightRead channel) s

def execLightRead (p : Port) (tag : Byte) (channel : Nat) (s : State) : Host.Outcome State Fault Refusal :=
  .next (lightRead p tag channel s)

end Sys2Proof.Machine
end

