-- ==== Sys2Proof/Machine/Calendar.lean ====
section
/-! DEFINITION. Chapter 8: the Event Calendar: the cursor, firing, missed events, windows and requests. -/

namespace Sys2Proof.Machine

def setCursor (m : Option DayMinute) (s : State) : State := { s with cal := { s.cal with cursor := m } }
/-- The last-fired day of an event becomes a date (R151). -/
def markFired (n : Fin 96) (date : Nat) (s : State) : State := s.setEvent n { s.event n with lastFired := some date }
/-- An anchor names sunrise or sunset. -/
def Anchor.isSun : Anchor → Bool
  | .civil _ => false
  | .sunrise _ => true
  | .sunset _ => true

/-! ### Taking a minute (R151, R152, R156) -/

/-- EVENT_FIRED for the reason none, else EVENT_DEGRADED. -/
def eventNotice (n : Fin 96) (late : Bool) (session : Nat) (r : EventReason) (s : State) : State :=
  post (if r = .none then .eventFired else .eventDegraded) (n.1 + 1) (eventDetail (s.event n).kind late session r) s

/-- A RING, TOLL or TUNE event that matches a date and has not fired on it. -/
def firable (today date : Nat) (n : Fin 96) (s : State) : Bool :=
  let e := s.event n
  !e.kind.isWindow && eventMatches today date e s && e.lastFired != some date

/-- The sun test of one event for a date (R152): degraded with SUN_UNSET where its entry is UNSET. -/
def sunTest (today date : Nat) (late : Bool) (n : Fin 96) (s : State) : State :=
  if firable today date n s && (s.event n).anchor.isSun && (startMinute date (s.event n) s).isNone then
    eventNotice n late 0 .sunUnset (markFired n date s)
  else s

/-- The SUN_UNSET notice of a SCENE or SILENCE event at the first minute taken on a date (R156). -/
def windowSunTest (today date : Nat) (late : Bool) (n : Fin 96) (s : State) : State :=
  let e := s.event n
  if e.kind.isWindow && eventMatches today date e s && (startMinute date e s).isNone then eventNotice n late 0 .sunUnset s
  else s

/-- Hand an event's parameters to its block; the session created, or 0, and the outcome (R151). -/
def handEvent (n : Fin 96) (s : State) : State × Nat × EventReason :=
  let e := s.event n
  match e.kind with
  | .ring mask stagger =>
    match createSession (.event n) mask stagger (e.duration * 60000) s with
    | (s', .created k) => (s', k.1 + 1, .none)
    | (s', .supply) => (s', 0, .supply)
    | (s', .sessionsFull) => (s', 0, .sessionsFull)
    | (s', .noBells) => (s', 0, .noBells)
  | .toll b interval count =>
    match startToll b interval count (min 240 e.duration) (.event n) s with
    | (s', .started _) => (s', 0, .none)
    | (s', .supply) => (s', 0, .supply)
    | (s', .noHammer) => (s', 0, .noBells)
    | (s', .full) => (s', 0, .queueFull)
  | .tune t =>
    let r := playTune n t s
    (r.1, 0, r.2)
  | .scene _ => (s, 0, .none)
  | .silence _ => (s, 0, .none)

/-- The firing test of one event (R151). -/
def fireTest (today : Nat) (m : DayMinute) (late : Bool) (n : Fin 96) (s : State) : State :=
  if firable today m.day n s && startMinute m.day (s.event n) s == some m.minute then
    let r := handEvent n (markFired n m.day s)
    eventNotice n late r.2.1 r.2.2 r.1
  else s

/-- Take a minute: the sun tests, the window events' report at the first minute of a date, the firing. The report
between the other two is the model's choice (R156, assumption 45). -/
def takeMinute (today : Nat) (m : DayMinute) (late : Bool) (s : State) : State :=
  let s := allEvents.foldl (fun s n => sunTest today m.day late n s) s
  let s := if s.cal.datesTaken.contains m.day then s
    else
      let s := allEvents.foldl (fun s n => windowSunTest today m.day late n s) s
      { s with cal := { s.cal with datesTaken := m.day :: s.cal.datesTaken } }
  allEvents.foldl (fun s n => fireTest today m late n s) s

/-! ### The cursor (R150, R153, R154) -/

/-- How far a minute lies after the cursor, around the circle. -/
def minutesAfter (k m : DayMinute) : Nat := (m.number + (minuteCircle - k.number % minuteCircle)) % minuteCircle

/-- Some of the `n` minutes after the cursor lie on a date. -/
def dateCrossed (k : DayMinute) (n date : Nat) : Bool :=
  decide (1 ≤ n ∧ (k.number + n + (minuteCircle - date * 1440 % minuteCircle)) % minuteCircle + 1 < 1440 + n)

/-- One event and one date of a forward jump that is not fired late: missed, or degraded for want of a sun
entry (R153). -/
def missedEventTest (today : Nat) (k : DayMinute) (n : Nat) (e : Fin 96) (date : Nat) (s : State) : State :=
  if firable today date e s then
    match startMinute date (s.event e) s with
    | some m =>
      let after := minutesAfter k { day := date, minute := m }
      if 1 ≤ after ∧ after ≤ n then post .eventMissed (e.1 + 1) (BitVec.ofNat 16 m) (markFired e date s) else s
    | none => if dateCrossed k n date then eventNotice e false 0 .sunUnset (markFired e date s) else s
  else s

/-- Report the events of the crossed minutes as missed: on the date before today and on today (R153). -/
def missedEvents (today : Nat) (k : DayMinute) (n : Nat) (s : State) : State :=
  allEvents.foldl (fun s e => missedEventTest today k n e today (missedEventTest today k n e (dayBeforeOf today) s)) s

/-- Take late, oldest first, the crossed minutes after the first `m` of `n` (R153). -/
def lateMinutes (today : Nat) (k : DayMinute) (m n : Nat) (s : State) : State :=
  (List.range (n - m)).foldl (fun s i => takeMinute today (dayMinuteOf (k.number + m + i + 1)) true s) s

/-- How many of the `n` minutes after the cursor passed in the held period of a warm reset (R187); the mark is
the civil minute in which the reset was completed. -/
def heldMinutes (k : DayMinute) (n : Nat) (heldUntil : Option DayMinute) : Nat :=
  match heldUntil with
  | none => 0
  | some h => min n (h.diff k).toNat

/-- A forward jump over `n` minutes, of which the first `held` passed in a warm reset: after a small time step
the others are fired late, and all else is missed (R153, R187). -/
def forwardJump (today : Nat) (k : DayMinute) (n held : Nat) (smallStep : Bool) (s : State) : State :=
  if smallStep then lateMinutes today k held n (missedEvents today k held s) else missedEvents today k n s

/-- Compare the cursor with the current civil minute (R150). `begins`: this is a boundary whose second
begins its minute; `smallStep`: the comparison follows a time step of +1 to +120 seconds with no offset
change applied (R153); `heldUntil`: the minute in which a warm reset was completed since the last comparison. -/
def compareCursor (c : Label) (begins smallStep : Bool) (heldUntil : Option DayMinute) (s : State) : State :=
  let cur := c.dayMinute
  let s := match s.cal.cursor with
    | none => if begins then takeMinute c.day cur false s else s
    | some k =>
      let d := cur.diff k
      if d ≤ 0 then s
      else if d = 1 ∧ begins then takeMinute c.day cur false s
      else
        let n := if begins then d.toNat - 1 else d.toNat
        let s := forwardJump c.day k n (heldMinutes k n heldUntil) smallStep s
        if begins then takeMinute c.day cur false s else s
  setCursor (some cur) s

/-- The Event Calendar's comparison at a boundary, or at a relabel in mid-second; the minutes that passed in a
warm reset since the last comparison are not fired late (R187, assumption 16). -/
def calendarCompare (boundary smallStep : Bool) (s : State) : State :=
  match s.civilNow with
  | none => s
  | some c =>
    let held := s.cal.heldUntil
    let s := { s with cal := { s.cal with heldUntil := none } }
    compareCursor c (boundary && c.sec % 60 == 0) smallStep held s

/-! ### The active window set (R156) -/

/-- The events whose windows are active now, in ascending event number; empty while UNSET. -/
def activeNow (s : State) : List (Fin 96) :=
  match s.civilNow with
  | none => []
  | some c => allEvents.filter (fun n => (s.event n).kind.isWindow && windowTest c.day c.minute (s.event n) s)

/-- An event is a SCENE event. -/
def isScene (n : Fin 96) (s : State) : Bool :=
  match (s.event n).kind with
  | .scene _ => true
  | _ => false

/-- The active SCENE events. -/
def State.activeScenes (s : State) : List (Fin 96) := s.cal.active.filter (fun n => isScene n s)

/-- Recompute the active window set; a changed set of SCENE events is handed to the Floodlight Controller,
which derives every channel (R156, R164). `old` is the SCENE set before. -/
def recomputeWindows (old : List (Fin 96)) (s : State) : State :=
  let s := { s with cal := { s.cal with active := activeNow s } }
  if s.activeScenes = old then s else deriveLights s

/-! ### Requests (R158 to R161) -/

/-- The day selector a request asks for; none where a check fails (R158). -/
def selectorOf (a : EventArgs) (s : State) : Option DaySelector :=
  if a.selector = 0 then
    if 1 ≤ a.weekdays ∧ a.weekdays < 128 ∧ 1 ≤ a.classes ∧ a.classes < 16 then
      some (.weekly (BitVec.ofNat 7 a.weekdays) (BitVec.ofNat 4 a.classes))
    else none
  else if a.selector = 1 then
    match checkDate { year := a.year, month := a.month, day := a.day }, s.civilNow with
    | none, _ => none
    | some d, none => some (.date d)
    | some d, some c => if dayBefore d c.day then none else some (.date d)
  else none

/-- The anchor a request asks for, the sun offset clamped (R158). -/
def anchorOf (a : EventArgs) : Option Anchor :=
  if a.anchor = 0 then (if a.minute ≤ 1439 then some (.civil a.minute) else none)
  else if a.anchor = 1 then some (.sunrise (clampInt (-240) 240 a.sunOffset))
  else if a.anchor = 2 then some (.sunset (clampInt (-240) 240 a.sunOffset))
  else none

/-- The kind a request asks for with its parameters, clamped (R158). -/
def kindOf (a : EventArgs) : Option EventKind :=
  if a.kind = 0 then (if a.ringMask % 65536 = 0 then none else some (.ring (BitVec.ofNat 16 a.ringMask) (clamp 2 30 a.stagger)))
  else if a.kind = 1 then
    match named 16 a.tollBell with
    | some b => if a.count ≤ 999 then some (.toll b (clamp 4 60 a.interval) a.count) else none
    | none => none
  else if a.kind = 2 then (if a.tune ≤ 24 then some (.tune a.tune) else none)
  else if a.kind = 3 then (if a.channels % 256 = 0 then none else some (.scene (BitVec.ofNat 8 a.channels)))
  else if a.kind = 4 then (scopeOf a.scope).map .silence
  else none

/-- The duration stored for a kind (R158). -/
def durationOf (k : EventKind) (given : Nat) : Nat :=
  match k with
  | .ring _ _ => min 60 (clamp 1 1440 given)
  | .toll _ _ _ => min 240 (clamp 1 1440 given)
  | .tune _ => 1
  | .scene _ => clamp 1 1440 given
  | .silence _ => clamp 1 1440 given

def DaySelector.bytes : DaySelector → List Byte
  | .weekly w c => be1 0 ++ be1 w.toNat ++ be1 c.toNat ++ [0, 0, 0, 0]
  | .date d => be1 1 ++ be1 0 ++ be1 0 ++ beDate d
def Anchor.bytes : Anchor → List Byte
  | .civil m => be1 0 ++ be2 m ++ beS2 0
  | .sunrise o => be1 1 ++ be2 0 ++ beS2 o
  | .sunset o => be1 2 ++ be2 0 ++ beS2 o
/-- The parameters of every kind at their places, those of other kinds at their cold values (R146, R204). -/
def EventKind.bytes (k : EventKind) : List Byte :=
  (match k with
   | .ring m g => be2 m.toNat ++ be1 g
   | _ => be2 0 ++ be1 6) ++
  (match k with
   | .toll b i c => be1 (b.1 + 1) ++ be1 i ++ be2 c
   | _ => be1 1 ++ be1 4 ++ be2 0) ++
  (match k with
   | .tune t => be1 t
   | _ => be1 0) ++
  (match k with
   | .scene m => be1 m.toNat
   | _ => be1 0) ++
  (match k with
   | .silence x => be1 x.code
   | _ => be1 0)

/-- The stored fields of an event, in the order of EVENT_WRITE, with the revision and the last-fired day, which goes
as a four-byte date, the model's choice (R146, R205, assumption 18). -/
def Event.bytes (e : Event) : List Byte :=
  be1 e.kind.code ++ e.selector.bytes ++ e.anchor.bytes ++ be2 e.duration ++ e.kind.bytes ++ be1 e.revision ++
  beMarked 4 beDate e.lastFired

/-- The start minute of an event on today's date; none while UNSET (R159). -/
def startToday (e : Event) (s : State) : Option Nat :=
  match s.civilNow with
  | none => none
  | some c => startMinute c.day e s

/-- Write an event record and recompute the windows (R159, R160). -/
def writeEvent (n : Fin 96) (e : Event) (s : State) : State := recomputeWindows s.activeScenes (s.setEvent n e)

/-- EVENT_WRITE (R158, R159). -/
def actEventWrite (a : EventArgs) (s : State) : Reply :=
  match named 96 a.event with
  | none => refuse .range s
  | some n =>
    let r := s.event n
    match kindOf a, selectorOf a s, anchorOf a with
    | some k, some sel, some an =>
      if !revisionOk a.revision r.revision then refuseStale r.revision s
      else
        let e : Event := {
          valid := true, kind := k, selector := sel, anchor := an, duration := durationOf k a.duration
          lastFired := r.lastFired, revision := nextRevision r.revision }
        accept (e.bytes ++ beMarked 2 be2 (startToday e s)) (writeEvent n e s)
    | _, _, _ => refuse .range s

def eventWrite (p : Port) (tag : Byte) (a : EventArgs) (s : State) : State := request .eventWrite p tag (actEventWrite a) s

def execEventWrite (p : Port) (tag : Byte) (args : EventArgs) (s : State) : Host.Outcome State Fault Refusal :=
  .next (eventWrite p tag args s)

/-- EVENT_DELETE (R160). -/
def actEventDelete (event revision : Nat) (s : State) : Reply :=
  match named 96 event with
  | none => refuse .range s
  | some n =>
    let r := s.event n
    if !revisionOk revision r.revision then refuseStale r.revision s
    else if !r.valid then refuse .state s
    else
      accept (be1 (nextRevision r.revision))
        (writeEvent n { lastFired := r.lastFired, revision := nextRevision r.revision } s)

def eventDelete (p : Port) (tag : Byte) (event revision : Nat) (s : State) : State :=
  request .eventDelete p tag (actEventDelete event revision) s

def execEventDelete (p : Port) (tag : Byte) (event revision : Nat) (s : State) : Host.Outcome State Fault Refusal :=
  .next (eventDelete p tag event revision s)

/-- The snapshot of EVENT_READ (R161). Whether the event is in the active window set is an item of SCENE and
SILENCE events alone; the list of the set is in ascending event number, and the days of the cursor and of yesterday
go as dates, the model's choices (assumption 18). -/
def eventBytes (n : Fin 96) (s : State) : List Byte :=
  let e := s.event n
  let window := e.kind.isWindow
  beFlag e.valid ++ e.bytes ++
  beMarked (if window then 5 else 4) (fun c => beFlag (eventMatches c.day c.day e s) ++
    beMarked 2 be2 (startMinute c.day e s) ++ (if window then beFlag (s.cal.active.contains n) else [])) s.civilNow ++
  beMarked 6 beDayMinute s.cal.cursor ++
  beMarked 5 (fun y => beDate y.date ++ be1 y.cls.code) s.cal.yesterday ++
  beList (fun m => be1 (m.1 + 1) ++ be1 (s.event m).kind.code ++
    (match (s.event m).kind with
     | .silence x => be1 x.code
     | _ => [])) s.cal.active

/-- EVENT_READ (R161). -/
def actEventRead (event : Nat) (s : State) : Reply :=
  match named 96 event with
  | none => refuse .range s
  | some n => accept (eventBytes n s) s

def eventRead (p : Port) (tag : Byte) (event : Nat) (s : State) : State := request .eventRead p tag (actEventRead event) s

def execEventRead (p : Port) (tag : Byte) (event : Nat) (s : State) : Host.Outcome State Fault Refusal :=
  .next (eventRead p tag event s)

end Sys2Proof.Machine
end

