-- ==== Sys2Proof/Machine/TimeBase.lean ====
section
/-! DEFINITION. Chapters 1 and 2: the local second, discipline, reference pulses and messages, labels and time
steps; the civil offset, the Day-Class List and the Sun Table; and the course of a local second boundary
through the blocks (assumption 9). -/

namespace Sys2Proof.Machine

def State.setTb (s : State) (t : TimeBase) : State := { s with tb := t }
def State.setRef (s : State) (r : RefRx) : State := { s with ref := r }

/-! ### The length of a second (R1, R2) -/

/-- The slew of the second that begins. -/
def slewOf (p : Int) : Int := clampInt (-Config.slewMax) Config.slewMax p

/-- Fix the length of the second that begins, in the three steps of R1, at count 0; run time rises by one (R2). -/
def TimeBase.newSecond (t : TimeBase) : TimeBase :=
  let acc := (t.residue : Int) + t.freq
  { t with
    slew := t.slew - slewOf t.slew
    residue := (acc % 65536).toNat
    len := (Config.nominalSecond + acc / 65536 + slewOf t.slew).toNat
    count := 0, ms := 0, uptime := t.uptime + 1 }

/-! ### Discipline state (R4) -/

/-- Change the discipline state: STATE_CHANGED under the label in force after the change; leaving ACQUIRE
returns the good count to 0 (R4, R9). -/
def setDisc (d : Discipline) (s : State) : State :=
  let t := s.tb
  if t.disc = d then s
  else
    let s := s.setTb { t with disc := d, good := if t.disc = .acquire then 0 else t.good }
    post .stateChanged 0 (pair t.disc.code d.code) s

/-- The missed count has reached its limit (R14). -/
def missedMove (s : State) : State :=
  match s.tb.disc with
  | .locked => setDisc .holdover (s.setTb { s.tb with holdover := 0 })
  | .acquire => setDisc .free s
  | _ => s

/-- The missed-pulse test of the second that ended; its mark becomes the preceding second's (R14). -/
def missedTest (s : State) : State :=
  let t := s.tb
  let missing := s.ref.mode != .off && !t.curMark
  let n := if missing then min 255 (t.missed + 1) else t.missed
  let s := s.setTb { t with missed := n, prevMark := t.curMark, curMark := false }
  if missing && decide (Config.missedLimit ≤ n) then missedMove s else s

/-- The holdover count rises in HOLDOVER; at the limit the state becomes FREE (R15). -/
def holdoverRise (s : State) : State :=
  let t := s.tb
  if t.disc = .holdover then
    let s := s.setTb { t with holdover := t.holdover + 1 }
    if Config.holdoverLimit ≤ t.holdover + 1 then setDisc .free s else s
  else s

/-- A waiting pending label is taken by the second that begins, and cleared (R21). -/
def TimeBase.takePending (t : TimeBase) : TimeBase :=
  match t.pendingLabel with
  | none => t
  | some l => { t with label := some l, pendingLabel := none }

/-- The state a first label moves UNSET to (R21); `waited`: a pending label was taken by this second. -/
def leaveUnset (waited : Bool) (s : State) : State :=
  if waited ∧ s.tb.disc = .unset then
    if s.ref.mode = .off then setDisc .free s else setDisc .acquire (s.setTb { s.tb with good := 0 })
  else s

/-- Begin a local second that would carry a label (R1 to R3, R14, R15, R21). Its label is settled before its
tests, so that each STATE_CHANGED carries the label in force after the change (R4). A limit's STATE_CHANGED is the
first notice of the boundary, before TIME_STEPPED and OFFSET_APPLIED, the model's choice (assumption 47). -/
def beginSecond (label : Option Label) (s : State) : State :=
  let waited := s.tb.pendingLabel.isSome
  let s := s.setTb { s.tb.newSecond with label := label }.takePending
  leaveUnset waited (missedTest (holdoverRise s))

/-! ### Civil offset, change of date (R33, R39, R148) -/

/-- The pending offset change is to be applied now (R33). -/
def changeDue (s : State) : Bool :=
  match s.civil.change with
  | none => false
  | some c =>
    match c.instant, s.label with
    | .next, _ => true
    | .label i, some l => l.atOrAfter i
    | .label _, none => false

/-- Apply the pending offset change: OFFSET_APPLIED (R33). -/
def applyOffset (s : State) : State :=
  match s.civil.change with
  | none => s
  | some c =>
    let s := { s with civil := { s.civil with offset := c.offset, change := none } }
    post .offsetApplied 0 (BitVec.ofInt 16 c.offset) s

/-- How far a date lies after another, forward round the circle of dates. -/
def daysAfter (a d : Nat) : Nat := (d + (65536 - a % 65536)) % 65536

/-- Insert an entry at its place in the order of the dates from `a` on. -/
def insertDay (a : Nat) (e : DayEntry) : List DayEntry → List DayEntry
  | [] => [e]
  | x :: xs => if daysAfter a x.date < daysAfter a e.date then x :: insertDay a e xs else e :: x :: xs

/-- Entries in the order of their dates from `a` on. -/
def daysFrom (a : Nat) (es : List DayEntry) : List DayEntry := es.foldr (insertDay a) []

/-- The date of a list that no other lies before (R31), the nearest from `a` on. Where the dates span more than
half the circle there may be none, and the order begins at `a`: the model's choice (assumption 41). -/
def firstDay (a : Nat) (es : List DayEntry) : Nat :=
  match (daysFrom a es).find? (fun e => es.all (fun x => !dayBefore x.date e.date)) with
  | some e => e.date
  | none => a

/-- The entries of the Day-Class List in ascending order of date (R36, R31). -/
def dateOrder (a : Nat) (es : List DayEntry) : List DayEntry := daysFrom (firstDay a es) es

/-- Remove every entry dated before a date (R39); the others stand in date order, seen from that date. -/
def pruneDays (date : Nat) (s : State) : State :=
  { s with days := { s.days with
    entries := dateOrder date (s.days.entries.filter (fun e => !dayBefore e.date date)) } }

/-- The yesterday record takes the date that ended, with its class as it stands (R148). -/
def takeYesterday (date : Nat) (s : State) : State :=
  { s with cal := { s.cal with yesterday := some { date := date, cls := s.classOf date } } }

/-- A change of civil date: the yesterday record, then the pruning (R39, R148). -/
def dateChange (old : Option Label) (becameValid : Bool) (s : State) : State :=
  match old, s.civilNow with
  | some o, some c =>
    if o.day ≠ c.day then pruneDays c.day (takeYesterday o.day s)
    else if becameValid then pruneDays c.day s else s
  | none, some c => pruneDays c.day s
  | _, none => s

/-! ### The blocks at a boundary and at a relabel -/

/-- The civil day and minute differ from those before. -/
def minuteChanged (old : Option Label) (s : State) : Bool :=
  old.map Label.dayMinute != s.civilNow.map Label.dayMinute

/-- The Floodlight Controller and the windows at a boundary (R156, R164, R165). -/
def lightsBoundary (changed : Bool) (s : State) : State :=
  let s := if changed then recomputeWindows s.activeScenes s else s
  deriveLights (if changed then overrideTests s else s)

/-- A small time step: +1 to +120 seconds (R153). -/
def smallDelta (delta : Option Int) : Bool :=
  match delta with
  | some d => decide (1 ≤ d ∧ d ≤ 120)
  | none => false

/-- The blocks other than the Time Base at the beginning of a second: dials, Strike Unit, Event Calendar,
windows and lights (assumption 9). -/
def blocksBoundary (old : Option Label) (delta : Option Int) (applied becameValid : Bool) (s : State) : State :=
  let s := dialsBoundary (delta.isSome || applied || becameValid) s
  let s := match s.label with
    | some l => strikeBoundary delta l s
    | none => s
  let s := calendarCompare true (smallDelta delta && !applied) s
  lightsBoundary (minuteChanged old s || becameValid) s

/-- What follows the labelling of a second that begins: the offset test, the change of date and, unless a
warm reset is held, the other blocks (R33, R39, R148, R186). OFFSET_APPLIED follows every STATE_CHANGED,
LABEL_MISMATCH and TIME_STEPPED of the boundary, the model's choice (assumption 47). -/
def newSecondTail (old : Option Label) (delta : Option Int) (s : State) : State :=
  let applied := changeDue s
  let s := if applied then applyOffset s else s
  let becameValid := s.timeValid && !s.tb.validAtBoundary
  let s := dateChange old becameValid s
  let s := s.setTb { s.tb with validAtBoundary := s.timeValid }
  if s.isHeld then s else blocksBoundary old delta applied becameValid s

/-- The nonzero difference of a label from the one that would otherwise have been in force (R22). -/
def stepDelta (cmp now : Option Label) : Option Int :=
  match cmp, now with
  | some c, some l => if l.diff c = 0 then none else some (l.diff c)
  | _, _ => none

/-- TIME_STEPPED (R22). -/
def postStep (delta : Option Int) (s : State) : State :=
  match delta with
  | some d => post .timeStepped 0 (deltaDetail d) s
  | none => s

/-- Finish the beginning of a second whose label is settled: the time step against `cmp`, then the tail. TIME_STEPPED
follows the STATE_CHANGED of a limit reached at the same boundary, the model's choice (R4, R22, assumption 47). -/
def finishSecond (old cmp : Option Label) (s : State) : State :=
  let delta := stepDelta cmp s.label
  newSecondTail old delta (postStep delta s)

/-- The course of an ordinary local second boundary. -/
def boundary (s : State) : State :=
  let l := s.label.map Label.advance
  finishSecond s.civilNow l (beginSecond l s)

/-- The windows and the overrides at a relabel, whether or not the minute changes (R156, R165). -/
def relabelWindows (s : State) : State := overrideTests (recomputeWindows s.activeScenes s)

/-- The blocks at a relabel in mid-second (R19, R39, R53, R127, R150, R156, R165). -/
def relabel (delta : Int) (l : Label) (s : State) : State :=
  let old := s.civilNow
  let s := s.setTb { s.tb with label := some l }
  let s := postStep (some delta) s
  let s := dialsFull (dateChange old false s)
  let s := quarterStep delta l s
  relabelWindows (calendarCompare false (smallDelta (some delta)) s)

/-! ### Events of the Time Base -/

/-- LOCAL_SECOND_BOUNDARY (R1): the count reaches L. -/
def localSecondBoundary (s : State) : State := if s.tb.count + 1 < s.tb.len then s else boundary s

def execLocalSecondBoundary (s : State) : Host.Outcome State Fault Refusal := .next (localSecondBoundary s)

/-- MISSED_LIMIT (R14): the move, where the count stands at the limit (assumption 11). -/
def missedLimit (s : State) : State := if s.tb.missed < Config.missedLimit then s else missedMove s

def execMissedLimit (s : State) : Host.Outcome State Fault Refusal := .next (missedLimit s)

/-- HOLDOVER_LIMIT (R15): the move, where the count stands at the limit (assumption 11). -/
def holdoverLimit (s : State) : State :=
  if s.tb.disc = .holdover ∧ Config.holdoverLimit ≤ s.tb.holdover then setDisc .free s else s

def execHoldoverLimit (s : State) : Host.Outcome State Fault Refusal := .next (holdoverLimit s)

/-- The boundary the count has reached would apply the pending offset change (R33). -/
def boundaryApplies (s : State) : Bool :=
  decide (s.tb.len ≤ s.tb.count + 1) && changeDue (beginSecond (s.label.map Label.advance) s)

/-- OFFSET_CHANGE_APPLIED (R33): the boundary at which the pending change is applied (assumption 11). -/
def offsetChangeApplied (s : State) : State := if boundaryApplies s then boundary s else s

def execOffsetChangeApplied (s : State) : Host.Outcome State Fault Refusal := .next (offsetChangeApplied s)

/-! ### Reference pulses (R6 to R13, R18, R19) -/

/-- The message that qualifies a pulse in REF_FULL (R6, R17). -/
def qualifying (s : State) : Option RefMessage :=
  match s.ref.message with
  | some m => if m.pairing = .waiting ∧ m.quality = 0 ∧ s.now ≤ m.arrival + Config.messageWindow then some m else none
  | none => none

/-- Less than 500 ms since the previous accepted pulse (R6). -/
def spurious (s : State) : Bool :=
  match s.tb.lastAccepted with
  | some t => decide (s.now < t + Config.spuriousGuard)
  | none => false

/-- The error of a pulse at a count of a second of a length (R7). -/
def pulseError (c len : Nat) : Int := if 2 * c ≤ len then (c : Int) else (c : Int) - len

/-- A pulse is accepted: its run time, its second's mark, the missed count (R6, R14). -/
def acceptPulse (s : State) : State :=
  s.setTb { s.tb with lastAccepted := some s.now, curMark := true, missed := 0 }

/-- Frequency learning (R12): F + 64 E, clamped, where P was 0 and the preceding second was marked. -/
def learn (e : Int) (t : TimeBase) : TimeBase :=
  if t.slew = 0 ∧ t.prevMark then { t with freq := clampInt (-Config.trimMax) Config.trimMax (t.freq + 64 * e) } else t

/-- |E| is within a window. -/
def within (e window : Int) : Bool := decide (-window ≤ e ∧ e ≤ window)

/-- Equal labels end a run of mismatches (R18). -/
def matchLabels (s : State) : State :=
  (s.setTb { s.tb with mismatch := 0 }).setRef { s.ref with continuity := none }

/-- A mismatch is counted and reported under the running label (R18). -/
def countMismatch (delta : Int) (s : State) : State :=
  post .labelMismatch 0 (deltaDetail delta) (s.setTb { s.tb with mismatch := min 255 (s.tb.mismatch + 1) })

/-- The continuity record holds the label one second older and the same delta (R19). -/
def consecutive (msg : Label) (delta : Int) (s : State) : Bool :=
  match s.ref.continuity with
  | some (l, d) => l.advance == msg && d == delta
  | none => false

/-- The label check of an accepted pulse that caused no phase step (R18, R19). -/
def labelCheck (msg implied : Label) (s : State) : State :=
  if msg = implied then matchLabels s
  else
    let delta := msg.diff implied
    let s := countMismatch delta s
    if consecutive msg delta s then
      match s.label with
      | some l => relabel delta (l.shift delta) (matchLabels s)
      | none => s
    else s.setRef { s.ref with continuity := some (msg, delta) }

/-- The label check of a pulse that caused a phase step, against the label of the second the step begins; a
relabel joins the step's own (R18, R19). -/
def stepCheck (msg : Label) (s : State) : State :=
  match s.label with
  | none => s
  | some l =>
    if msg = l then matchLabels s
    else
      let delta := msg.diff l
      let s := countMismatch delta s
      if consecutive msg delta s then matchLabels (s.setTb { s.tb with label := some msg })
      else s.setRef { s.ref with continuity := some (msg, delta) }

/-- A message that relabelled a second begun under one label as another reaches the windows and the overrides even
within the minute (R19, R156, R165). -/
def stepRelabel (begun checked : Option Label) (s : State) : State := if checked = begun then s else relabelWindows s

/-- A phase step (R10): the second is cut at the pulse and a new one begins. LABEL_MISMATCH is posted before
TIME_STEPPED (assumption 12) and before OFFSET_APPLIED (assumption 47), the model's choices. -/
def phaseStep (e : Int) (msg : Option Label) (s : State) : State :=
  let cut := s.label
  let old := s.civilNow
  let s := s.setTb { s.tb with slew := 0, good := 0 }
  let begun := beginSecond (if 0 < e then cut else cut.map Label.advance) s
  let checked := match msg with
    | some m => stepCheck m begun
    | none => begun
  stepRelabel begun.label checked.label (finishSecond old cut checked)

/-- The label a pulse implies (R7). -/
def impliedLabel (e : Int) (l : Label) : Label := if 0 ≤ e then l else l.advance

/-- The check of R18 after a pulse without a phase step, where a message was consumed. -/
def checkPulse (e : Int) (msg : Option Label) (s : State) : State :=
  match msg, s.label with
  | some m, some l => labelCheck m (impliedLabel e l) s
  | _, _ => s

/-- A pulse in ACQUIRE (R9, R12). -/
def acquirePulse (e : Int) (msg : Option Label) (s : State) : State :=
  let s := acceptPulse s
  if !within e Config.stepThreshold then phaseStep e msg s
  else
    let good := if within e Config.lockWindow then s.tb.good + 1 else 0
    let s := s.setTb { learn e s.tb with slew := e, good := good }
    let s := if 3 ≤ good then setDisc .locked (s.setTb { s.tb with outlier := 0 }) else s
    checkPulse e msg s

/-- A pulse in LOCKED (R11, R12). -/
def lockedPulse (e : Int) (msg : Option Label) (s : State) : State :=
  if !within e Config.stepThreshold then
    if 3 ≤ s.tb.outlier + 1 then setDisc .acquire (s.setTb { s.tb with outlier := 0, good := 0 })
    else s.setTb { s.tb with outlier := s.tb.outlier + 1 }
  else
    let s := acceptPulse s
    checkPulse e msg (s.setTb { learn e s.tb with slew := e, outlier := 0 })

/-- The first label, from a message (R13): the state becomes ACQUIRE and this pulse may be the first good one. -/
def firstLabel (l : Label) (e : Int) (s : State) : State :=
  let s := setDisc .acquire (s.setTb { s.tb with label := some l })
  matchLabels (s.setTb { s.tb with good := if within e Config.lockWindow then 1 else 0 })

/-- A pulse in UNSET (R13). -/
def unsetPulse (e : Int) (msg : Option Label) (s : State) : State :=
  let s := acceptPulse s
  match msg with
  | none => if within e Config.stepThreshold then s.setTb { s.tb with slew := e } else phaseStep e none s
  | some m =>
    if within e Config.stepThreshold then
      firstLabel (if 0 ≤ e then m else m.shift (-1)) e (s.setTb { s.tb with slew := e })
    else
      let s := s.setTb { s.tb with slew := 0, good := 0 }
      finishSecond none none (firstLabel m e (beginSecond none s))

/-- A taken pulse, by the discipline state (R8, R9, R11, R13). -/
def takenPulse (msg : Option Label) (s : State) : State :=
  let e := pulseError s.tb.count s.tb.len
  match s.tb.disc with
  | .unset => unsetPulse e msg s
  | .free => acquirePulse e msg (setDisc .acquire (s.setTb { s.tb with good := 0, outlier := 0 }))
  | .holdover =>
    acquirePulse e msg (setDisc .acquire (s.setTb { s.tb with good := 0, outlier := 0, holdover := 0 }))
  | .acquire => acquirePulse e msg s
  | .locked => lockedPulse e msg s

/-- In LOCKED a taken pulse beyond the step threshold is an outlier, and is discarded (R11). -/
def outlierPulse (s : State) : Bool :=
  decide (s.tb.disc = .locked) && !within (pulseError s.tb.count s.tb.len) Config.stepThreshold

/-- The message that qualified a taken pulse becomes USED; a discarded outlier consumes none (R6, R17,
assumption 36). -/
def consumeMessage (m : RefMessage) (s : State) : State :=
  if outlierPulse s then s else s.setRef { s.ref with message := some { m with pairing := .used } }

/-- REF_PULSE (R6): ignored, or taken. -/
def refPulse (s : State) : State :=
  if s.isHeld || spurious s then s
  else
    match s.ref.mode with
    | .off => s
    | .pulse => takenPulse none s
    | .full =>
      match qualifying s with
      | none => s
      | some m => takenPulse (some m.label) (consumeMessage m s)

def execRefPulse (s : State) : Host.Outcome State Fault Refusal := .next (refPulse s)

/-! ### The reference message line (R16, R17) -/

/-- The sum of bytes modulo 256. -/
def sumByte (bs : List Byte) : Byte := bs.foldl (· + ·) 0

/-- The label and quality of a complete message of twelve bytes; none if it is discarded (R16). -/
def messageOf (bs : List Byte) : Option (Label × Byte) :=
  let sec := rd3 bs 3
  if sumByte (bs.take 11) = bs.getD 11 0 ∧ sec ≤ 86399 ∧ (bs.drop 7).take 4 = [0, 0, 0, 0] then
    some ({ day := rd2 bs 1, sec := sec }, bs.getD 6 0)
  else none

/-- More than 10 ms have passed since the last byte of a message in progress (R16). -/
def messageGap (s : State) : Bool := s.ref.rx != [] && decide (s.ref.lastByte + 10 < s.now)

/-- REF_MESSAGE_GAP_TIMEOUT (R16). -/
def refMessageGapTimeout (s : State) : State := if messageGap s then s.setRef { s.ref with rx := [] } else s

def execRefMessageGapTimeout (s : State) : Host.Outcome State Fault Refusal := .next (refMessageGapTimeout s)

/-- One byte on the message line: a message with a gap is abandoned first; then hunting, collecting, complete on
the twelfth (R16, R17). -/
def messageByte (b : Byte) (s : State) : State :=
  let s := refMessageGapTimeout s
  let r := s.ref
  if r.rx = [] then (if b = 0xC3 then s.setRef { r with rx := [b], lastByte := s.now } else s)
  else if r.rx.length + 1 < 12 then s.setRef { r with rx := r.rx ++ [b], lastByte := s.now }
  else
    match messageOf (r.rx ++ [b]) with
    | some (l, q) => s.setRef { r with
        rx := [], message := some { label := l, quality := q, arrival := s.now, pairing := .waiting } }
    | none => s.setRef { r with rx := [] }

/-- REF_MESSAGE_RECEIVED (R16, R17): the bytes that arrive. -/
def refMessageReceived (bytes : List Byte) (s : State) : State := bytes.foldl (fun s b => messageByte b s) s

def execRefMessageReceived (bytes : List Byte) (s : State) : Host.Outcome State Fault Refusal :=
  .next (refMessageReceived bytes s)

/-- A WAITING message has waited 1,200 ms (R17). -/
def messageExpired (s : State) : Bool :=
  match s.ref.message with
  | some m => m.pairing == .waiting && decide (m.arrival + Config.messageWindow ≤ s.now)
  | none => false

/-- A WAITING message becomes EXPIRED (R17, R26). -/
def RefRx.expire (r : RefRx) : RefRx :=
  { r with message := r.message.map (fun m => if m.pairing = .waiting then { m with pairing := .expired } else m) }

/-- REF_MESSAGE_EXPIRED (R17). -/
def refMessageExpired (s : State) : State := if messageExpired s then s.setRef s.ref.expire else s

def execRefMessageExpired (s : State) : Host.Outcome State Fault Refusal := .next (refMessageExpired s)

/-! ### Requests of the Time Base (R5, R20, R23, R24) -/

/-- The snapshot of TIME_READ (R24). While UNSET the civil date and minute are absent without a mark; the pending offset
change stands behind one (assumption 18). -/
def timeBytes (s : State) : List Byte :=
  let t := s.tb
  be1 t.disc.code ++ be1 s.ref.mode.code ++ beMarked 5 beLabel t.label ++ beTime t.uptime ++ be4 t.count ++ be4 t.len ++
  beS4 t.freq ++ be2 t.residue ++ beS4 t.slew ++ be1 t.good ++ be1 t.missed ++ be1 t.outlier ++ be1 t.mismatch ++
  be4 t.holdover ++ beMarked 5 beLabel t.pendingLabel ++
  beMarked 11 (fun m => beLabel m.label ++ [m.quality] ++ beTime m.arrival ++ be1 m.pairing.code) s.ref.message ++
  beMarked 7 (fun c => beLabel c.1 ++ beDelta c.2) s.ref.continuity ++
  beS2 s.civil.offset ++ beMarked 7 (fun c => beS2 c.offset ++ beInstant c.instant) s.civil.change ++
  beAbsent 6 beDayMinute (s.civilNow.map Label.dayMinute)

/-- TIME_READ (R24). -/
def actTimeRead (s : State) : Reply := accept (timeBytes s) s

def timeRead (p : Port) (tag : Byte) (s : State) : State := request .timeRead p tag actTimeRead s

def execTimeRead (p : Port) (tag : Byte) (s : State) : Host.Outcome State Fault Refusal := .next (timeRead p tag s)

/-- TIME_SET (R20). -/
def actTimeSet (day sec : Nat) (s : State) : Reply :=
  if 65535 < day ∨ 86399 < sec then refuse .range s
  else if s.ref.mode = .full then refuse .state s
  else accept (be2 day ++ be3 sec) (s.setTb { s.tb with pendingLabel := some { day := day, sec := sec } })

def timeSet (p : Port) (tag : Byte) (day sec : Nat) (s : State) : State := request .timeSet p tag (actTimeSet day sec) s

def execTimeSet (p : Port) (tag : Byte) (day sec : Nat) (s : State) : Host.Outcome State Fault Refusal :=
  .next (timeSet p tag day sec s)

/-- A message still waiting for a pulse is discarded (R5, assumption 13). -/
def RefRx.discardWaiting (r : RefRx) : RefRx :=
  { r with message := match r.message with
      | some m => if m.pairing = .waiting then none else some m
      | none => none }

/-- Set another reference mode (R5). -/
def changeMode (m : RefMode) (s : State) : State :=
  let t := s.tb
  let s := s.setRef { s.ref.discardWaiting with mode := m, continuity := none }
  let s := s.setTb { t with
    missed := 0, good := 0, outlier := 0, mismatch := 0, curMark := false, prevMark := false
    pendingLabel := if m = .full then none else t.pendingLabel
    holdover := if m = .off ∧ t.disc = .holdover then 0 else t.holdover }
  if m = .off ∧ t.disc ≠ .unset then setDisc .free s else s

/-- REF_MODE_SET (R5). -/
def actRefModeSet (mode : Nat) (s : State) : Reply :=
  match modeOf mode with
  | none => refuse .range s
  | some m => if m = s.ref.mode then accept [] s else accept (be1 m.code) (changeMode m s)

def refModeSet (p : Port) (tag : Byte) (mode : Nat) (s : State) : State := request .refModeSet p tag (actRefModeSet mode) s

def execRefModeSet (p : Port) (tag : Byte) (mode : Nat) (s : State) : Host.Outcome State Fault Refusal :=
  .next (refModeSet p tag mode s)

/-- TIME_FAULTS_CLEAR (R23). -/
def actTimeFaultsClear (s : State) : Reply :=
  let t := s.tb
  accept (be1 t.missed ++ be1 t.outlier ++ be1 t.mismatch)
    ((s.setTb { t with missed := 0, outlier := 0, mismatch := 0 }).setRef { s.ref with continuity := none })

def timeFaultsClear (p : Port) (tag : Byte) (s : State) : State := request .timeFaultsClear p tag actTimeFaultsClear s

def execTimeFaultsClear (p : Port) (tag : Byte) (s : State) : Host.Outcome State Fault Refusal :=
  .next (timeFaultsClear p tag s)

/-! ### Requests of the Civil Time Unit and its tables (R32, R35, R38, R40, R42, R43) -/

/-- The instant of OFFSET_SET: NEXT has every bit set (R204); none if the second is out of range. -/
def instantOf (day sec : Nat) : Option OffsetInstant :=
  if day = 0xFFFF ∧ sec = 0xFFFFFF then some .next
  else if day ≤ 65535 ∧ sec ≤ 86399 then some (.label { day := day, sec := sec })
  else none

/-- OFFSET_SET (R32). -/
def actOffsetSet (offset : Int) (day sec : Nat) (s : State) : Reply :=
  if offset % 15 ≠ 0 ∨ offset < -720 ∨ 840 < offset then refuse .range s
  else
    match instantOf day sec with
    | none => refuse .range s
    | some i =>
      if i ≠ .next ∧ !s.timeValid then refuse .unset s
      else accept (beS2 offset ++ beInstant i)
        { s with civil := { s.civil with change := some { offset := offset, instant := i } } }

def offsetSet (p : Port) (tag : Byte) (offset : Int) (day sec : Nat) (s : State) : State :=
  request .offsetSet p tag (actOffsetSet offset day sec) s

def execOffsetSet (p : Port) (tag : Byte) (offset : Int) (day sec : Nat) (s : State) : Host.Outcome State Fault Refusal :=
  .next (offsetSet p tag offset day sec s)

/-- CIVIL_CONFIG (R35). -/
def actCivilConfig (cls : Nat) (s : State) : Reply :=
  match sundayClassOf cls with
  | none => refuse .range s
  | some c => accept (be1 c.code) { s with civil := { s.civil with sundayClass := c } }

def civilConfig (p : Port) (tag : Byte) (cls : Nat) (s : State) : State := request .civilConfig p tag (actCivilConfig cls) s

def execCivilConfig (p : Port) (tag : Byte) (cls : Nat) (s : State) : Host.Outcome State Fault Refusal :=
  .next (civilConfig p tag cls s)

/-- DAYCLASS_READ (R40). -/
def actDayclassRead (first : Nat) (s : State) : Reply :=
  if 63 < first then refuse .range s
  else
    let entry (e : DayEntry) : List Byte := beDate e.date ++ be1 e.cls.code
    accept (be1 s.days.revision ++ be1 s.days.entries.length ++ be1 s.civil.sundayClass.code ++
      beMarked 5 (fun c => beDate c.day ++ be1 (s.classOf c.day).code) s.civilNow ++
      beList entry ((s.days.entries.drop first).take 32)) s

def dayclassRead (p : Port) (tag : Byte) (first : Nat) (s : State) : State :=
  request .dayclassRead p tag (actDayclassRead first) s

def execDayclassRead (p : Port) (tag : Byte) (first : Nat) (s : State) : Host.Outcome State Fault Refusal :=
  .next (dayclassRead p tag first s)

/-- Apply one pair to the list (R38): ORDINARY is never stored. The places follow from `dateOrder`. -/
def applyPair (es : List DayEntry) (e : DayEntry) : List DayEntry :=
  let rest := es.filter (fun x => x.date != e.date)
  if e.cls = .ordinary then rest else e :: rest

/-- The list a request's pairs leave, in date order, seen from today, or while UNSET from day 0 (R36, R38). -/
def writtenDays (es pairs : List DayEntry) (s : State) : List DayEntry :=
  dateOrder ((s.civilNow.map (·.day)).getD 0) (pairs.foldl applyPair es)

/-- The pairs with their dates checked (R31) and classes decoded; none if one fails. -/
def pairsOf : List DatePair → Option (List DayEntry)
  | [] => some []
  | d :: ds =>
    match checkDate { year := d.year, month := d.month, day := d.day }, classOfCode d.cls, pairsOf ds with
    | some n, some c, some rest => some ({ date := n, cls := c } :: rest)
    | _, _, _ => none

/-- Some date lies before the current civil date, while time is valid (R38). -/
def pastDates (es : List DayEntry) (s : State) : Bool :=
  match s.civilNow with
  | some c => es.any (fun e => dayBefore e.date c.day)
  | none => false

/-- DAYCLASS_WRITE (R38). -/
def actDayclassWrite (revision replace : Nat) (pairs : List DatePair) (s : State) : Reply :=
  match yesNo replace, pairsOf pairs with
  | some clear, some es =>
    if pairs = [] ∨ 16 < pairs.length ∨ pastDates es s then refuse .range s
    else if !revisionOk revision s.days.revision then refuseStale s.days.revision s
    else
      let list := writtenDays (if clear then [] else s.days.entries) es s
      if 64 < list.length then refuseWith .full (be1 s.days.entries.length) s
      else
        let rev := nextRevision s.days.revision
        accept (be1 rev ++ be1 list.length) { s with days := { entries := list, revision := rev } }
  | _, _ => refuse .range s

def dayclassWrite (p : Port) (tag : Byte) (revision replace : Nat) (pairs : List DatePair) (s : State) : State :=
  request .dayclassWrite p tag (actDayclassWrite revision replace pairs) s

def execDayclassWrite (p : Port) (tag : Byte) (revision replace : Nat) (pairs : List DatePair) (s : State) :
    Host.Outcome State Fault Refusal := .next (dayclassWrite p tag revision replace pairs s)

/-- SUN_READ (R43). -/
def actSunRead (first count : Nat) (s : State) : Reply :=
  if first < 1 ∨ count < 1 ∨ 60 < count ∨ 366 < first + count - 1 then refuse .range s
  else
    accept (be1 s.sun.revision ++
      beList (fun e => beMinute e.rise ++ beMinute e.set) ((s.sun.entries.toList.drop (first - 1)).take count) ++
      beS2 s.civil.offset) s

def sunRead (p : Port) (tag : Byte) (first count : Nat) (s : State) : State :=
  request .sunRead p tag (actSunRead first count) s

def execSunRead (p : Port) (tag : Byte) (first count : Nat) (s : State) : Host.Outcome State Fault Refusal :=
  .next (sunRead p tag first count s)

/-- The entries of a SUN_WRITE; none if a value is neither UNSET nor a minute (R42). -/
def sunEntriesOf : List SunPair → Option (List SunEntry)
  | [] => some []
  | e :: es =>
    match sunMinuteOf e.rise, sunMinuteOf e.set, sunEntriesOf es with
    | some r, some t, some rest => some ({ rise := r, set := t } :: rest)
    | _, _, _ => none

/-- Write entries from a place on. -/
def writeSun : Nat → List SunEntry → Vector SunEntry 366 → Vector SunEntry 366
  | _, [], v => v
  | i, e :: es, v => writeSun (i + 1) es (if h : i < 366 then v.set i e h else v)

/-- SUN_WRITE (R42). -/
def actSunWrite (revision first : Nat) (entries : List SunPair) (s : State) : Reply :=
  match sunEntriesOf entries with
  | none => refuse .range s
  | some es =>
    if first < 1 ∨ entries = [] ∨ 60 < entries.length ∨ 366 < first + entries.length - 1 then refuse .range s
    else if !revisionOk revision s.sun.revision then refuseStale s.sun.revision s
    else
      let rev := nextRevision s.sun.revision
      accept (be1 rev) { s with sun := { entries := writeSun (first - 1) es s.sun.entries, revision := rev } }

def sunWrite (p : Port) (tag : Byte) (revision first : Nat) (entries : List SunPair) (s : State) : State :=
  request .sunWrite p tag (actSunWrite revision first entries) s

def execSunWrite (p : Port) (tag : Byte) (revision first : Nat) (entries : List SunPair) (s : State) :
    Host.Outcome State Fault Refusal := .next (sunWrite p tag revision first entries s)

end Sys2Proof.Machine
end

