-- ==== Sys2Proof/Machine/Supply.lean ====
section
/-! DEFINITION. Chapter 10: the supply monitor, cold start and the warm reset, with the reactions of the blocks
gathered in the tables of R181, R185 and R187. -/

namespace Sys2Proof.Machine

/-- COLD_START (R184): every piece of state at its cold value under the lines as they stand; the commands
that wait go on waiting. -/
def execColdStart (s : State) : Host.Outcome State Fault Refusal := .next (coldState s.lines s.pending)

/-! ### The supply state (R180, R181) -/

/-- MAINS_OK_CHANGE (R180): the debounce timer starts toward the other state or returns to idle. -/
def mainsOkChange (high : Bool) (s : State) : State :=
  if s.lines.mainsOk = high then s
  else
    let s := s.setLines { s.lines with mainsOk := high }
    { s with supply := { s.supply with
        debounce := if high = (s.supply.state == .battery) then some s.now else none } }

def execMainsOkChange (high : Bool) (s : State) : Host.Outcome State Fault Refusal := .next (mainsOkChange high s)

/-- The debounce timer has run for a time in a supply state. -/
def debounced (st : SupplyState) (ms : Nat) (s : State) : Bool :=
  s.supply.state == st && reached (s.supply.debounce.map (· + ms)) s.now

/-- The time since the entry into the present supply state, in seconds, saturated (R181, R182). -/
def supplySeconds (s : State) : BitVec 16 := BitVec.ofNat 16 (sat 65535 ((s.now - s.supply.since) / 1000))

/-- BATTERY_LOW (R182): once in a BATTERY period. -/
def reportLow (s : State) : State :=
  if s.supply.state = .battery ∧ s.supply.low ∧ !s.supply.reported then
    post .batteryLow 0 (supplySeconds s) { s with supply := { s.supply with reported := true } }
  else s

/-- The blocks at the loss of mains (R181; their order: assumption 24). -/
def blocksLost (s : State) : State :=
  let s := dialsSupplyLost s
  let s := allBells.foldl (fun s b => guardHalt b s) s
  let s := swingsSupplyLost s
  lightsSupplyLost (strikeSupplyLost s)

/-- MAINS_LOST (R180, R181): 200 ms of unbroken low. A BATTERY_LOW of a mark already set stands before the blocks'
reactions, the model's choice (R182, assumption 24). -/
def mainsLost (s : State) : State :=
  if !debounced .mains 200 s then s
  else
    let d := supplySeconds s
    let s := { s with supply := { s.supply with state := .battery, debounce := none, since := s.now, reported := false } }
    let s := reportLow (post .mainsLost 0 d s)
    if s.isHeld then s else blocksLost s

def execMainsLost (s : State) : Host.Outcome State Fault Refusal := .next (mainsLost s)

/-- The blocks at the return of mains (R56, R80, R174; their order: assumption 24). -/
def blocksRestored (s : State) : State :=
  let s := dialsFull s
  deriveLights (allBells.foldl (fun s b => guardResume b s) s)

/-- MAINS_RESTORED (R180, R181): 5,000 ms of unbroken high. -/
def mainsRestored (s : State) : State :=
  if !debounced .battery 5000 s then s
  else
    let d := supplySeconds s
    let s := { s with supply := { s.supply with state := .mains, debounce := none, since := s.now } }
    let s := post .mainsRestored 0 d s
    if s.isHeld then s else blocksRestored s

def execMainsRestored (s : State) : Host.Outcome State Fault Refusal := .next (mainsRestored s)

/-- BATT_LOW_CHANGE (R182): the settling starts, or ends unseen. -/
def battLowChange (asserted : Bool) (s : State) : State :=
  if s.lines.battLow = asserted then s
  else
    let s := s.setLines { s.lines with battLow := asserted }
    { s with supply := { s.supply with lowSince := if asserted = s.supply.low then none else some s.now } }

def execBattLowChange (asserted : Bool) (s : State) : Host.Outcome State Fault Refusal := .next (battLowChange asserted s)

/-- BATT_LOW has held its level for 1,000 ms. -/
def lowSettled (s : State) : Bool := reached (s.supply.lowSince.map (· + 1000)) s.now

/-- BATTERY_LOW_SETTLED (R182): the mark follows the line. -/
def batteryLowSettled (s : State) : State :=
  if !lowSettled s then s
  else reportLow { s with supply := { s.supply with low := s.lines.battLow, lowSince := none } }

def execBatteryLowSettled (s : State) : Host.Outcome State Fault Refusal := .next (batteryLowSettled s)

/-! ### Warm reset (R185 to R188) -/

/-- RESET_N_CHANGE (R185, R187): the 10 ms timing of a low outside a warm reset, of a high within one. -/
def resetNChange (high : Bool) (s : State) : State :=
  if s.lines.resetN = high then s
  else
    let s := s.setLines { s.lines with resetN := high }
    { s with warm := { s.warm with since := if high = s.isHeld then some s.now else none } }

def execResetNChange (high : Bool) (s : State) : Host.Outcome State Fault Refusal := .next (resetNChange high s)

/-- RESET_N has held its level for 10 ms. -/
def resetTimed (s : State) : Bool := reached (s.warm.since.map (· + 10)) s.now

/-- The entry of a warm reset (R26, R57, R85, R94, R103, R116, R145, R175, R185). -/
def enterWarmReset (s : State) : State :=
  let s := s.setRef { s.ref.expire with rx := [] }
  let s := { s with
    dials := mapV Dial.warmReset s.dials
    bells := mapV Bell.warmReset s.bells
    swings := mapV Swing.warmReset s.swings
    sessions := mapV Session.warmReset s.sessions
    strike := s.strike.warmReset
    lights := mapV (Channel.warmReset s.now) s.lights
    ports := Vector.ofFn coldPort
    warm := { held := some s.now } }
  abortEdits s

/-- WARM_RESET_ENTRY (R185): RESET_N low for 10 ms. -/
def warmResetEntry (s : State) : State := if s.isHeld || !resetTimed s then s else enterWarmReset s

def execWarmResetEntry (s : State) : Host.Outcome State Fault Refusal := .next (warmResetEntry s)

/-- Step 4 of R187: the deadlines that fell due in the held period, the override expiries and then the restrike
expiries (their order: assumption 39). Every other deadline of a held block is dropped or set anew by then. -/
def heldDeadlines (s : State) : State := allChannels.foldl (fun s c => restrikeExpiry c s) (overrideTests s)

/-- The completion of a warm reset entered at an instant, in the four steps of R187. In step 3 the guards come first,
then the swings, the dials and the lights, each block's members ascending, the model's choice (assumption 39). -/
def completeWarmReset (entry : Instant) (s : State) : State :=
  let list := s.warm.notices
  let lost := s.warm.lost
  let s := { s with warm := {} }
  let s := post .warmResetDone 0 (BitVec.ofNat 16 (sat 65535 (s.now - entry))) s
  let s := list.foldl (fun s n => postNotice n s) s
  let s := if lost then { s with ports := mapV (fun p : LinkPort => { p with lost := true }) s.ports } else s
  let s := allBells.foldl (fun s b => bellCompletion b s) s
  let s := allBells.foldl (fun s b => swingCompletion b s) s
  let s := { s with cal := { s.cal with heldUntil := s.civilNow.map Label.dayMinute } }
  heldDeadlines (lightsCompletion (dialsFull s))

/-- WARM_RESET_COMPLETION (R187): RESET_N high for 10 ms. -/
def warmResetCompletion (s : State) : State :=
  match s.warm.held with
  | none => s
  | some entry => if resetTimed s then completeWarmReset entry s else s

def execWarmResetCompletion (s : State) : Host.Outcome State Fault Refusal := .next (warmResetCompletion s)

end Sys2Proof.Machine
end

