-- ==== Sys2Proof/Machine/Link.lean ====
section
/-! DEFINITION. Chapter 11: the link ports: frames and their taking, PART_STATUS, notices and port reset. -/

namespace Sys2Proof.Machine

/-! ### Requests of the ports (R196, R197, R201, R202) -/

/-- The time remaining in a running holdoff, or 0. -/
def LinkPort.holdoffLeft (r : LinkPort) (now : Instant) : Nat := r.holdoffEnd.getD 0 - now

/-- The routing and attention settings of a port, as 12.3 lays them out for NOTICE_ROUTE_SET; in PART_STATUS and
PORT_RESET this layout is the model's choice (R196, R197, assumption 18). -/
def LinkPort.settings (r : LinkPort) : List Byte :=
  be1 r.routing.toNat ++ beFlag r.attention ++ be2 (r.holdoffLength * 10)

/-- The snapshot of PART_STATUS for a requesting port (R196). An idle debounce timer is sent as 0, with 0 as the time
it has run, the model's choice (assumption 18). -/
def partBytes (p : Port) (s : State) : List Byte :=
  let r := s.port p
  let queue (q : LinkPort) : List Byte := be1 q.queue.length ++ beFlag q.lost
  be2 Config.identity ++ beTime s.now ++ be1 s.tb.disc.code ++ beFlag s.timeValid ++
  be1 s.supply.state.code ++ beFlag s.supply.debounce.isSome ++
  beSpan ((s.supply.debounce.map (fun t => s.now - t)).getD 0) ++ beFlag s.supply.low ++ beFlag s.supply.reported ++
  be1 (portCode p) ++ queue r ++ r.settings ++ beSpan (r.holdoffLeft s.now) ++ beFlag (s.attn p) ++
  be1 r.owed.length ++ be2 r.discard ++ queue (s.port .l1) ++ queue (s.port .l2) ++ queue (s.port .l3)

/-- PART_STATUS (R196). -/
def actPartStatus (p : Port) (s : State) : Reply := accept (partBytes p s) s

def partStatus (p : Port) (tag : Byte) (s : State) : State := request .partStatus p tag (actPartStatus p) s

def execPartStatus (p : Port) (tag : Byte) (s : State) : Host.Outcome State Fault Refusal := .next (partStatus p tag s)

/-- A port after a fetch: up to eight notices gone, the lost flag clear, the holdoff started (R201, R203). -/
def LinkPort.fetched (r : LinkPort) (now : Instant) : LinkPort :=
  { r with
    queue := r.queue.drop 8, lost := false
    holdoffEnd := if r.holdoffLength = 0 then r.holdoffEnd else some (now + r.holdoffLength * 10) }

/-- NOTICE_FETCH (R201). -/
def actNoticeFetch (p : Port) (s : State) : Reply :=
  let r := s.port p
  let out := r.queue.take 8
  accept (beFlag r.lost ++ be1 out.length ++ be1 (r.queue.drop 8).length ++ out.flatMap Notice.bytes)
    (s.setPort p (r.fetched s.now))

def noticeFetch (p : Port) (tag : Byte) (s : State) : State := request .noticeFetch p tag (actNoticeFetch p) s

def execNoticeFetch (p : Port) (tag : Byte) (s : State) : Host.Outcome State Fault Refusal := .next (noticeFetch p tag s)

/-- NOTICE_ROUTE_SET (R202). -/
def actNoticeRouteSet (p : Port) (routing enable holdoff : Nat) (s : State) : Reply :=
  match yesNo enable with
  | none => refuse .range s
  | some e =>
    let r := { s.port p with
      routing := BitVec.ofNat 8 routing, attention := e, holdoffLength := clamp 0 255 holdoff }
    accept r.settings (s.setPort p r)

def noticeRouteSet (p : Port) (tag : Byte) (routing enable holdoff : Nat) (s : State) : State :=
  request .noticeRouteSet p tag (actNoticeRouteSet p routing enable holdoff) s

def execNoticeRouteSet (p : Port) (tag : Byte) (routing enable holdoff : Nat) (s : State) :
    Host.Outcome State Fault Refusal := .next (noticeRouteSet p tag routing enable holdoff s)

/-- A port after its reset: the queue empty and the settings at the role defaults; what it is receiving,
sending and owing stands (R197). -/
def LinkPort.reset (i : Fin 3) (r : LinkPort) : LinkPort :=
  { coldPort i with rx := r.rx, lastByte := r.lastByte, sending := r.sending, between := r.between, owed := r.owed }

/-- PORT_RESET (R197): from L1 the tunes in EDITING become EMPTY before the response. -/
def actPortReset (p : Port) (s : State) : Reply :=
  let s := s.setPort p (LinkPort.reset (portIndex p) (s.port p))
  let s := if p = .l1 then abortEdits s else s
  accept (s.port p).settings s

def portReset (p : Port) (tag : Byte) (s : State) : State := request .portReset p tag (actPortReset p) s

def execPortReset (p : Port) (tag : Byte) (s : State) : Host.Outcome State Fault Refusal := .next (portReset p tag s)

/-! ### Frames (R189 to R192) -/

/-- Run a request that a frame carries; an event is carried by none. -/
def runRequest (i : Instr) (s : State) : State :=
  match i with
  | .partStatus p tag => partStatus p tag s
  | .noticeFetch p tag => noticeFetch p tag s
  | .noticeRouteSet p tag routing enable holdoff => noticeRouteSet p tag routing enable holdoff s
  | .portReset p tag => portReset p tag s
  | .partConfig p tag share => partConfig p tag share s
  | .timeRead p tag => timeRead p tag s
  | .timeSet p tag day sec => timeSet p tag day sec s
  | .refModeSet p tag mode => refModeSet p tag mode s
  | .timeFaultsClear p tag => timeFaultsClear p tag s
  | .offsetSet p tag offset day sec => offsetSet p tag offset day sec s
  | .civilConfig p tag cls => civilConfig p tag cls s
  | .dayclassRead p tag first => dayclassRead p tag first s
  | .dayclassWrite p tag revision replace pairs => dayclassWrite p tag revision replace pairs s
  | .sunRead p tag first count => sunRead p tag first count s
  | .sunWrite p tag revision first entries => sunWrite p tag revision first entries s
  | .dialRead p tag dial => dialRead p tag dial s
  | .dialSet p tag dial position polarity => dialSet p tag dial position polarity s
  | .dialStop p tag dial => dialStop p tag dial s
  | .dialStart p tag dial => dialStart p tag dial s
  | .dialConfig p tag args => dialConfig p tag args s
  | .bellRead p tag bell => bellRead p tag bell s
  | .bellConfig p tag args => bellConfig p tag args s
  | .claim p tag kind mask => claim p tag kind mask s
  | .release p tag mask => release p tag mask s
  | .bellFaultClear p tag bell => bellFaultClear p tag bell s
  | .ringRead p tag session => ringRead p tag session s
  | .ringStart p tag mask stagger duration => ringStart p tag mask stagger duration s
  | .ringCancel p tag session => ringCancel p tag session s
  | .tuneRead p tag tune first count => tuneRead p tag tune first count s
  | .tuneOpen p tag tune length revision => tuneOpen p tag tune length revision s
  | .tuneWrite p tag tune first notes => tuneWrite p tag tune first notes s
  | .tuneClose p tag tune => tuneClose p tag tune s
  | .tuneAbort p tag tune => tuneAbort p tag tune s
  | .tuneDelete p tag tune revision => tuneDelete p tag tune revision s
  | .planRead p tag plan => planRead p tag plan s
  | .planWrite p tag args => planWrite p tag args s
  | .strikeStatus p tag first => strikeStatus p tag first s
  | .strike p tag bell count interval => strike p tag bell count interval s
  | .tollStart p tag bell interval count minutes => tollStart p tag bell interval count minutes s
  | .tollStop p tag bell => tollStop p tag bell s
  | .silenceSet p tag value => silenceSet p tag value s
  | .eventRead p tag event => eventRead p tag event s
  | .eventWrite p tag args => eventWrite p tag args s
  | .eventDelete p tag event revision => eventDelete p tag event revision s
  | .lightRead p tag channel => lightRead p tag channel s
  | .lightConfig p tag args => lightConfig p tag args s
  | .lightOverride p tag channel mode untilMinute => lightOverride p tag channel mode untilMinute s
  | .lightFaultClear p tag channel => lightFaultClear p tag channel s
  | .coldStart | .localSecondBoundary | .missedLimit | .holdoverLimit | .offsetChangeApplied | .refPulse
  | .refMessageReceived _ | .refMessageGapTimeout | .refMessageExpired | .heldQuarterExpiry | .dialImpulseStart _
  | .dialImpulseEnd _ | .dialConfChange _ _ | .guardContactChange _ _ _ | .guardContactSettled _ _
  | .guardTravelTimeout _ | .sensorPulse _ | .driftSettled _ | .stopSettled _ | .startTimeout _ | .swingLost _
  | .sessionStartSlot _ | .sessionEndTime _ | .sessionStopSlot _ | .strikeEntryDue | .hammerRecoveryEnd _
  | .hammerPulseEnd _ | .tollEndTime _ | .tuneEditTimeout _ | .overrideExpiry _ | .warmupEnd _ | .restrikeExpiry _
  | .senseWatchStart _ | .lampSenseChange _ _ | .lampFailed _ | .mainsOkChange _ | .mainsLost | .mainsRestored
  | .battLowChange _ | .batteryLowSettled | .resetNChange _ | .warmResetEntry | .warmResetCompletion | .frameComplete _ _
  | .frameGapTimeout _ | .responseSent _ | .holdoffEnd _ | .frameLengthRejected _ _ => s

/-- A frame with a good check is handed over: BUSY is owed while the port responds; otherwise the checks of
R192 are made in their order and the request is run. -/
def handleFrame (p : Port) (tag code : Byte) (payload : List Byte) (s : State) : State :=
  if s.isHeld then discardFrame p s
  else if (s.port p).responding then oweBusy p tag s
  else
    match Req.ofCode code with
    | none => respond p tag .malformed [] s
    | some r =>
      if !r.permits p then respond p tag .denied [] s
      else
        match r.decode p tag payload with
        | none => respond p tag .malformed [] s
        | some i => runRequest i s

/-- A complete frame, from its start byte to its second check byte: the check, then the handing over (R189). -/
def completeFrame (p : Port) (bs : List Byte) (s : State) : State :=
  let n := rd1 bs 1
  let body := (bs.drop 1).take (n + 1)
  if (crc16 body).toNat = rd2 bs (n + 2) then
    handleFrame p (bs.getD 2 0) (bs.getD 3 0) ((bs.drop 4).take (n - 2)) s
  else discardFrame p s

def State.setRx (s : State) (p : Port) (rx : List Byte) : State :=
  s.setPort p { s.port p with rx := rx, lastByte := s.now }

/-- A length byte out of range (R189). -/
def badLength (n : Nat) : Bool := decide (n < 2 ∨ 250 < n)

/-- More than 10 ms have passed since the last byte of a frame in progress. -/
def frameGap (p : Port) (s : State) : Bool := (s.port p).rx != [] && decide ((s.port p).lastByte + 10 < s.now)

/-- FRAME_GAP_TIMEOUT (R189). -/
def frameGapTimeout (p : Port) (s : State) : State :=
  if frameGap p s then s.setPort p { (s.port p).discarded with rx := [] } else s

def execFrameGapTimeout (p : Port) (s : State) : Host.Outcome State Fault Refusal := .next (frameGapTimeout p s)

/-- One byte at a port's receiver: a frame with a gap is discarded first, and the byte is one of the hunt; then
hunting, the length, the rest of the frame (R189). -/
def portByte (p : Port) (b : Byte) (s : State) : State :=
  let s := frameGapTimeout p s
  let rx := (s.port p).rx
  if rx = [] then (if b = 0xA5 then s.setRx p [b] else s)
  else if rx.length = 1 then
    if badLength b.toNat then discardFrame p (s.setRx p []) else s.setRx p (rx ++ [b])
  else if rx.length + 1 < rd1 rx 1 + 4 then s.setRx p (rx ++ [b])
  else completeFrame p (rx ++ [b]) (s.setRx p [])

/-- FRAME_COMPLETE (R189): the bytes that arrive at a port. -/
def frameComplete (p : Port) (bytes : List Byte) (s : State) : State := bytes.foldl (fun s b => portByte p b s) s

def execFrameComplete (p : Port) (bytes : List Byte) (s : State) : Host.Outcome State Fault Refusal :=
  .next (frameComplete p bytes s)

/-- FRAME_LENGTH_REJECTED (R189): the byte after a start byte is no length. -/
def frameLengthRejected (p : Port) (length : Byte) (s : State) : State :=
  let s := frameGapTimeout p s
  if badLength length.toNat && decide ((s.port p).rx.length ≤ 1) then discardFrame p (s.setRx p []) else s

def execFrameLengthRejected (p : Port) (length : Byte) (s : State) : Host.Outcome State Fault Refusal :=
  .next (frameLengthRejected p length s)

/-- RESPONSE_SENT (R191): the next owed BUSY goes out, TXEN released until its first byte (R190), or the port becomes
IDLE. -/
def responseSent (p : Port) (s : State) : State :=
  let r := s.port p
  match r.sending, r.owed with
  | none, _ => s
  | some _, [] => s.setPort p { r with sending := none, between := false }
  | some _, tag :: rest => s.setPort p { r with
      sending := some (frame tag Status.busy.code []), between := true, owed := rest }

def execResponseSent (p : Port) (s : State) : Host.Outcome State Fault Refusal := .next (responseSent p s)

/-- HOLDOFF_END (R203). -/
def holdoffOver (p : Port) (s : State) : State :=
  let r := s.port p
  if reached r.holdoffEnd s.now then s.setPort p { r with holdoffEnd := none } else s

def execHoldoffEnd (p : Port) (s : State) : Host.Outcome State Fault Refusal := .next (holdoffOver p s)

end Sys2Proof.Machine
end

