-- ==== Sys2Proof/Machine/Clock.lean ====
section
/-! DEFINITION. What happens when no command waits: the events that have fallen due are queued, or one count of
the tower oscillator passes (assumptions 1 and 3). The manual's table has no row for a count. -/

namespace Sys2Proof.Machine

/-- The event, if its condition stands. -/
def when (c : Bool) (i : Instr) : List Instr := if c then [i] else []

/-- The reference receiver's deadlines. -/
def dueReceiver (s : State) : List Instr :=
  when (messageGap s) .refMessageGapTimeout ++ when (messageExpired s) .refMessageExpired

/-- The deadlines of the supply monitor, the warm reset and the ports, which run while a reset is held. -/
def dueAlways (s : State) : List Instr :=
  when (debounced .mains 200 s) .mainsLost ++ when (debounced .battery 5000 s) .mainsRestored ++
  when (lowSettled s) .batteryLowSettled ++
  when (!s.isHeld && resetTimed s) .warmResetEntry ++ when (s.isHeld && resetTimed s) .warmResetCompletion ++
  [Port.l1, .l2, .l3].flatMap (fun p =>
    when (frameGap p s) (.frameGapTimeout p) ++ when (reached (s.port p).holdoffEnd s.now) (.holdoffEnd p))

/-- An impulse's width has elapsed. -/
def impulseOver (d : Fin 4) (s : State) : Bool :=
  match (s.dial d).flight with
  | some i => decide (i.start + i.width ≤ s.now)
  | none => false

/-- The events due of a dial. -/
def dueDial (s : State) (d : Fin 4) : List Instr :=
  when (impulseOver d s) (.dialImpulseEnd d) ++ when (canStart d s) (.dialImpulseStart d)

/-- The events due of a bell's guard and swing, and of its hammer. -/
def dueBell (s : State) (b : Fin 16) : List Instr :=
  let r := s.bell b
  let w := s.swing b
  when (settleReached r.guard.atEng s.now) (.guardContactSettled b .engaged) ++
  when (settleReached r.guard.atDis s.now) (.guardContactSettled b .disengaged) ++
  when (r.guard.motion == .running && reached r.guard.deadline s.now) (.guardTravelTimeout b) ++
  when (w.state == .drifting && reached w.settleDeadline s.now) (.driftSettled b) ++
  when (w.state == .stopping && reached w.settleDeadline s.now) (.stopSettled b) ++
  when (w.state == .starting && reached (w.motorOn.map (· + 60000)) s.now) (.startTimeout b) ++
  when (w.state == .swinging && reached (lossDeadline b s) s.now) (.swingLost b)

/-- The events due of a bell's hammer. -/
def dueHammer (s : State) (b : Fin 16) : List Instr :=
  when (reached (s.bell b).pulseEnd s.now) (.hammerPulseEnd b) ++ when (recoveryOver b s) (.hammerRecoveryEnd b)

/-- The events due of a session. -/
def dueSession (s : State) (n : Fin 4) : List Instr :=
  let r := s.session n
  when (startable n s).isSome (.sessionStartSlot n) ++
  when (r.running && decide (r.endTime ≤ s.now)) (.sessionEndTime n) ++
  when (r.phase == .stoppingBells && reached r.nextStop s.now) (.sessionStopSlot n)

/-- The events due of the Strike Unit. -/
def dueStrike (s : State) : List Instr :=
  when (match s.strike.held with
    | some h => decide (h.expiry ≤ s.now)
    | none => false) .heldQuarterExpiry ++
  allBells.flatMap (dueHammer s) ++
  allFour.flatMap (fun n => when (reached ((s.toll n).bind (·.endTime)) s.now) (.tollEndTime n)) ++
  when (dueEntry s).isSome .strikeEntryDue

/-- An edit has run out (R115). -/
def editOver (t : Fin 24) (s : State) : Bool :=
  match (s.tune t).content with
  | .editing _ last => decide (last + 300000 ≤ s.now)
  | _ => false

/-- The events due of a floodlight channel. -/
def dueLight (s : State) (c : Fin 8) : List Instr :=
  let r := s.light c
  when (overrideReached c s) (.overrideExpiry c) ++
  when (r.state == .warming && reached r.warmEnd s.now) (.warmupEnd c) ++
  when (r.state == .cooling && reached r.restrikeExpiry s.now) (.restrikeExpiry c) ++
  when (watchReady c s) (.senseWatchStart c) ++ when (lampAbsent c s) (.lampFailed c)

/-- The events due of the blocks a warm reset holds. -/
def dueBlocks (s : State) : List Instr :=
  allFour.flatMap (dueDial s) ++ allBells.flatMap (dueBell s) ++ allFour.flatMap (dueSession s) ++
  dueStrike s ++ allTunes.flatMap (fun t => when (editOver t s) (.tuneEditTimeout t)) ++ allChannels.flatMap (dueLight s)

/-- The commands for every event whose condition stands now (assumption 3). -/
def due (s : State) : List Instr :=
  dueReceiver s ++ dueAlways s ++ (if s.isHeld then [] else dueBlocks s)

/-- Millisecond k of a second of length L begins at count k L / 1,000, rounded down (R2). -/
def msStart (k len : Nat) : Nat := k * len / 1000

/-- One count within the second: run time rises when a millisecond begins (R2). -/
def TimeBase.tick (t : TimeBase) : TimeBase :=
  let begins := decide (t.ms < 999 ∧ msStart (t.ms + 1) t.len ≤ t.count + 1)
  { t with
    count := t.count + 1
    ms := if begins then t.ms + 1 else t.ms
    uptime := if begins then t.uptime + 1 else t.uptime }

/-- The first byte of a response that follows another begins: TXEN is asserted again (R190, assumption 34). -/
def LinkPort.proceeds (r : LinkPort) : LinkPort := { r with between := false }

/-- One oscillator count: within the second, or onto its boundary, whose command is queued (R1). -/
def tick (s : State) : State :=
  if s.tb.count + 1 < s.tb.len then { s with tb := s.tb.tick, ports := mapV LinkPort.proceeds s.ports }
  else { s with pending := [.localSecondBoundary] }

/-- A step with no command waiting. -/
def idle (s : State) : State :=
  match due s with
  | [] => tick s
  | cs => { s with pending := cs }

end Sys2Proof.Machine
end

