-- ==== Sys2Proof/Machine/Dispatch.lean ====
section
/-! DEFINITION. One arm per command. -/

namespace Sys2Proof.Machine

def exec (i : Instr) (s : State) : Host.Outcome State Fault Refusal :=
  match i with
  | .coldStart => Sys2Proof.Machine.execColdStart s
  | .localSecondBoundary => Sys2Proof.Machine.execLocalSecondBoundary s
  | .missedLimit => Sys2Proof.Machine.execMissedLimit s
  | .holdoverLimit => Sys2Proof.Machine.execHoldoverLimit s
  | .offsetChangeApplied => Sys2Proof.Machine.execOffsetChangeApplied s
  | .refPulse => Sys2Proof.Machine.execRefPulse s
  | .refMessageReceived bytes => Sys2Proof.Machine.execRefMessageReceived bytes s
  | .refMessageGapTimeout => Sys2Proof.Machine.execRefMessageGapTimeout s
  | .refMessageExpired => Sys2Proof.Machine.execRefMessageExpired s
  | .heldQuarterExpiry => Sys2Proof.Machine.execHeldQuarterExpiry s
  | .dialImpulseStart d => Sys2Proof.Machine.execDialImpulseStart d s
  | .dialImpulseEnd d => Sys2Proof.Machine.execDialImpulseEnd d s
  | .dialConfChange d closed => Sys2Proof.Machine.execDialConfChange d closed s
  | .guardContactChange b c closed => Sys2Proof.Machine.execGuardContactChange b c closed s
  | .guardContactSettled b c => Sys2Proof.Machine.execGuardContactSettled b c s
  | .guardTravelTimeout b => Sys2Proof.Machine.execGuardTravelTimeout b s
  | .sensorPulse b => Sys2Proof.Machine.execSensorPulse b s
  | .driftSettled b => Sys2Proof.Machine.execDriftSettled b s
  | .stopSettled b => Sys2Proof.Machine.execStopSettled b s
  | .startTimeout b => Sys2Proof.Machine.execStartTimeout b s
  | .swingLost b => Sys2Proof.Machine.execSwingLost b s
  | .sessionStartSlot n => Sys2Proof.Machine.execSessionStartSlot n s
  | .sessionEndTime n => Sys2Proof.Machine.execSessionEndTime n s
  | .sessionStopSlot n => Sys2Proof.Machine.execSessionStopSlot n s
  | .strikeEntryDue => Sys2Proof.Machine.execStrikeEntryDue s
  | .hammerRecoveryEnd b => Sys2Proof.Machine.execHammerRecoveryEnd b s
  | .hammerPulseEnd b => Sys2Proof.Machine.execHammerPulseEnd b s
  | .tollEndTime t => Sys2Proof.Machine.execTollEndTime t s
  | .tuneEditTimeout t => Sys2Proof.Machine.execTuneEditTimeout t s
  | .overrideExpiry c => Sys2Proof.Machine.execOverrideExpiry c s
  | .warmupEnd c => Sys2Proof.Machine.execWarmupEnd c s
  | .restrikeExpiry c => Sys2Proof.Machine.execRestrikeExpiry c s
  | .senseWatchStart c => Sys2Proof.Machine.execSenseWatchStart c s
  | .lampSenseChange c current => Sys2Proof.Machine.execLampSenseChange c current s
  | .lampFailed c => Sys2Proof.Machine.execLampFailed c s
  | .mainsOkChange high => Sys2Proof.Machine.execMainsOkChange high s
  | .mainsLost => Sys2Proof.Machine.execMainsLost s
  | .mainsRestored => Sys2Proof.Machine.execMainsRestored s
  | .battLowChange asserted => Sys2Proof.Machine.execBattLowChange asserted s
  | .batteryLowSettled => Sys2Proof.Machine.execBatteryLowSettled s
  | .resetNChange high => Sys2Proof.Machine.execResetNChange high s
  | .warmResetEntry => Sys2Proof.Machine.execWarmResetEntry s
  | .warmResetCompletion => Sys2Proof.Machine.execWarmResetCompletion s
  | .frameComplete p bytes => Sys2Proof.Machine.execFrameComplete p bytes s
  | .frameGapTimeout p => Sys2Proof.Machine.execFrameGapTimeout p s
  | .responseSent p => Sys2Proof.Machine.execResponseSent p s
  | .holdoffEnd p => Sys2Proof.Machine.execHoldoffEnd p s
  | .partStatus p tag => Sys2Proof.Machine.execPartStatus p tag s
  | .noticeFetch p tag => Sys2Proof.Machine.execNoticeFetch p tag s
  | .noticeRouteSet p tag routing enable holdoff => Sys2Proof.Machine.execNoticeRouteSet p tag routing enable holdoff s
  | .portReset p tag => Sys2Proof.Machine.execPortReset p tag s
  | .partConfig p tag share => Sys2Proof.Machine.execPartConfig p tag share s
  | .timeRead p tag => Sys2Proof.Machine.execTimeRead p tag s
  | .timeSet p tag day sec => Sys2Proof.Machine.execTimeSet p tag day sec s
  | .refModeSet p tag mode => Sys2Proof.Machine.execRefModeSet p tag mode s
  | .timeFaultsClear p tag => Sys2Proof.Machine.execTimeFaultsClear p tag s
  | .offsetSet p tag offset day sec => Sys2Proof.Machine.execOffsetSet p tag offset day sec s
  | .civilConfig p tag cls => Sys2Proof.Machine.execCivilConfig p tag cls s
  | .dayclassRead p tag first => Sys2Proof.Machine.execDayclassRead p tag first s
  | .dayclassWrite p tag revision replace pairs => Sys2Proof.Machine.execDayclassWrite p tag revision replace pairs s
  | .sunRead p tag first count => Sys2Proof.Machine.execSunRead p tag first count s
  | .sunWrite p tag revision first entries => Sys2Proof.Machine.execSunWrite p tag revision first entries s
  | .dialRead p tag dial => Sys2Proof.Machine.execDialRead p tag dial s
  | .dialSet p tag dial position polarity => Sys2Proof.Machine.execDialSet p tag dial position polarity s
  | .dialStop p tag dial => Sys2Proof.Machine.execDialStop p tag dial s
  | .dialStart p tag dial => Sys2Proof.Machine.execDialStart p tag dial s
  | .dialConfig p tag args => Sys2Proof.Machine.execDialConfig p tag args s
  | .bellRead p tag bell => Sys2Proof.Machine.execBellRead p tag bell s
  | .bellConfig p tag args => Sys2Proof.Machine.execBellConfig p tag args s
  | .claim p tag kind mask => Sys2Proof.Machine.execClaim p tag kind mask s
  | .release p tag mask => Sys2Proof.Machine.execRelease p tag mask s
  | .bellFaultClear p tag bell => Sys2Proof.Machine.execBellFaultClear p tag bell s
  | .ringRead p tag session => Sys2Proof.Machine.execRingRead p tag session s
  | .ringStart p tag mask stagger duration => Sys2Proof.Machine.execRingStart p tag mask stagger duration s
  | .ringCancel p tag session => Sys2Proof.Machine.execRingCancel p tag session s
  | .tuneRead p tag tune first count => Sys2Proof.Machine.execTuneRead p tag tune first count s
  | .tuneOpen p tag tune length revision => Sys2Proof.Machine.execTuneOpen p tag tune length revision s
  | .tuneWrite p tag tune first notes => Sys2Proof.Machine.execTuneWrite p tag tune first notes s
  | .tuneClose p tag tune => Sys2Proof.Machine.execTuneClose p tag tune s
  | .tuneAbort p tag tune => Sys2Proof.Machine.execTuneAbort p tag tune s
  | .tuneDelete p tag tune revision => Sys2Proof.Machine.execTuneDelete p tag tune revision s
  | .planRead p tag plan => Sys2Proof.Machine.execPlanRead p tag plan s
  | .planWrite p tag args => Sys2Proof.Machine.execPlanWrite p tag args s
  | .strikeStatus p tag first => Sys2Proof.Machine.execStrikeStatus p tag first s
  | .strike p tag bell count interval => Sys2Proof.Machine.execStrike p tag bell count interval s
  | .tollStart p tag bell interval count minutes => Sys2Proof.Machine.execTollStart p tag bell interval count minutes s
  | .tollStop p tag bell => Sys2Proof.Machine.execTollStop p tag bell s
  | .silenceSet p tag value => Sys2Proof.Machine.execSilenceSet p tag value s
  | .eventRead p tag event => Sys2Proof.Machine.execEventRead p tag event s
  | .eventWrite p tag args => Sys2Proof.Machine.execEventWrite p tag args s
  | .eventDelete p tag event revision => Sys2Proof.Machine.execEventDelete p tag event revision s
  | .lightRead p tag channel => Sys2Proof.Machine.execLightRead p tag channel s
  | .lightConfig p tag args => Sys2Proof.Machine.execLightConfig p tag args s
  | .lightOverride p tag channel mode untilMinute => Sys2Proof.Machine.execLightOverride p tag channel mode untilMinute s
  | .lightFaultClear p tag channel => Sys2Proof.Machine.execLightFaultClear p tag channel s
  | .frameLengthRejected p length => Sys2Proof.Machine.execFrameLengthRejected p length s

end Sys2Proof.Machine
end

