-- ==== Sys2Proof/Safety.lean ====
section
/-! DEFINITION. The terms of the claims: a request that reaches its owner, a response that goes out, a taken
pulse, and the invariants of the machine. -/

namespace Sys2Proof.Machine

/-! ### Requests -/

/-- A port is IDLE and no warm reset is held: the next frame is taken as a request (R186, R191). -/
abbrev PortFree (p : Port) (s : State) : Prop :=
  s.warm.held = none ∧ (s.port p).sending = none ∧ (s.port p).owed = []

/-- A request is taken at a port and its role permits it: it reaches its owner (R191, R192). -/
abbrev Reaches (r : Req) (p : Port) (s : State) : Prop := PortFree p s ∧ r.permits p = true

/-- A state in which the response with a status and a payload has begun to go out at a port (R190): only what
that port sends differs. -/
def answered (p : Port) (tag : Byte) (st : Status) (pl : List Byte) (s : State) : State :=
  s.setPort p { s.port p with sending := some (frame tag st.code (fitPayload pl)) }

/-! ### Seconds and pulses -/

/-- The second that begins is fixed from the Time Base before by the three steps of R1, with the slew `p` pending. -/
def SecondFixed (p : Int) (before after : TimeBase) : Prop :=
  let acc := (before.residue : Int) + before.freq
  after.slew = p - clampInt (-4194) 4194 p ∧
  (after.residue : Int) = acc - 65536 * (acc / 65536) ∧
  (after.len : Int) = 4194304 + acc / 65536 + clampInt (-4194) 4194 p ∧
  after.count = 0


/-- A pulse arriving now is taken (R6): `msg` is the label of the message it consumes, `s1` the state with that
message USED (R17), or `s` itself where the pulse is an outlier (R6, log entry 36). -/
abbrev PulseTaken (s : State) (msg : Option Label) (s1 : State) : Prop :=
  s.warm.held = none ∧ spurious s = false ∧
  ((s.ref.mode = .pulse ∧ msg = none ∧ s1 = s) ∨
   (s.ref.mode = .full ∧ msg = (qualifying s).map (·.label) ∧ (qualifying s).isSome ∧
    s1 = if outlierPulse s then s
      else { s with ref := { s.ref with message := (qualifying s).map (fun m => { m with pairing := .used }) } }))

/-! ### What a command leaves unchanged -/

/-- The parts of the state a frame speaks of. A warm reset's timing is `hold`, its notice list `notices`. -/
inductive Part where
  | tb | ref | civil | days | sun | dials
  | bellConfigs | holders | guards | hammers | swings | sessions
  | tunes | plans | queue | quarters | held | tolls | silence | share
  | cal | lights | supply | hold | notices | ports | lines | pending
deriving DecidableEq, Repr

/-- A part is the same in two states. -/
def Part.same (q : Part) (s t : State) : Prop :=
  match q with
  | .tb => t.tb = s.tb
  | .ref => t.ref = s.ref
  | .civil => t.civil = s.civil
  | .days => t.days = s.days
  | .sun => t.sun = s.sun
  | .dials => t.dials = s.dials
  | .bellConfigs => ∀ b, (t.bell b).config = (s.bell b).config
  | .holders => ∀ b, (t.bell b).holder = (s.bell b).holder
  | .guards => ∀ b, (t.bell b).guard = (s.bell b).guard
  | .hammers => ∀ b, (t.bell b).lastStrike = (s.bell b).lastStrike ∧ (t.bell b).pulseEnd = (s.bell b).pulseEnd
  | .swings => t.swings = s.swings
  | .sessions => t.sessions = s.sessions
  | .tunes => t.tunes = s.tunes
  | .plans => t.ordinary = s.ordinary ∧ t.festal = s.festal
  | .queue => t.strike.queue = s.strike.queue ∧ t.strike.nextSeq = s.strike.nextSeq
  | .quarters => t.strike.marker = s.strike.marker ∧ t.strike.lastOutcome = s.strike.lastOutcome
  | .held => t.strike.held = s.strike.held
  | .tolls => t.strike.tolls = s.strike.tolls
  | .silence => t.strike.silence = s.strike.silence
  | .share => t.strike.share = s.strike.share
  | .cal => t.cal = s.cal
  | .lights => t.lights = s.lights
  | .supply => t.supply = s.supply
  | .hold => t.warm.since = s.warm.since ∧ t.warm.held = s.warm.held
  | .notices => t.warm.notices = s.warm.notices ∧ t.warm.lost = s.warm.lost
  | .ports => t.ports = s.ports
  | .lines => t.lines = s.lines
  | .pending => t.pending = s.pending

/-- Every part outside the list is the same in two states. -/
def Frame (changed : List Part) (s t : State) : Prop := ∀ q, q ∉ changed → q.same s t

/-! ### Invariants -/

/-- A label is a day 0..65,535 and a second 0..86,399 (R3). -/
abbrev Label.ok (l : Label) : Prop := l.day ≤ 65535 ∧ l.sec ≤ 86399

/-- The Time Base within its bounds (R1, R3, R4, R9, R11, R14, R15, R18). -/
def TimeBaseOk (s : State) : Prop :=
  (4189710 ≤ s.tb.len ∧ s.tb.len ≤ 4198898 ∧ s.tb.count < s.tb.len ∧ s.tb.ms ≤ 999) ∧
  (s.tb.residue ≤ 65535 ∧ -26214400 ≤ s.tb.freq ∧ s.tb.freq ≤ 26214400 ∧ -419430 ≤ s.tb.slew ∧ s.tb.slew ≤ 419430) ∧
  (s.tb.good ≤ 2 ∧ s.tb.outlier ≤ 2 ∧ s.tb.missed ≤ 255 ∧ s.tb.mismatch ≤ 255 ∧ s.tb.holdover ≤ 86400) ∧
  (s.tb.disc = .holdover → s.tb.holdover < 86400) ∧
  (s.tb.disc = .unset ↔ s.tb.label = none) ∧
  (∀ l, s.tb.label = some l → l.ok) ∧ (∀ l, s.tb.pendingLabel = some l → l.ok) ∧
  (∀ m, s.ref.message = some m → m.label.ok)

/-- A port within its bounds (R189, R191, R200, R202): the frame in reception is shorter than its length byte
announces, BUSY is owed only behind a response, and TXEN is released only between two (log entry 34). -/
def PortOk (r : LinkPort) : Prop :=
  r.queue.length ≤ 32 ∧ r.owed.length ≤ 4 ∧ r.discard ≤ 65535 ∧ r.holdoffLength ≤ 255 ∧
  (r.owed ≠ [] → r.sending ≠ none) ∧ (r.between = true → r.sending ≠ none) ∧ (∀ f, r.sending = some f → f.length ≤ 254) ∧
  (2 ≤ r.rx.length → 2 ≤ rd1 r.rx 1 ∧ rd1 r.rx 1 ≤ 250 ∧ r.rx.length < rd1 r.rx 1 + 4)

/-- Every port within its bounds, and the reset notice list (R186). -/
def PortsOk (s : State) : Prop := (∀ p, PortOk (s.port p)) ∧ s.warm.notices.length ≤ 16

/-- The dials within the ranges of their record (R44). -/
def DialsOk (s : State) : Prop :=
  ∀ d, (s.dial d).position < 1440 ∧ (s.dial d).misses ≤ 3 ∧
    200 ≤ (s.dial d).width ∧ (s.dial d).width ≤ 2000 ∧ 1 ≤ (s.dial d).fast ∧ (s.dial d).fast ≤ 10 ∧
    (s.dial d).width + 200 ≤ (s.dial d).fast * 1000 ∧ (s.dial d).holdLimit ≤ 720 ∧ (s.dial d).revision ≤ 254

/-- The tunes share a pool of 1,024 notes (R110). -/
def PoolOk (s : State) : Prop := (allTunes.map (fun t => (s.tune t).length)).sum ≤ 1024

/-- The strike queue: at most 64 entries in order of due time, no insertion sequence twice or still to come (R132). -/
def QueueOk (s : State) : Prop :=
  s.strike.queue.length ≤ 64 ∧ s.strike.queue.Pairwise (fun a b => a.due ≤ b.due) ∧
  (s.strike.queue.map (·.seq)).Nodup ∧ (∀ e ∈ s.strike.queue, e.seq < s.strike.nextSeq)

/-- At most eight hammers are energised, K lies in 1..8 (R125, R136). -/
def SharesOk (s : State) : Prop := 1 ≤ s.strike.share ∧ s.strike.share ≤ 8 ∧ s.energised ≤ 8

/-- No field output is driven: hammers, guard drives, swing motors, dial pairs, lamps. -/
def AllOff (s : State) : Prop :=
  (∀ b, s.hammer b = false ∧ s.guardEngDrive b = false ∧ s.guardRelDrive b = false ∧ s.swingDrive b = false) ∧
  (∀ d, s.dialA d = false ∧ s.dialB d = false) ∧ (∀ c, s.lamp c = false)

/-- On BATTERY and while a warm reset is held, no field output is driven (R181, R185, R186). -/
def DarkOk (s : State) : Prop := (s.supply.state = .battery ∨ s.warm.held ≠ none) → AllOff s

/-- A channel that is not configured is OFF or COOLING (R162). -/
def ChannelsOk (s : State) : Prop :=
  ∀ c, (s.light c).configured = false → (s.light c).state = .off ∨ (s.light c).state = .cooling

/-- A channel that is on, or free to be switched on, has its restrike time behind it (R166, R168). -/
def LampsOk (s : State) : Prop :=
  ∀ c, (s.light c).state ≠ .cooling → (s.light c).state ≠ .failed →
    ∀ x, (s.light c).restrikeExpiry = some x → x ≤ s.now

end Sys2Proof.Machine
end

