-- ==== Sys2Proof/Certificates/Slice0/Obligations.lean ====
section
/-! DEFINITION. The statements about the machine, for the provers. Where a docstring says "the model's choice",
the manual leaves the point open and the log entry named decides it. -/

open Sys2Proof Sys2Proof.Machine

/-! ### The queue of commands -/

/-- A step at a queue with a command in front is that command's meaning at the state with the queue's rest. -/
def Obligations.StepTakesTheFrontCommand : Prop :=
  ∀ (c : Instr) (rest : List Instr) (s : State),
    step { s with pending := c :: rest } = exec c { s with pending := rest }

/-- With no command waiting, a step queues the commands of the events that have fallen due; with none due it
lets one oscillator count pass, or at the last count of a second queues the boundary. The model's choice
(log entries 1 and 3): the table has no row for a count. A port between two responses goes on with the count (log
entry 34). -/
def Obligations.EmptyQueueLetsTimePass : Prop :=
  ∀ s : State, s.pending = [] → ∃ t : State, step s = .next t ∧
    (due s ≠ [] → t = { s with pending := due s }) ∧
    (due s = [] → s.tb.count + 1 < s.tb.len →
      t = { s with tb := s.tb.tick, ports := mapV (fun r : LinkPort => { r with between := false }) s.ports }) ∧
    (due s = [] → s.tb.len ≤ s.tb.count + 1 → t = { s with pending := [.localSecondBoundary] })

/-- Every command completes, and none touches the queue. -/
def Obligations.EveryCommandCompletesAndLeavesTheQueue : Prop :=
  ∀ c s, ∃ t, exec c s = .next t ∧ t.pending = s.pending

/-- Run time is never stepped (R2): but for a cold start, a command leaves it or moves it on by one, and only a
boundary or a pulse moves it. OFFSET_CHANGE_APPLIED is the boundary that applies the change (log entry 11). -/
def Obligations.RunTimeIsNeverStepped : Prop :=
  ∀ c s t, exec c s = .next t → c ≠ .coldStart →
    (t.now = s.now ∨ t.now = s.now + 1 ∧ t.tb.count = 0) ∧
    (c ≠ .localSecondBoundary → c ≠ .offsetChangeApplied → c ≠ .refPulse → t.now = s.now ∧ t.tb.count = s.tb.count ∧ t.tb.len = s.tb.len)

/-- What only certain commands write (R5, R12, R35, R41, R42, R63, R120, R142, R144, section 10.1): the frequency
trim, the reference mode, the Sunday class, the bell configurations, the plans, the silence flag, the share limit and
the Sun Table; no request moves an input line or the supply. -/
def Obligations.EachSettingHasItsOwnWriter : Prop :=
  ∀ c s t, exec c s = .next t → c ≠ .coldStart → (∀ p bs, c ≠ .frameComplete p bs) →
    (c ≠ .refPulse → t.tb.freq = s.tb.freq) ∧
    ((∀ p g m, c ≠ .refModeSet p g m) → t.ref.mode = s.ref.mode) ∧
    ((∀ p g k, c ≠ .civilConfig p g k) → t.civil.sundayClass = s.civil.sundayClass) ∧
    ((∀ p g a, c ≠ .bellConfig p g a) → ∀ b, (t.bell b).config = (s.bell b).config) ∧
    ((∀ p g a, c ≠ .planWrite p g a) → t.ordinary = s.ordinary ∧ t.festal = s.festal) ∧
    ((∀ p g v, c ≠ .silenceSet p g v) → t.strike.silence = s.strike.silence) ∧
    ((∀ p g k, c ≠ .partConfig p g k) → t.strike.share = s.strike.share) ∧
    ((∀ p g r f es, c ≠ .sunWrite p g r f es) → t.sun = s.sun) ∧
    (c.request.isSome → t.lines = s.lines ∧ t.supply = s.supply)

/-- Cold start (R25, R27, R36, R41, R44, R63, R64, R86, R95, R108, R120, R125, R146, R162, R180, R182, R184,
R199, R203): the state is the cold state under the lines as they stand, with
the waiting commands; and these are its values. Contacts, switch-on levels, a session's empty times, a channel's first
derivation and the model's own fields follow log entries 5, 14, 15, 16, 27, 28, 33, 34 and 35. -/
def Obligations.ColdStartSetsEveryColdValue : Prop :=
  ∀ s, ∃ t, exec .coldStart s = .next t ∧ t = coldState s.lines s.pending ∧
    t.tb = { uptime := 0, ms := 0, count := 0, len := 4194304, freq := 0, residue := 0, slew := 0, label := none,
             disc := .unset, good := 0, missed := 0, outlier := 0, mismatch := 0, holdover := 0, pendingLabel := none,
             lastAccepted := none, curMark := false, prevMark := false, validAtBoundary := false } ∧
    t.ref.mode = .off ∧ t.ref.message = none ∧ t.ref.continuity = none ∧ t.ref.rx = [] ∧
    t.civil = { offset := 0, change := none, sundayClass := .feast } ∧
    t.days = { entries := [], revision := 0 } ∧
    (∀ i (h : i < 366), t.sun.entries[i] = { rise := none, set := none }) ∧ t.sun.revision = 0 ∧
    (∀ d, t.dial d = {
      fitted := false, confirm := false, width := 500, fast := 2, holdLimit := 240, revision := 0,
      state := .unknown, position := 0, polarity := .negative, misses := 0, flight := none, lastStart := none,
      owed := .none }) ∧
    (∀ b, (t.bell b).config = {
      hammer := false, guardFitted := false, drive := false, sensor := false, width := 60,
      recovery := 400, travel := 5, period := 200, settle := 8, policy := .skip, revision := 0 } ∧
      (t.bell b).holder = .free ∧ (t.bell b).guard.state = .disengaged ∧ (t.bell b).guard.direction = .release ∧
      (t.bell b).guard.motion = .idle ∧ (t.bell b).guard.deadline = none ∧ (t.bell b).lastStrike = none ∧
      (t.bell b).pulseEnd = none) ∧
    (∀ b, t.swing b = {
      state := .atRest, motor := false, lastPulse := none, history := [], qualifying := 0,
      motorOn := none, settleDeadline := none, fault := .none }) ∧
    (∀ n, (t.session n).phase = .ended ∧ (t.session n).origin = .none ∧ (t.session n).bells = []) ∧
    (∀ n, t.tune n = { content := .empty, revision := 0 }) ∧
    (∀ n, t.plan n = {
      first := 0, second := 0, third := 0, hour := 0, hourBell := 0, gap := 2000, pace := 2500,
      revision := 0 }) ∧
    t.strike.queue = [] ∧ t.strike.marker = none ∧ t.strike.held = none ∧ (∀ n, t.toll n = none) ∧
    t.strike.silence = false ∧ t.strike.share = 4 ∧ t.strike.lastOutcome = none ∧ t.energised = 0 ∧
    (∀ e, (t.event e).valid = false ∧ (t.event e).lastFired = none ∧ (t.event e).revision = 0) ∧
    t.cal.cursor = none ∧ t.cal.yesterday = none ∧ t.cal.active = [] ∧
    (∀ c, t.light c = {
      configured := false, kind := .discharge, warmUp := 180, restrike := 600, follow := false,
      sense := false, revision := 0, override := .auto, expiry := none, state := .off, switchOn := none,
      warmEnd := none, restrikeExpiry := none, pendingOn := false, watch := .idle, lastOff := .none,
      derived := {}, resetLeft := none }) ∧
    t.supply.state = .battery ∧ t.supply.debounce = (if s.lines.mainsOk then some 0 else none) ∧
    t.supply.low = false ∧ t.supply.reported = false ∧
    t.warm.held = none ∧
    (∀ p, (t.port p).queue = [] ∧ (t.port p).lost = false ∧ (t.port p).sending = none ∧ (t.port p).owed = [] ∧
      (t.port p).discard = 0 ∧ (t.port p).attention = true ∧ (t.port p).holdoffLength = 10 ∧
      (t.port p).holdoffEnd = none ∧ t.attn p = false) ∧
    (t.port .l1).routing = 0xFF#8 ∧ (t.port .l2).routing = 0x9D#8 ∧ (t.port .l3).routing = 0xC1#8 ∧
    t.lines = s.lines ∧ t.pending = s.pending

/-! ### Requests at a port -/

/-- A request in a warm reset is discarded; at a port that is RESPONDING its tag is owed a BUSY, or with four owed
the frame is discarded (R186, R189, R191). That a frame which comes in a warm reset raises the discard count is log
entry 22. -/
def Obligations.RequestsOutOfTurnActOnNothing : Prop :=
  ∀ i r p tag s, i.request = some (r, p, tag) →
    (s.warm.held ≠ none → exec i s = .next (s.setPort p { s.port p with discard := min 65535 ((s.port p).discard + 1) })) ∧
    (s.warm.held = none → ((s.port p).sending ≠ none ∨ (s.port p).owed ≠ []) → (s.port p).owed.length < 4 →
      exec i s = .next (s.setPort p { s.port p with owed := (s.port p).owed ++ [tag] })) ∧
    (s.warm.held = none → 4 ≤ (s.port p).owed.length →
      exec i s = .next (s.setPort p { s.port p with discard := min 65535 ((s.port p).discard + 1) }))

/-- A request its port's role does not permit is answered DENIED with no payload and acts on nothing; the three
roles permit what the table of section 11.2 says (R192). CLAIM passes from L1 and L2. -/
def Obligations.RolesPermitOnlyTheirRequests : Prop :=
  (∀ i r p tag s, i.request = some (r, p, tag) → PortFree p s → r.permits p = false →
    exec i s = .next (answered p tag .denied [] s)) ∧
  (∀ r : Req, r.permits .l1 = false ↔ r ∈ [Req.strike, .silenceSet, .lightOverride]) ∧
  (∀ r : Req, r.permits .l2 = false ↔ r ∈ [Req.refModeSet, .offsetSet, .civilConfig, .partConfig, .dayclassWrite,
    .sunWrite, .dialConfig, .bellConfig, .ringStart, .tuneOpen, .tuneWrite, .tuneClose, .tuneAbort, .tuneDelete,
    .planWrite, .eventWrite, .eventDelete, .lightConfig, .lightFaultClear, .lightOverride]) ∧
  (∀ r : Req, r.permits .l3 = true ↔ r ∈ [Req.partStatus, .timeRead, .dayclassRead, .sunRead, .dialRead, .bellRead,
    .ringRead, .tuneRead, .planRead, .strikeStatus, .eventRead, .lightRead, .noticeFetch, .noticeRouteSet, .portReset,
    .sunWrite, .lightConfig, .lightFaultClear, .lightOverride])

/-- The twelve reads answer OK with their snapshot, or RANGE outside the range of what they name, and change
nothing but the response that goes out (R24, R40, R43, R62, R84, R107, R119, R124, R143, R161, R179, R196). Where the
manual leaves an item or its width open, the snapshots follow log entries 18, 27, 29 and 38. -/
def Obligations.ReadsAnswerASnapshotAndChangeNothing : Prop :=
  ∀ p tag s, PortFree p s →
    exec (.partStatus p tag) s = .next (answered p tag .ok (partBytes p s) s) ∧
    exec (.timeRead p tag) s = .next (answered p tag .ok (timeBytes s) s) ∧
    (∀ first, exec (.dayclassRead p tag first) s = .next (if first ≤ 63 then
      answered p tag .ok (be1 s.days.revision ++ be1 s.days.entries.length ++ be1 s.civil.sundayClass.code ++
        beMarked 5 (fun c => beDate c.day ++ be1 (s.classOf c.day).code) s.civilNow ++
        beList (fun e => beDate e.date ++ be1 e.cls.code) ((s.days.entries.drop first).take 32)) s
      else answered p tag .range [] s)) ∧
    (∀ first count, exec (.sunRead p tag first count) s = .next (
      if 1 ≤ first ∧ 1 ≤ count ∧ count ≤ 60 ∧ first + count ≤ 367 then
        answered p tag .ok (be1 s.sun.revision ++
          beList (fun e => beMinute e.rise ++ beMinute e.set) ((s.sun.entries.toList.drop (first - 1)).take count) ++
          beS2 s.civil.offset) s
      else answered p tag .range [] s)) ∧
    (∀ d : Fin 4, exec (.dialRead p tag (d.1 + 1)) s = .next (answered p tag .ok (dialBytes d s) s)) ∧
    (∀ n, (n = 0 ∨ 4 < n) → exec (.dialRead p tag n) s = .next (answered p tag .range [] s)) ∧
    (∀ b : Fin 16, exec (.bellRead p tag (b.1 + 1)) s = .next (answered p tag .ok (bellBytes b s) s)) ∧
    (∀ n, (n = 0 ∨ 16 < n) → exec (.bellRead p tag n) s = .next (answered p tag .range [] s)) ∧
    (∀ k : Fin 4, exec (.ringRead p tag (k.1 + 1)) s = .next (answered p tag .ok (sessionBytes k s) s)) ∧
    (∀ n, (n = 0 ∨ 4 < n) → exec (.ringRead p tag n) s = .next (answered p tag .range [] s)) ∧
    (∀ (k : Fin 24) first count, 1 ≤ first → count ≤ 64 →
      exec (.tuneRead p tag (k.1 + 1) first count) s = .next (answered p tag .ok (tuneBytes k first count s) s)) ∧
    (∀ n first count, (n = 0 ∨ 24 < n ∨ first = 0 ∨ 64 < count) →
      exec (.tuneRead p tag n first count) s = .next (answered p tag .range [] s)) ∧
    exec (.planRead p tag 0) s = .next (answered p tag .ok (planBytes .ordinary s) s) ∧
    exec (.planRead p tag 1) s = .next (answered p tag .ok (planBytes .festal s) s) ∧
    (∀ n, 1 < n → exec (.planRead p tag n) s = .next (answered p tag .range [] s)) ∧
    (∀ first, exec (.strikeStatus p tag first) s = .next (if first ≤ 63 then
      answered p tag .ok (strikeBytes first s) s else answered p tag .range [] s)) ∧
    (∀ e : Fin 96, exec (.eventRead p tag (e.1 + 1)) s = .next (answered p tag .ok (eventBytes e s) s)) ∧
    (∀ n, (n = 0 ∨ 96 < n) → exec (.eventRead p tag n) s = .next (answered p tag .range [] s)) ∧
    (∀ c : Fin 8, exec (.lightRead p tag (c.1 + 1)) s = .next (answered p tag .ok (lightBytes c s) s)) ∧
    (∀ n, (n = 0 ∨ 8 < n) → exec (.lightRead p tag n) s = .next (answered p tag .range [] s))

/-! ### Notices -/

/-- A notice joins the queue of every port whose routing carries its class, or is lost there for want of room; in a
warm reset it joins the reset notice list instead (R186, R198, R199, R200). Nothing else changes. -/
def Obligations.NoticesReachEveryRoutingQueue : Prop :=
  (∀ n s, s.warm.held = none → Frame [.ports] s (postNotice n s) ∧
    ∀ p, (postNotice n s).port p =
      if (s.port p).routing.getLsbD n.kind.cls then
        if (s.port p).queue.length < 32 then { s.port p with queue := (s.port p).queue ++ [n] }
        else { s.port p with lost := true }
      else s.port p) ∧
  (∀ n s, s.warm.held ≠ none → postNotice n s =
    if s.warm.notices.length < 16 then { s with warm := { s.warm with notices := s.warm.notices ++ [n] } }
    else { s with warm := { s.warm with lost := true } }) ∧
  (∀ k subject detail s, post k subject detail s =
    postNotice { kind := k, subject := subject, detail := detail, stamp := s.tb.uptime, label := s.tb.label } s)

/-! ### Frames and ports -/

/-- A well-formed request's payload fits a frame, its code names it, and its payload decodes to it (R189, R204). The
widths of BELL_CONFIG's timing values are log entry 17. -/
def Obligations.EncodedRequestsDecodeToThemselves : Prop :=
  ∀ i r p tag, i.wellFormed = true → i.request = some (r, p, tag) →
    i.payload.length ≤ 248 ∧ Req.ofCode r.code = some r ∧ r.decode p tag i.payload = some i

/-- The bytes of a well-formed request's frame, arriving at a hunting port, do what the request does (R189, R191,
R192). BELL_CONFIG's widths and FRAME_COMPLETE's carrying of bytes are log entries 17 and 20. -/
def Obligations.AFrameRunsTheRequestItCarries : Prop :=
  ∀ i r p tag s, i.wellFormed = true → i.request = some (r, p, tag) → (s.port p).rx = [] →
    ∃ t, exec i (s.setPort p { s.port p with lastByte := s.now }) = .next t ∧
      exec (.frameComplete p (frame tag r.code i.payload)) s = .next t

/-- What a bad frame does (R189, R192). A frame whose code names no request, or whose payload has another length than
its form, is answered MALFORMED; the role is checked before the length. Bytes other than the start byte are ignored
while hunting; a wrong check, a length below 2 or above 250 and a gap of more than 10 ms discard the frame and raise
the discard count; the byte that ends a gap belongs to the hunt. FRAME_COMPLETE's carrying of bytes, where
FRAME_LENGTH_REJECTED acts and BELL_CONFIG's length are log entries 20 and 17. A gap timeout without a gap and a
length in range change nothing (log entry 2). -/
def Obligations.BadFramesAreRefusedOrDiscarded : Prop :=
  ∀ (p : Port) (s : State),
    (∀ tag code payload, PortFree p s → (s.port p).rx = [] → payload.length ≤ 248 →
      let s' := s.setPort p { s.port p with lastByte := s.now }
      (Req.ofCode code = none →
        exec (.frameComplete p (frame tag code payload)) s = .next (answered p tag .malformed [] s')) ∧
      (∀ r, Req.ofCode code = some r → r.permits p = false →
        exec (.frameComplete p (frame tag code payload)) s = .next (answered p tag .denied [] s')) ∧
      (∀ r, Req.ofCode code = some r → r.permits p = true → r.lengthOk payload = false →
        exec (.frameComplete p (frame tag code payload)) s = .next (answered p tag .malformed [] s'))) ∧
    (∀ bs, (s.port p).rx = [] → (∀ b ∈ bs, b ≠ 0xA5#8) → exec (.frameComplete p bs) s = .next s) ∧
    (∀ (n : Byte) xs (c1 c2 : Byte), (s.port p).rx = [] → 2 ≤ n.toNat → n.toNat ≤ 250 → xs.length = n.toNat →
      c1.toNat * 256 + c2.toNat ≠ (crc16 (n :: xs)).toNat →
      exec (.frameComplete p (0xA5#8 :: n :: xs ++ [c1, c2])) s =
        .next (s.setPort p { s.port p with lastByte := s.now, discard := min 65535 ((s.port p).discard + 1) })) ∧
    (∀ n : Byte, ((s.port p).rx = [] ∨ ((s.port p).rx.length = 1 ∧ s.now ≤ (s.port p).lastByte + 10)) →
      (n.toNat < 2 ∨ 250 < n.toNat) → exec (.frameLengthRejected p n) s =
      .next (s.setPort p { s.port p with
        rx := [], lastByte := s.now, discard := min 65535 ((s.port p).discard + 1) })) ∧
    (∀ n : Byte, ((s.port p).rx = [] ∨ s.now ≤ (s.port p).lastByte + 10) →
      ((2 ≤ n.toNat ∧ n.toNat ≤ 250) ∨ 2 ≤ (s.port p).rx.length) → exec (.frameLengthRejected p n) s = .next s) ∧
    ((s.port p).rx ≠ [] → (s.port p).lastByte + 10 < s.now →
      let dropped := s.setPort p { s.port p with rx := [], discard := min 65535 ((s.port p).discard + 1) }
      exec (.frameGapTimeout p) s = .next dropped ∧
      (∀ b bs, exec (.frameComplete p (b :: bs)) s = exec (.frameComplete p (b :: bs)) dropped) ∧
      (∀ n, exec (.frameLengthRejected p n) s = exec (.frameLengthRejected p n) dropped)) ∧
    (((s.port p).rx = [] ∨ s.now ≤ (s.port p).lastByte + 10) → exec (.frameGapTimeout p) s = .next s)

/-- The transmitter and the attention line of a port (R190, R191, R203): at the end of a response the next owed BUSY
goes out, or the port is idle; TXEN stands while a response goes out and is released between two, until the next
count (log entry 34); the holdoff ends at its instant; ATTN stands while a notice is queued, attention is enabled, no
holdoff runs and no warm reset is held. An end of a response with none going out and a holdoff end before its instant
change nothing (log entry 2). -/
def Obligations.ResponsesHoldoffAndAttention : Prop :=
  ∀ p s,
    (∀ f, (s.port p).sending = some f → (s.port p).owed = [] →
      exec (.responseSent p) s = .next (s.setPort p { s.port p with sending := none, between := false })) ∧
    (∀ f tag rest, (s.port p).sending = some f → (s.port p).owed = tag :: rest →
      exec (.responseSent p) s = .next (s.setPort p { s.port p with
        sending := some (frame tag 0x05#8 []), between := true, owed := rest })) ∧
    ((s.port p).sending = none → exec (.responseSent p) s = .next s) ∧
    (s.txen p = true ↔ (s.port p).sending ≠ none ∧ (s.port p).between = false) ∧
    (s.pending = [] → due s = [] → s.tb.count + 1 < s.tb.len →
      ∃ t, step s = .next t ∧ (t.txen p = true ↔ (s.port p).sending ≠ none)) ∧
    (∀ x, (s.port p).holdoffEnd = some x → exec (.holdoffEnd p) s =
      .next (if x ≤ s.now then s.setPort p { s.port p with holdoffEnd := none } else s)) ∧
    (s.attn p = true ↔ (s.port p).queue ≠ [] ∧ (s.port p).attention = true ∧ (s.port p).holdoffEnd = none ∧ s.warm.held = none)

/-- NOTICE_FETCH (R201, R203): up to eight of the oldest notices leave the queue for the response, the lost flag is
reported and cleared, and a holdoff of nonzero length starts afresh. NOTICE_ROUTE_SET (R202) sets the routing, the
attention and the holdoff of the requesting port, PORT_RESET (R197) returns it to its defaults; from L1 a port reset
also makes every EDITING tune EMPTY. A holdoff of length 0 set while one runs and the layout of PORT_RESET's response
are the model's choices (log entries 31 and 18). -/
def Obligations.NoticeFetchRouteSetAndPortReset : Prop :=
  ∀ (p : Port) (tag : Byte) (s : State), PortFree p s →
    exec (.noticeFetch p tag) s = .next (answered p tag .ok
      (beFlag (s.port p).lost ++ be1 (min 8 (s.port p).queue.length) ++ be1 ((s.port p).queue.length - 8) ++
        ((s.port p).queue.take 8).flatMap Notice.bytes)
      (s.setPort p { s.port p with
        queue := (s.port p).queue.drop 8
        lost := false
        holdoffEnd := if (s.port p).holdoffLength = 0 then (s.port p).holdoffEnd
          else some (s.now + (s.port p).holdoffLength * 10) })) ∧
    (∀ routing enable holdoff, enable ≤ 1 → exec (.noticeRouteSet p tag routing enable holdoff) s =
      .next (answered p tag .ok
        (be1 (BitVec.ofNat 8 routing).toNat ++ be1 enable ++ be2 (min 255 holdoff * 10))
        (s.setPort p { s.port p with
          routing := BitVec.ofNat 8 routing
          attention := enable == 1
          holdoffLength := min 255 holdoff }))) ∧
    (∀ routing enable holdoff, 1 < enable →
      exec (.noticeRouteSet p tag routing enable holdoff) s = .next (answered p tag .range [] s)) ∧
    (let cleared := s.setPort p { coldPort (portIndex p) with
       rx := (s.port p).rx, lastByte := (s.port p).lastByte, between := (s.port p).between }
     exec (.portReset p tag) s = .next (answered p tag .ok
      (be1 (defaultRouting (portIndex p)).toNat ++ be1 1 ++ be2 100)
      (if p = .l1 then abortEdits cleared else cleared)))

/-- A port stays within its bounds, and the reset notice list within 16, whatever step is taken. -/
def Obligations.PortsStayWithinBounds : Prop := ∀ s t, PortsOk s → step s = .next t → PortsOk t

/-- The state right after reset meets every invariant stated here. -/
def Obligations.InvariantsHoldAtReset : Prop :=
  TimeBaseOk State.reset ∧ PortsOk State.reset ∧ DialsOk State.reset ∧ PoolOk State.reset ∧ QueueOk State.reset ∧
  SharesOk State.reset ∧ DarkOk State.reset ∧ LampsOk State.reset ∧ ChannelsOk State.reset

/-! ### The local second -/

/-- The length of each second (R1): the three steps at every boundary, whether ordinary or made by a pulse (which
leaves P at 0); the count, and where the boundary falls; the bounds of R, acc, q and L; the 101 seconds of the
largest slew. That a step with an empty queue is one oscillator count is the model's choice (log entry 1); a boundary
before the count reaches L changes nothing (log entry 2). -/
def Obligations.TheLengthOfEachSecond : Prop :=
  (∀ s t, -26214400 ≤ s.tb.freq → s.tb.freq ≤ 26214400 → s.tb.residue ≤ 65535 →
    (s.tb.len ≤ s.tb.count + 1 → exec .localSecondBoundary s = .next t → SecondFixed s.tb.slew s.tb t.tb) ∧
    (exec .refPulse s = .next t → t.tb.uptime ≠ s.tb.uptime → SecondFixed 0 s.tb t.tb)) ∧
  (∀ s, s.tb.count + 1 < s.tb.len → exec .localSecondBoundary s = .next s) ∧
  (∀ s, s.pending = [] → due s = [] →
    (s.tb.count + 1 < s.tb.len → ∃ t, step s = .next t ∧ t.tb.count = s.tb.count + 1 ∧ t.tb.len = s.tb.len) ∧
    (s.tb.len ≤ s.tb.count + 1 → step s = .next { s with pending := [.localSecondBoundary] })) ∧
  (∀ f r : Int, -26214400 ≤ f → f ≤ 26214400 → 0 ≤ r → r ≤ 65535 →
    -26214400 ≤ r + f ∧ r + f ≤ 26279935 ∧ -400 ≤ (r + f) / 65536 ∧ (r + f) / 65536 ≤ 400 ∧
    0 ≤ r + f - 65536 * ((r + f) / 65536) ∧ r + f - 65536 * ((r + f) / 65536) ≤ 65535) ∧
  (∀ p f r : Int, -26214400 ≤ f → f ≤ 26214400 → 0 ≤ r → r ≤ 65535 →
    4189710 ≤ 4194304 + (r + f) / 65536 + clampInt (-4194) 4194 p ∧
    4194304 + (r + f) / 65536 + clampInt (-4194) 4194 p ≤ 4198898) ∧
  (∀ t : TimeBase, -419430 ≤ t.slew → t.slew ≤ 419430 → (TimeBase.newSecond^[101] t).slew = 0) ∧
  (∀ t : TimeBase, t.slew = 419430 → (TimeBase.newSecond^[100] t).slew = 30)

/-- Run time within a second (R2): after k counts of a second of length L the millisecond in progress is the one that
began last, run time has risen by its number, and the boundary makes a full second exactly 1,000. Run time is reported
modulo 2^32 (R205), and over any span below 2^31 its signed difference is the true one, so a deadline is reached by it
exactly when the instant is (log entries 1 and 4). -/
def Obligations.RunTimeWithinASecondAndItsWrapping : Prop :=
  (∀ t : TimeBase, t.count = 0 → t.ms = 0 → 1000 ≤ t.len →
     (∀ k, k < t.len →
       let u := TimeBase.tick^[k] t
       u.count = k ∧ u.len = t.len ∧ u.uptime = t.uptime + u.ms ∧ u.ms ≤ 999 ∧
       u.ms * t.len / 1000 ≤ k ∧ k < (u.ms + 1) * t.len / 1000) ∧
     (TimeBase.tick^[t.len - 1] t).newSecond.uptime = t.uptime + 1000) ∧
  ((∀ t : Instant, beTime t = be4 (t % 4294967296)) ∧
   (∀ now deadline : Instant, now < deadline + 2147483648 → deadline ≤ now + 2147483648 - 1 →
     (0 ≤ (runTime now - runTime deadline).toInt ↔ deadline ≤ now)))

/-- What an ordinary boundary does to the Time Base (R3, R14, R15, R21): the label advances, or the pending label is
applied; the marks move on; the missed and holdover counts rise and move the state at their limits. F, the outlier
and mismatch counts, the accepted pulse's time and the receiver stand. Outside a warm reset the other blocks follow
(R22, R39, R51, R126, R150, R156, R164, R165): each dial takes its one decision, the quarter, the minute, and where
the minute changed the windows and the overrides, and every channel is derived; their order and that of the dials are
the model's choices (log entries 9 and 37), and its own mark of validity is log entry 14. The moves at the limits are
commands too (the model's choice, log entry 11): with the missed count at 8 or above (log entry 10), LOCKED becomes
HOLDOVER and ACQUIRE becomes FREE; with the holdover count at 86,400, HOLDOVER becomes FREE. The notice of a move
carries the label in force after it (R4): a waiting label is in force before the tests, and its TIME_STEPPED follows
the notice of the move (the model's choice, log entry 47). -/
def Obligations.BoundariesAndTheirLimits : Prop :=
  (∀ s, s.tb.len ≤ s.tb.count + 1 → ∃ t, exec .localSecondBoundary s = .next t ∧
     let missing := s.ref.mode ≠ .off ∧ s.tb.curMark = false
     let missed := if missing then min 255 (s.tb.missed + 1) else s.tb.missed
     let afterHoldover : Discipline := if s.tb.disc = .holdover ∧ 86400 ≤ s.tb.holdover + 1 then .free else s.tb.disc
     let afterMissed : Discipline :=
       if missing ∧ 8 ≤ missed then
         (if afterHoldover = .locked then .holdover else if afterHoldover = .acquire then .free else afterHoldover)
       else afterHoldover
     let afterPending : Discipline :=
       if s.tb.pendingLabel ≠ none ∧ afterMissed = .unset then (if s.ref.mode = .off then .free else .acquire)
       else afterMissed
     t.tb.label = (if s.tb.pendingLabel = none then s.tb.label.map Label.advance else s.tb.pendingLabel) ∧
     t.tb.pendingLabel = none ∧ t.tb.disc = afterPending ∧ t.tb.missed = missed ∧
     t.tb.prevMark = s.tb.curMark ∧ t.tb.curMark = false ∧
     t.tb.holdover = (if s.tb.disc = .holdover then s.tb.holdover + 1
       else if s.tb.disc = .locked ∧ afterMissed = .holdover then 0 else s.tb.holdover) ∧
     t.tb.uptime = s.tb.uptime + 1 ∧ t.tb.ms = 0 ∧
     t.tb.freq = s.tb.freq ∧ t.tb.outlier = s.tb.outlier ∧ t.tb.mismatch = s.tb.mismatch ∧
     t.tb.lastAccepted = s.tb.lastAccepted ∧
     Frame [.tb, .civil, .days, .dials, .holders, .guards, .swings, .sessions, .queue, .quarters, .held, .tolls, .cal,
       .lights, .notices, .ports] s t) ∧
  (∀ s : State,
     (8 ≤ s.tb.missed → s.tb.disc = .locked → exec .missedLimit s = .next (post .stateChanged 0 (pair 3 4)
       { s with tb := { s.tb with disc := .holdover, holdover := 0 } })) ∧
     (8 ≤ s.tb.missed → s.tb.disc = .acquire → exec .missedLimit s = .next (post .stateChanged 0 (pair 2 1)
       { s with tb := { s.tb with disc := .free, good := 0 } })) ∧
     ((s.tb.missed < 8 ∨ (s.tb.disc ≠ .locked ∧ s.tb.disc ≠ .acquire)) → exec .missedLimit s = .next s) ∧
     (s.tb.disc = .holdover → 86400 ≤ s.tb.holdover → exec .holdoverLimit s = .next (post .stateChanged 0 (pair 4 1)
       { s with tb := { s.tb with disc := .free } })) ∧
     ((s.tb.disc ≠ .holdover ∨ s.tb.holdover < 86400) → exec .holdoverLimit s = .next s)) ∧
  (∀ (s : State) (label : Option Label), s.tb.disc = .locked → s.ref.mode ≠ .off → s.tb.curMark = false → 7 ≤ s.tb.missed →
     beginSecond label s = post .stateChanged 0 (pair 3 4) { s with tb := { s.tb.newSecond with
       label := if s.tb.pendingLabel = none then label else s.tb.pendingLabel
       pendingLabel := none, missed := min 255 (s.tb.missed + 1), prevMark := false, curMark := false
       disc := .holdover, holdover := 0 } }) ∧
  (∀ s, s.tb.len ≤ s.tb.count + 1 → s.warm.held = none →
     let next := s.tb.label.map Label.advance
     let b := beginSecond next s
     (∀ c, s.civil.change = some c → ∃ i, c.instant = .label i ∧ ∀ l, b.tb.label = some l → l.atOrAfter i = false) →
     let delta := stepDelta next b.tb.label
     let stepped := match delta with
       | some d => post .timeStepped 0 (deltaDetail d) b
       | none => b
     let becameValid := b.tb.label.isSome && !s.tb.validAtBoundary
     let dated := dateChange s.civilNow becameValid stepped
     exec .localSecondBoundary s = .next (blocksBoundary s.civilNow delta false becameValid
       { dated with tb := { dated.tb with validAtBoundary := b.tb.label.isSome } })) ∧
  (∀ (old : Option Label) (delta : Option Int) (applied becameValid : Bool) (s : State),
     let dials :=
       if delta ≠ none ∨ applied = true ∨ becameValid = true then (List.finRange 4).foldl (fun u d => fullCause d u) s
       else match s.civilNow with
         | some c => if c.sec % 30 = 0 then (List.finRange 4).foldl (fun u d => continuingCause d u) s else s
         | none => s
     let quarters := match s.tb.label with
       | some l => strikeBoundary delta l dials
       | none => dials
     let small := match delta with
       | some d => decide (1 ≤ d ∧ d ≤ 120 ∧ applied = false)
       | none => false
     let minutes := calendarCompare true small quarters
     let windows :=
       if old.map Label.dayMinute ≠ s.civilNow.map Label.dayMinute ∨ becameValid = true then
         (List.finRange 8).foldl (fun u c => overrideTest c u) (recomputeWindows minutes.activeScenes minutes)
       else minutes
     blocksBoundary old delta applied becameValid s = (List.finRange 8).foldl (fun u c => deriveLight c u) windows) ∧
  (∀ s t c, exec .localSecondBoundary s = .next t → s.tb.len ≤ s.tb.count + 1 → s.warm.held = none →
     t.civilNow = some c → t.cal.cursor = some c.dayMinute)

/-! ### Reference pulses and messages -/

/-- An ignored pulse changes nothing (R6, R26): the mode is REF_OFF, or less than 500 ms have passed since the accepted
pulse before, or no message of quality 0 waits in REF_FULL; and so in a warm reset. A discarded outlier leaves the receiver
and the accepted pulse's time alone, its message too (log entry 36). A taken pulse in UNSET (R13) in REF_PULSE
disciplines phase only; in REF_FULL its message gives the first label, the state becomes ACQUIRE, and the
mismatch count and continuity record are cleared. -/
def Obligations.PulsesIgnoredAndPulsesInUnset : Prop :=
  (∀ s : State,
     (s.ref.mode = .off ∨ (∃ x, s.tb.lastAccepted = some x ∧ s.now < x + 500) ∨ s.warm.held ≠ none ∨
       (s.ref.mode = .full ∧ ∀ m, s.ref.message = some m →
         (m.pairing ≠ .waiting ∨ m.quality ≠ 0#8 ∨ m.arrival + 1200 < s.now))) →
     exec .refPulse s = .next s) ∧
  (∀ s msg s1, PulseTaken s msg s1 → s.tb.disc = .locked →
     let e := pulseError s.tb.count s.tb.len
     (419430 < e ∨ e < -419430) → ∃ t, exec .refPulse s = .next t ∧ t.ref = s.ref ∧
       t.tb.lastAccepted = s.tb.lastAccepted ∧ t.tb.curMark = s.tb.curMark ∧ t.tb.missed = s.tb.missed) ∧
  (∀ s msg s1, PulseTaken s msg s1 → s.tb.disc = .unset →
     let e := pulseError s.tb.count s.tb.len
     (msg = none → -419430 ≤ e → e ≤ 419430 → exec .refPulse s = .next { s with tb := { s.tb with
       lastAccepted := some s.now, curMark := true, missed := 0, slew := e } }) ∧
     (∀ m, msg = some m → -419430 ≤ e → e ≤ 419430 →
       exec .refPulse s = .next (post .stateChanged 0 (pair 0 2) { s1 with
         tb := { s.tb with
           lastAccepted := some s.now, curMark := true, missed := 0, slew := e, mismatch := 0, disc := .acquire
           label := some (if 0 ≤ e then m else m.shift (-1))
           good := if -4194 ≤ e ∧ e ≤ 4194 then 1 else 0 }
         ref := { s1.ref with continuity := none } })) ∧
     (∀ m, msg = some m → (419430 < e ∨ e < -419430) → ∃ t, exec .refPulse s = .next t ∧
       t.tb.label = some m ∧ t.tb.disc = .acquire ∧ t.tb.good = 0 ∧ t.tb.slew = 0 ∧ t.tb.count = 0 ∧
       t.tb.mismatch = 0 ∧ t.ref.continuity = none ∧ t.tb.freq = s.tb.freq ∧
       Frame [.tb, .ref, .civil, .days, .dials, .holders, .guards, .swings, .sessions, .queue, .quarters, .held, .tolls,
        .cal, .lights, .notices, .ports] s t))

/-- A taken pulse in LOCKED (R11): an outlier is discarded, the third in a row moves the state to ACQUIRE; any other is
accepted, sets P to its error and the outlier count to 0, learns (R12) and is checked against its message. A second
without a taken pulse leaves the outlier count. What becomes of an outlier's message is not stated here. -/
def Obligations.APulseInLocked : Prop :=
  (∀ s msg s1, PulseTaken s msg s1 → s.tb.disc = .locked →
    let e := pulseError s.tb.count s.tb.len
    ((419430 < e ∨ e < -419430) → s.tb.outlier < 2 →
      ∃ m, exec .refPulse s = .next { s with
        ref := { s.ref with message := m }, tb := { s.tb with outlier := s.tb.outlier + 1 } }) ∧
    ((419430 < e ∨ e < -419430) → 2 ≤ s.tb.outlier →
      ∃ m, exec .refPulse s = .next (post .stateChanged 0 (pair 3 2) { s with
        ref := { s.ref with message := m }, tb := { s.tb with disc := .acquire, outlier := 0, good := 0 } })) ∧
    (-419430 ≤ e → e ≤ 419430 →
      exec .refPulse s = .next (checkPulse e msg { s1 with tb := { s.tb with
        lastAccepted := some s.now, curMark := true, missed := 0, slew := e, outlier := 0,
        freq := if s.tb.slew = 0 ∧ s.tb.prevMark = true then clampInt (-26214400) 26214400 (s.tb.freq + 64 * e)
          else s.tb.freq } }))) ∧
  (∀ e s, checkPulse e none s = s) ∧
  (∀ e msg s, (checkPulse e msg s).tb.disc = s.tb.disc ∧ (checkPulse e msg s).tb.slew = s.tb.slew ∧
    (checkPulse e msg s).tb.outlier = s.tb.outlier) ∧
  (∀ s t, s.tb.disc = .locked → exec .localSecondBoundary s = .next t → t.tb.outlier = s.tb.outlier)

/-- A taken pulse within the step threshold in ACQUIRE, FREE or HOLDOVER (R8, R9, R12): the last two become ACQUIRE
first; P becomes the error; a pulse within the lock window is good, and the third good one locks. That the good count
is 0 after leaving ACQUIRE is log entry 12. -/
def Obligations.APulseInAcquire : Prop :=
  ∀ s msg s1, PulseTaken s msg s1 → (s.tb.disc = .acquire ∨ s.tb.disc = .free ∨ s.tb.disc = .holdover) →
    let e := pulseError s.tb.count s.tb.len
    e ≤ 419430 → -419430 ≤ e →
    let s2 := if s.tb.disc = .acquire then s1
      else post .stateChanged 0 (pair s.tb.disc.code 2) { s1 with tb := { s.tb with
        disc := .acquire, good := 0, outlier := 0
        holdover := if s.tb.disc = .holdover then 0 else s.tb.holdover } }
    let good := if -4194 ≤ e ∧ e ≤ 4194 then s2.tb.good + 1 else 0
    let s3 := { s2 with tb := { s2.tb with
      lastAccepted := some s.now, curMark := true, missed := 0, slew := e, good := good
      freq := if s.tb.slew = 0 ∧ s.tb.prevMark = true then clampInt (-26214400) 26214400 (s.tb.freq + 64 * e)
        else s.tb.freq } }
    exec .refPulse s = .next (checkPulse e msg
      (if 3 ≤ good then post .stateChanged 0 (pair 2 3)
          { s3 with tb := { s3.tb with disc := .locked, good := 0, outlier := 0 } }
       else s3))

/-- A phase step (R9, R10): a taken pulse beyond the step threshold in ACQUIRE, FREE or HOLDOVER, or in UNSET under
REF_PULSE, cuts the second and begins a new one with P at 0, its label the cut second's or the next, F as it was. The
run time taken for the accepted pulse is log entry 12, the order of the notices log entry 47. Its message is checked against the label of the second that
begins (R18), and a second consecutive mismatch sets that label to the message's (R19) and recomputes the active
windows, even within the minute (R156). -/
def Obligations.APulseBeyondTheThresholdStepsThePhase : Prop :=
  ∀ s msg s1, PulseTaken s msg s1 → s.tb.disc ≠ .locked → (s.tb.disc = .unset → msg = none) →
    let e := pulseError s.tb.count s.tb.len
    (419430 < e ∨ e < -419430) → ∃ t, exec .refPulse s = .next t ∧
      t.tb.count = 0 ∧ t.tb.ms = 0 ∧ t.tb.uptime = s.tb.uptime + 1 ∧ t.tb.slew = 0 ∧ t.tb.good = 0 ∧
      t.tb.freq = s.tb.freq ∧ t.tb.missed = 0 ∧ t.tb.prevMark = true ∧ t.tb.curMark = false ∧
      t.tb.lastAccepted = some s.now ∧
      (s.tb.pendingLabel = none → t.tb.disc = (if s.tb.disc = .unset then .unset else .acquire)) ∧
      (s.tb.pendingLabel = none → msg = none →
        t.tb.label = if 0 < e then s.tb.label else s.tb.label.map Label.advance) ∧
      (∀ m l, s.tb.pendingLabel = none → msg = some m → s.tb.label = some l →
        let begun := if 0 < e then l else l.advance
        (m = begun → t.tb.label = some begun ∧ t.tb.mismatch = 0 ∧ t.ref.continuity = none) ∧
        (m ≠ begun → (∀ k, s.ref.continuity = some (k, m.diff begun) → k.advance ≠ m) → t.tb.label = some begun ∧
          t.tb.mismatch = min 255 (s.tb.mismatch + 1) ∧ t.ref.continuity = some (m, m.diff begun)) ∧
        (∀ k, m ≠ begun → s.ref.continuity = some (k, m.diff begun) → k.advance = m →
          t.tb.label = some m ∧ t.tb.mismatch = 0 ∧ t.ref.continuity = none ∧ t.cal.active = activeNow t)) ∧
      Frame [.tb, .ref, .civil, .days, .dials, .holders, .guards, .swings, .sessions, .queue, .quarters, .held, .tolls,
        .cal, .lights, .notices, .ports] s t

/-- The label check (R18, R19): equal labels clear the mismatch count and the continuity record; a difference counts
and is reported; a second one of the same delta, one second on, steps the running label by it, and that time step
reaches the dials, the quarter, the calendar, the windows and the overrides at the moment of the relabel (R22, R39,
R53, R127, R150, R156, R165), in the order of log entry 9, the dials in that of log entry 37. -/
def Obligations.TheLabelCheckOfAPulse : Prop :=
  ∀ e m l (s : State), s.tb.label = some l →
    let implied := if 0 ≤ e then l else l.advance
    let counted := post .labelMismatch 0 (deltaDetail (m.diff implied))
      { s with tb := { s.tb with mismatch := min 255 (s.tb.mismatch + 1) } }
    (m = implied → checkPulse e (some m) s =
      { s with tb := { s.tb with mismatch := 0 }, ref := { s.ref with continuity := none } }) ∧
    (m ≠ implied → (∀ k, s.ref.continuity = some (k, m.diff implied) → k.advance ≠ m) →
      checkPulse e (some m) s = { counted with ref := { counted.ref with continuity := some (m, m.diff implied) } }) ∧
    (∀ k, m ≠ implied → s.ref.continuity = some (k, m.diff implied) → k.advance = m →
      let t := checkPulse e (some m) s
      t.tb.label = some (l.shift (m.diff implied)) ∧ t.tb.mismatch = 0 ∧ t.ref.continuity = none ∧
      t.tb.disc = s.tb.disc ∧ t.tb.slew = s.tb.slew ∧ t.tb.freq = s.tb.freq ∧ t.tb.count = s.tb.count ∧
      t.tb.uptime = s.tb.uptime ∧
      Frame [.tb, .ref, .days, .dials, .holders, .guards, .swings, .sessions, .queue, .quarters, .held, .tolls, .cal,
        .lights, .notices, .ports] s t) ∧
    (∀ k, m ≠ implied → s.ref.continuity = some (k, m.diff implied) → k.advance = m →
      let delta := m.diff implied
      let stepped := post .timeStepped 0 (deltaDetail delta) { counted with
        tb := { counted.tb with mismatch := 0, label := some (l.shift delta) }, ref := { counted.ref with continuity := none } }
      let dials := (List.finRange 4).foldl (fun u d => fullCause d u) (dateChange s.civilNow false stepped)
      let minutes := calendarCompare false (decide (1 ≤ delta ∧ delta ≤ 120)) (quarterStep delta (l.shift delta) dials)
      checkPulse e (some m) s =
        (List.finRange 8).foldl (fun u c => overrideTest c u) (recomputeWindows minutes.activeScenes minutes))

/-- The reference receiver (R16, R17): a message of twelve good bytes is stored WAITING with the time of its arrival;
a bad one changes no record; a gap of more than 10 ms abandons one, and the byte that ends it belongs to the hunt; a
message waits 1,200 ms. A gap timeout without a gap and an expiry before its time or without a message change nothing
(log entry 2). -/
def Obligations.TheReferenceReceiver : Prop :=
  ∀ s : State,
    (∀ (l : Label) (q : Byte), s.ref.rx = [] → l.day ≤ 65535 → l.sec ≤ 86399 →
      let body := 0xC3#8 :: (be2 l.day ++ be3 l.sec ++ [q, 0, 0, 0, 0])
      exec (.refMessageReceived (body ++ [sumByte body])) s = .next { s with ref := { s.ref with
        rx := [], lastByte := s.now
        message := some { label := l, quality := q, arrival := s.now, pairing := .waiting } } }) ∧
    (∀ (bs : List Byte) (c : Byte), s.ref.rx = [] → bs.length = 10 →
      (c ≠ sumByte (0xC3#8 :: bs) ∨ 86399 < rd3 bs 2 ∨ bs.drop 6 ≠ [0, 0, 0, 0]) →
      exec (.refMessageReceived (0xC3#8 :: bs ++ [c])) s =
        .next { s with ref := { s.ref with rx := [], lastByte := s.now } }) ∧
    (∀ bs, s.ref.rx = [] → (∀ b ∈ bs, b ≠ 0xC3#8) → exec (.refMessageReceived bs) s = .next s) ∧
    (s.ref.rx ≠ [] → s.ref.lastByte + 10 < s.now → ∀ b bs, exec (.refMessageReceived (b :: bs)) s =
      exec (.refMessageReceived (b :: bs)) { s with ref := { s.ref with rx := [] } }) ∧
    (exec .refMessageGapTimeout s = .next
      (if s.ref.rx ≠ [] ∧ s.ref.lastByte + 10 < s.now then { s with ref := { s.ref with rx := [] } } else s)) ∧
    (∀ m, s.ref.message = some m → exec .refMessageExpired s = .next
      (if m.pairing = .waiting ∧ m.arrival + 1200 ≤ s.now then
        { s with ref := { s.ref with message := some { m with pairing := .expired } } } else s)) ∧
    (s.ref.message = none → exec .refMessageExpired s = .next s)

/-! ### Requests of the Time Base and the Civil Time Unit -/

/-- TIME_SET (R20), REF_MODE_SET (R5) and TIME_FAULTS_CLEAR (R23) at a port whose role permits them. The empty payload
for the mode already in force and the loss of a waiting message's record are the model's choices (log entries 18 and 13). -/
def Obligations.TimeBaseRequests : Prop :=
  ∀ (p : Port) (tag : Byte) (s : State), PortFree p s → p ≠ .l3 →
    (∀ day sec, day ≤ 65535 → sec ≤ 86399 → s.ref.mode ≠ .full → exec (.timeSet p tag day sec) s =
      .next (answered p tag .ok (be2 day ++ be3 sec)
        { s with tb := { s.tb with pendingLabel := some { day := day, sec := sec } } })) ∧
    (∀ day sec, day ≤ 65535 → sec ≤ 86399 → s.ref.mode = .full → exec (.timeSet p tag day sec) s =
      .next (answered p tag .state [] s)) ∧
    (∀ day sec, 86399 < sec → exec (.timeSet p tag day sec) s = .next (answered p tag .range [] s)) ∧
    exec (.timeFaultsClear p tag) s = .next (answered p tag .ok
      (be1 s.tb.missed ++ be1 s.tb.outlier ++ be1 s.tb.mismatch)
      { s with tb := { s.tb with missed := 0, outlier := 0, mismatch := 0 }, ref := { s.ref with continuity := none } }) ∧
    (p = .l1 → ∀ m : RefMode, m ≠ s.ref.mode →
      let s' := { s with
        tb := { s.tb with
          missed := 0, good := 0, outlier := 0, mismatch := 0, curMark := false, prevMark := false
          pendingLabel := if m = .full then none else s.tb.pendingLabel
          holdover := if m = .off ∧ s.tb.disc = .holdover then 0 else s.tb.holdover }
        ref := { s.ref with
          mode := m, continuity := none
          message := s.ref.message.filter (fun x => decide (x.pairing ≠ .waiting)) } }
      exec (.refModeSet p tag m.code) s = .next (answered p tag .ok (be1 m.code)
        (if m = .off ∧ s.tb.disc ≠ .unset ∧ s.tb.disc ≠ .free then
          post .stateChanged 0 (pair s.tb.disc.code 1) { s' with tb := { s'.tb with disc := .free } } else s'))) ∧
    (p = .l1 → exec (.refModeSet p tag s.ref.mode.code) s = .next (answered p tag .ok [] s)) ∧
    (p = .l1 → ∀ n, 2 < n → exec (.refModeSet p tag n) s = .next (answered p tag .range [] s))

/-- OFFSET_SET (R32) makes an offset change pending; a boundary applies it once its instant has come (R33), posts
OFFSET_APPLIED under the label of the second that begins, and the blocks then take the offset as changed. The command
OFFSET_CHANGE_APPLIED is the boundary that applies one; where the count has not reached L or the boundary would apply
none it changes nothing (the model's choice, log entry 11). The mark of validity at the last boundary is the model's
own (log entry 14), and the order of the boundary's notices is log entry 47. -/
def Obligations.OffsetChanges : Prop :=
  (∀ tag s o day sec i, PortFree .l1 s → -720 ≤ o → o ≤ 840 → o % 15 = 0 → instantOf day sec = some i →
    (i = .next ∨ s.tb.label ≠ none) → exec (.offsetSet .l1 tag o day sec) s =
      .next (answered .l1 tag .ok (beS2 o ++ beInstant i)
        { s with civil := { s.civil with change := some { offset := o, instant := i } } })) ∧
  (∀ tag s o day sec, PortFree .l1 s → (o % 15 ≠ 0 ∨ o < -720 ∨ 840 < o ∨ instantOf day sec = none) →
    exec (.offsetSet .l1 tag o day sec) s = .next (answered .l1 tag .range [] s)) ∧
  (∀ tag s o day sec l, PortFree .l1 s → -720 ≤ o → o ≤ 840 → o % 15 = 0 → instantOf day sec = some (.label l) →
    s.tb.label = none → exec (.offsetSet .l1 tag o day sec) s = .next (answered .l1 tag .unset [] s)) ∧
  (∀ s t c, exec .localSecondBoundary s = .next t → s.tb.len ≤ s.tb.count + 1 → s.civil.change = some c →
    ((c.instant = .next ∨ ∃ l i, t.tb.label = some l ∧ c.instant = .label i ∧ l.atOrAfter i = true) →
      t.civil = { s.civil with offset := c.offset, change := none }) ∧
    (c.instant ≠ .next → (∀ l i, t.tb.label = some l → c.instant = .label i → l.atOrAfter i = false) →
      t.civil = s.civil)) ∧
  (∀ (s : State) c, s.civil.change = some c → applyOffset s = post .offsetApplied 0 (BitVec.ofInt 16 c.offset)
    { s with civil := { s.civil with offset := c.offset, change := none } }) ∧
  (∀ (s : State) c old delta, s.civil.change = some c → changeDue s = true →
    let u := applyOffset s
    let becameValid := s.tb.label.isSome && !s.tb.validAtBoundary
    let v := dateChange old becameValid u
    let w := { v with tb := { v.tb with validAtBoundary := s.tb.label.isSome } }
    newSecondTail old delta s = if s.warm.held = none then blocksBoundary old delta true becameValid w else w) ∧
  (∀ s t c, exec .localSecondBoundary s = .next t → s.tb.len ≤ s.tb.count + 1 → s.civil.change = some c →
    c.instant = .next → s.warm.held ≠ none → s.warm.notices.length ≤ 11 →
    ({ kind := .offsetApplied, subject := 0, detail := BitVec.ofInt 16 c.offset, stamp := t.now, label := t.tb.label } :
      Notice) ∈ t.warm.notices) ∧
  (∀ s c, s.civil.change = some c →
    let next := if s.tb.pendingLabel = none then s.tb.label.map Label.advance else s.tb.pendingLabel
    (s.tb.len ≤ s.tb.count + 1 →
      (c.instant = .next ∨ ∃ l i, next = some l ∧ c.instant = .label i ∧ l.atOrAfter i = true) →
      exec .offsetChangeApplied s = exec .localSecondBoundary s) ∧
    ((s.tb.count + 1 < s.tb.len ∨
      (∃ i, c.instant = .label i ∧ ∀ l, next = some l → l.atOrAfter i = false)) →
      exec .offsetChangeApplied s = .next s)) ∧
  (∀ s, s.civil.change = none → exec .offsetChangeApplied s = .next s)

/-- CIVIL_CONFIG (R35): L1 sets the Sunday class, ORDINARY or FEAST, and every lookup made after it takes the new one;
nothing already done changes. FEAST after cold start; warm reset keeps it. -/
def Obligations.TheSundayClass : Prop :=
  (∀ tag s cls, PortFree .l1 s → cls ≤ 1 →
    let c : DayClass := if cls = 0 then .ordinary else .feast
    let t := { s with civil := { s.civil with sundayClass := c } }
    exec (.civilConfig .l1 tag cls) s = .next (answered .l1 tag .ok (be1 cls) t) ∧
    ∀ d, (∀ e ∈ s.days.entries, e.date ≠ d) → weekday d = 6 → t.classOf d = c) ∧
  (∀ tag s cls, PortFree .l1 s → 1 < cls → exec (.civilConfig .l1 tag cls) s = .next (answered .l1 tag .range [] s)) ∧
  (∀ p tag s cls, PortFree p s → p ≠ .l1 → exec (.civilConfig p tag cls) s = .next (answered p tag .denied [] s)) ∧
  (∀ s t, exec .coldStart s = .next t → t.civil.sundayClass = .feast) ∧
  (∀ s t, exec .warmResetEntry s = .next t → t.civil.sundayClass = s.civil.sundayClass) ∧
  (∀ s t, exec .warmResetCompletion s = .next t → t.civil.sundayClass = s.civil.sundayClass)

/-- DAYCLASS_WRITE (R38) and SUN_WRITE (R42): an accepted request applies its pairs in order and raises the revision;
a pair decides its own date alone and keeps every other; the list stands ascending in R31's comparison (R36), and
where dates written in UNSET span more than half the circle in the order of log entry 41; a written run stands in the
table; RANGE and STALE change nothing. A change of civil date (R39, R148), at a boundary or a relabel, records the
date that ended with its class and removes the entries dated before the new one; so does the beginning of valid time,
without the record (log entry 14). -/
def Obligations.DayClassesAndSunTable : Prop :=
  (∀ tag s revision replace pairs es, PortFree .l1 s → replace ≤ 1 → pairsOf pairs = some es → pairs ≠ [] →
    pairs.length ≤ 16 → (∀ c, s.civilNow = some c → ∀ e ∈ es, dayBefore e.date c.day = false) →
    (revision = 255 ∨ revision = s.days.revision) →
    let list := dateOrder ((s.civilNow.map (·.day)).getD 0) (es.foldl applyPair (if replace = 1 then [] else s.days.entries))
    exec (.dayclassWrite .l1 tag revision replace pairs) s = .next (
      if list.length ≤ 64 then
        answered .l1 tag .ok (be1 (nextRevision s.days.revision) ++ be1 list.length)
          { s with days := { entries := list, revision := nextRevision s.days.revision } }
      else answered .l1 tag .full (be1 s.days.entries.length) s)) ∧
  (∀ xs e d, (applyPair xs e).find? (fun x => x.date == d) =
    if d = e.date then (if e.cls = .ordinary then none else some e) else xs.find? (fun x => x.date == d)) ∧
  (∀ (xs : List DayEntry) e, (xs.map (·.date)).Nodup → ((applyPair xs e).map (·.date)).Nodup) ∧
  (∀ a xs, (dateOrder a xs).Perm xs) ∧
  (∀ a (xs : List DayEntry) d0, (∀ x ∈ xs, x.date ≤ 65535 ∧ (x.date + 65536 - d0 % 65536) % 65536 < 32768) →
    (xs.map (·.date)).Nodup → (dateOrder a xs).Pairwise (fun x y => dayBefore x.date y.date = true)) ∧
  (∀ a (xs : List DayEntry), (∀ x ∈ xs, x.date ≤ 65535 ∧ ∃ y ∈ xs, dayBefore y.date x.date = true) →
    (dateOrder a xs).Pairwise (fun x y =>
      (x.date + 65536 - a % 65536) % 65536 ≤ (y.date + 65536 - a % 65536) % 65536)) ∧
  (∀ tag s revision replace pairs, PortFree .l1 s →
    (1 < replace ∨ pairsOf pairs = none ∨ pairs = [] ∨ 16 < pairs.length ∨
      ∃ c es, s.civilNow = some c ∧ pairsOf pairs = some es ∧ ∃ e ∈ es, dayBefore e.date c.day = true) →
    exec (.dayclassWrite .l1 tag revision replace pairs) s = .next (answered .l1 tag .range [] s)) ∧
  (∀ tag s revision replace pairs es, PortFree .l1 s → replace ≤ 1 → pairsOf pairs = some es → pairs ≠ [] →
    pairs.length ≤ 16 → (∀ c, s.civilNow = some c → ∀ e ∈ es, dayBefore e.date c.day = false) →
    revision ≠ 255 → revision ≠ s.days.revision →
    exec (.dayclassWrite .l1 tag revision replace pairs) s = .next (answered .l1 tag .stale (be1 s.days.revision) s)) ∧
  (∀ p tag s revision first entries es, Reaches .sunWrite p s → sunEntriesOf entries = some es → 1 ≤ first →
    entries ≠ [] → entries.length ≤ 60 → first + entries.length ≤ 367 →
    ((revision = 255 ∨ revision = s.sun.revision) →
      ∃ t, exec (.sunWrite p tag revision first entries) s =
          .next (answered p tag .ok (be1 (nextRevision s.sun.revision)) t) ∧
        Frame [.sun] s t ∧ t.sun.revision = nextRevision s.sun.revision ∧
        ∀ i (h : i < 366), some t.sun.entries[i] =
          if first - 1 ≤ i ∧ i < first - 1 + es.length then es[i - (first - 1)]? else some s.sun.entries[i]) ∧
    (revision ≠ 255 → revision ≠ s.sun.revision →
      exec (.sunWrite p tag revision first entries) s = .next (answered p tag .stale (be1 s.sun.revision) s))) ∧
  (∀ p tag s revision first entries, Reaches .sunWrite p s →
    (sunEntriesOf entries = none ∨ first = 0 ∨ entries = [] ∨ 60 < entries.length ∨ 367 < first + entries.length) →
    exec (.sunWrite p tag revision first entries) s = .next (answered p tag .range [] s)) ∧
  (∀ s t o c, exec .localSecondBoundary s = .next t → s.tb.len ≤ s.tb.count + 1 → s.civilNow = some o →
    t.civilNow = some c →
    (o.day ≠ c.day → t.days = { s.days with entries := dateOrder c.day (s.days.entries.filter (fun e => !dayBefore e.date c.day)) } ∧
      t.cal.yesterday = some { date := o.day, cls := s.classOf o.day }) ∧
    (o.day = c.day → t.cal.yesterday = s.cal.yesterday ∧ (s.tb.validAtBoundary = true → t.days = s.days))) ∧
  (∀ s t c, exec .localSecondBoundary s = .next t → s.tb.len ≤ s.tb.count + 1 → s.civilNow = none →
    t.civilNow = some c → t.cal.yesterday = s.cal.yesterday ∧
    t.days = { s.days with entries := dateOrder c.day (s.days.entries.filter (fun e => !dayBefore e.date c.day)) }) ∧
  (∀ (s : State) delta l o, s.civilNow = some o →
    let c := civilOf s.civil.offset l
    let t := relabel delta l s
    (o.day ≠ c.day → t.days = { s.days with entries := dateOrder c.day (s.days.entries.filter (fun e => !dayBefore e.date c.day)) } ∧
      t.cal.yesterday = some { date := o.day, cls := s.classOf o.day }) ∧
    (o.day = c.day → t.days = s.days ∧ t.cal.yesterday = s.cal.yesterday))

/-- Whatever step is taken, the Time Base stays within its bounds. -/
def Obligations.TheTimeBaseStaysWithinItsBounds : Prop :=
  ∀ s t, TimeBaseOk s → step s = .next t → TimeBaseOk t

/-- Dates and day numbers name each other (R29, R31): every day number 0 to 65,535 has a date that passes the check of
requests and gives it back, days in order have their weekdays in order, and a date that passes names its own day. -/
def Obligations.DatesAndDayNumbersNameEachOther : Prop :=
  (∀ n, n ≤ 65535 → checkDate (dateOf n) = some n) ∧
  (∀ d n, checkDate d = some n → n ≤ 65535 ∧ dateOf n = d) ∧
  (∀ n, weekday (n + 1) = (weekday n + 1) % 7 ∧ weekday 0 = 5)

/-! ### Dials -/

/-- A full decision (R49): HOLD while UNSET; otherwise the first row of the table that applies, with the hold limit
and the fast interval as configured now. A change posts DIAL_STATE, no change nothing. The target lies below 1,440,
the distance brings the hands onto it (R45), and advancing is the quicker way exactly where the hands lead by more
than 48 half-minutes for each second of f. -/
def Obligations.TheFullDecisionOfADialAndItsDistance : Prop :=
  (∀ (d : Fin 4) (s : State), (s.dial d).fitted = true →
     ((s.dial d).state = .run ∨ (s.dial d).state = .advance ∨ (s.dial d).state = .hold) →
     let r := s.dial d
     let enters (st : DialState) := if r.state = st then s
       else post .dialState (d.1 + 1) (pair r.state.code st.code) (s.setDial d { r with state := st })
     (s.tb.label = none → fullDecision d s = enters .hold) ∧
     (∀ l, s.tb.label = some l →
       let dist := dialDistance (dialTarget (civilOf s.civil.offset l)) r.position
       let ahead := 1440 - dist
       (dist = 0 → fullDecision d s = enters .run) ∧
       (dist ≠ 0 → ahead ≤ r.holdLimit → fullDecision d s = enters .hold) ∧
       (r.holdLimit < ahead → dist * r.fast < ahead * (30 - r.fast) → dist = 1 → fullDecision d s = enters .run) ∧
       (r.holdLimit < ahead → dist * r.fast < ahead * (30 - r.fast) → 2 ≤ dist → fullDecision d s = enters .advance) ∧
       (dist ≠ 0 → r.holdLimit < ahead → ahead * (30 - r.fast) ≤ dist * r.fast → fullDecision d s = enters .hold))) ∧
  ((∀ c : Label, dialTarget c < 1440) ∧
   (∀ c : Label, dialTarget c = (c.sec / 30) % 1440) ∧
   (∀ t p, t < 1440 → p < 1440 → dialDistance t p < 1440 ∧ (p + dialDistance t p) % 1440 = t) ∧
   (∀ d a f : Nat, d + a = 1440 → f ≤ 30 → (d * f < a * (30 - f) ↔ 48 * f < a)))

/-- The impulses of a dial and its continuing decisions (R46, R47, R48, R50, R51): one begins where its conditions
hold and nowhere else, drives the pair in the opposite polarity, and ends with its width, judged delivered, missed or
superseded; then the decision owed is taken. A continuing decision leaves HOLD only at distance 0, ADVANCE at 0 or 1,
and in RUN is a full one. A cause of decision is decided at once with no impulse in flight and owed otherwise. An
impulse start without its conditions and an impulse end before its width change nothing (log entry 2). -/
def Obligations.TheImpulsesOfADial : Prop :=
  ∀ (d : Fin 4) (s : State),
    let r := s.dial d
    (∀ l, s.warm.held = none → s.tb.label = some l → r.fitted = true → s.supply.state = .mains → r.flight = none →
      (∀ x, r.lastStart = some x → x + r.fast * 1000 ≤ s.now) →
      let dist := dialDistance (dialTarget (civilOf s.civil.offset l)) r.position
      ((r.state = .run ∧ dist = 1) ∨ (r.state = .advance ∧ 2 ≤ dist)) →
      let t := s.setDial d { r with
        flight := some { polarity := r.polarity.opposite, start := s.now, width := r.width, superseded := false,
                         confirmed := false, watched := r.confirm, startLevel := s.lines.dialConf[d] }
        lastStart := some s.now }
      exec (.dialImpulseStart d) s = .next t ∧
      t.dialA d = (r.polarity == .negative) ∧ t.dialB d = (r.polarity == .positive)) ∧
    ((s.warm.held ≠ none ∨ s.tb.label = none ∨ r.fitted = false ∨ s.supply.state = .battery ∨ r.flight ≠ none ∨
      (r.state ≠ .run ∧ r.state ≠ .advance) ∨ (∃ x, r.lastStart = some x ∧ s.now < x + r.fast * 1000)) →
      exec (.dialImpulseStart d) s = .next s) ∧
    (∀ l, s.tb.label = some l →
      let dist := dialDistance (dialTarget (civilOf s.civil.offset l)) r.position
      ((r.state = .run ∧ dist ≠ 1) ∨ (r.state = .advance ∧ dist < 2)) → exec (.dialImpulseStart d) s = .next s) ∧
    (∀ i, s.warm.held = none → r.flight = some i → i.start + i.width ≤ s.now →
      exec (.dialImpulseEnd d) s = .next (endDecision d (
        if i.superseded = true then s.setDial d { r with flight := none }
        else if i.watched = false ∨ i.confirmed = true then
          s.setDial d { r with flight := none, position := (r.position + 1) % 1440, polarity := i.polarity, misses := 0 }
        else
          let n := min 3 (r.misses + 1)
          let missed := post .dialMiss (d.1 + 1) (dialMissDetail n r.position)
            (s.setDial d { r with flight := none, misses := n })
          if n = 3 ∧ (r.state = .run ∨ r.state = .advance ∨ r.state = .hold) then enterDial d .fault missed else missed))) ∧
    ((s.warm.held ≠ none ∨ r.flight = none ∨ ∃ i, r.flight = some i ∧ s.now < i.start + i.width) →
      exec (.dialImpulseEnd d) s = .next s) ∧
    (endDecision d s =
      if r.fitted = true ∧ (r.state = .run ∨ r.state = .advance ∨ r.state = .hold) then
        (if r.owed = .full then fullDecision d (s.setDial d { r with owed := .none })
         else continuingDecision d (s.setDial d { r with owed := .none }))
      else s.setDial d { r with owed := .none }) ∧
    (∀ l, s.tb.label = some l →
      let dist := dialDistance (dialTarget (civilOf s.civil.offset l)) r.position
      let run := post .dialState (d.1 + 1) (pair r.state.code DialState.run.code) (s.setDial d { r with state := .run })
      (r.state = .hold → continuingDecision d s = if dist = 0 then run else s) ∧
      (r.state = .advance → continuingDecision d s = if dist ≤ 1 then run else s) ∧
      (r.state = .run → continuingDecision d s = fullDecision d s)) ∧
    (s.tb.label = none → continuingDecision d s = s) ∧
    (fullCause d s =
      if r.fitted = true ∧ (r.state = .run ∨ r.state = .advance ∨ r.state = .hold) then
        (if r.flight = none then fullDecision d s else s.setDial d { r with owed := .full })
      else s) ∧
    (continuingCause d s =
      if r.fitted = true ∧ (r.state = .run ∨ r.state = .advance ∨ r.state = .hold) then
        (if r.flight = none then continuingDecision d s
         else s.setDial d { r with owed := if r.owed = .full then .full else .continuing })
      else s) ∧
    (∀ closed, exec (.dialConfChange d closed) s =
      let moved := s.setLines { s.lines with dialConf := s.lines.dialConf.set d closed }
      .next (match r.flight with
        | none => moved
        | some i => if i.watched = true ∧ closed ≠ i.startLevel then
            moved.setDial d { r with flight := some { i with confirmed := true } } else moved))

/-- The requests of a dial (R58 to R61), each at a port whose role permits it. -/
def Obligations.TheRequestsOfADial : Prop :=
  ∀ (d : Fin 4) (p : Port) (tag : Byte) (s : State), PortFree p s →
    let r := s.dial d
    (∀ position (pol : Polarity), p ≠ .l3 → position ≤ 1439 → r.fitted = true →
      let r' := { r with position := position, polarity := pol, misses := 0 }
      let t := if r.state = .stopped then
          s.setDial d { r' with flight := r.flight.map (fun i => { i with superseded := true }) }
        else if r.flight ≠ none then
          s.setDial d { r' with owed := .full, flight := r.flight.map (fun i => { i with superseded := true }) }
        else fullDecision d (s.setDial d r')
      exec (.dialSet p tag (d.1 + 1) position pol.code) s = .next (answered p tag .ok
        (be2 position ++ be1 pol.code ++ be1 (t.dial d).state.code ++ beFlag ((t.dial d).owed == .full)) t)) ∧
    (∀ position pol, p ≠ .l3 → 1439 < position → exec (.dialSet p tag (d.1 + 1) position pol) s =
      .next (answered p tag .range [] s)) ∧
    (p ≠ .l3 → r.fitted = false →
      (∀ position (pol : Polarity), position ≤ 1439 →
        exec (.dialSet p tag (d.1 + 1) position pol.code) s = .next (answered p tag .notFitted [] s)) ∧
      exec (.dialStop p tag (d.1 + 1)) s = .next (answered p tag .notFitted [] s) ∧
      exec (.dialStart p tag (d.1 + 1)) s = .next (answered p tag .notFitted [] s)) ∧
    (p ≠ .l3 → r.fitted = true → r.state = .unknown →
      exec (.dialStop p tag (d.1 + 1)) s = .next (answered p tag .state [] s) ∧
      exec (.dialStart p tag (d.1 + 1)) s = .next (answered p tag .state [] s)) ∧
    (p ≠ .l3 → r.fitted = true → r.state ≠ .unknown →
      exec (.dialStop p tag (d.1 + 1)) s = .next (answered p tag .ok (be1 4 ++ be2 r.position)
        (if r.state = .stopped then s
         else post .dialState (d.1 + 1) (pair r.state.code 4) (s.setDial d { r with state := .stopped, owed := .none })))) ∧
    (p ≠ .l3 → r.fitted = true → r.state ≠ .unknown →
      let t := if r.flight = none then fullDecision d (s.setDial d { r with misses := 0 })
        else if r.state = .stopped ∨ r.state = .fault then
          enterDial d .hold (s.setDial d { r with misses := 0, owed := .full })
        else s.setDial d { r with misses := 0, owed := .full }
      exec (.dialStart p tag (d.1 + 1)) s = .next (answered p tag .ok
        (be1 (t.dial d).state.code ++ beFlag ((t.dial d).owed == .full)) t)) ∧
    (∀ a : DialArgs, p = .l1 → a.dial = d.1 + 1 → a.fitted ≤ 1 → a.confirm ≤ 1 →
      (a.revision = 255 ∨ a.revision = r.revision) →
      let width := clamp 200 2000 a.width
      let r' := { r with
        fitted := a.fitted == 1, confirm := a.confirm == 1, width := width, fast := fastFor width a.fast
        holdLimit := clamp 0 720 a.hold, revision := nextRevision r.revision
        misses := if r.confirm = (a.confirm == 1) then r.misses else 0 }
      let t := if r.fitted = (a.fitted == 1) then s.setDial d r'
        else enterDial d .unknown (s.setDial d { r' with flight := none, owed := .none })
      exec (.dialConfig p tag a) s = .next (answered p tag .ok (t.dial d).configBytes t)) ∧
    (∀ a : DialArgs, p = .l1 → a.dial = d.1 + 1 → a.fitted ≤ 1 → a.confirm ≤ 1 →
      a.revision ≠ 255 → a.revision ≠ r.revision →
      exec (.dialConfig p tag a) s = .next (answered p tag .stale (be1 r.revision) s))

/-- Whatever step is taken, the dials' records stay in their ranges (R44), the tunes within the pool (R110), the strike
queue in its order and its bounds (R132), at most eight hammers are energised (R125, R136), and a channel that is not
configured is OFF or COOLING (R162). -/
def Obligations.RecordsKeepTheirRanges : Prop :=
  ((∀ s t, DialsOk s → step s = .next t → DialsOk t) ∧ (∀ s t, PoolOk s → step s = .next t → PoolOk t)) ∧
  ((∀ s t, QueueOk s → step s = .next t → QueueOk t) ∧ (∀ s t, SharesOk s → step s = .next t → SharesOk t)) ∧
  (∀ s t, ChannelsOk s → step s = .next t → ChannelsOk t)

/-! ### Holders and guards -/

/-- A guard's motion (R73 to R76, R80): it waits for a hammer pulse, halts on battery, completes at once at its
contact and runs under a travel deadline otherwise; engage and release set out only from the states their rules name.
Its limit contacts (R70, R76, R77, R78): a level settles after 20 ms, one that returns before is not seen; a settled
contact completes a running motion or loses a stop; a motion past its deadline is a fault, and a fault takes a
SERVICE bell from its session. The contacts of a guard not fitted are followed too (log entry 25). A change to the
level a contact has, a settling before its 20 ms and a timeout before its deadline change nothing (log entry 2). -/
def Obligations.HowAGuardMoves : Prop :=
  (∀ (b : Fin 16) (s : State),
     let r := s.bell b
     let g := r.guard
     let idle (x : Motion) := s.setGuard b { g with motion := x, deadline := none }
     (r.pulseEnd ≠ none → guardBegin b s = idle .waitingPulse) ∧
     (r.pulseEnd = none → s.supply.state = .battery → guardBegin b s = idle .halted) ∧
     (r.pulseEnd = none → s.supply.state = .mains → g.atTarget = true → guardBegin b s = guardComplete b s) ∧
     (r.pulseEnd = none → s.supply.state = .mains → g.atTarget = false → guardBegin b s =
       s.setGuard b { g with motion := .running, deadline := some (s.now + r.config.travel * 1000) }) ∧
     (∀ st : GuardState, st = (if g.state = .engaging then .engaged else .disengaged) → guardComplete b s =
       tryStartOf b (post .guardReady (b.1 + 1) (pair 0 st.code)
         (s.setGuard b { g with state := st, motion := .idle, deadline := none }))) ∧
     (r.config.guardFitted = true → (g.state = .disengaged ∨ g.state = .releasing) → guardEngage b s =
       guardBegin b (s.setGuard b { g with direction := .engage, state := .engaging })) ∧
     (r.config.guardFitted = true → (g.state = .engaging ∨ g.state = .engaged ∨ g.state = .fault) → guardEngage b s =
       s.setGuard b { g with direction := .engage }) ∧
     (r.config.guardFitted = true → r.holder = .free → (s.swing b).state = .atRest →
       (g.state = .engaged ∨ g.state = .engaging) → guardRelease b s =
         guardBegin b (s.setGuard b { g with direction := .release, state := .releasing })) ∧
     (r.config.guardFitted = true → r.holder = .free → (s.swing b).state ≠ .atRest → guardRelease b s =
       s.setGuard b { g with direction := .release }) ∧
     ((r.config.guardFitted = false ∨ r.holder ≠ .free) → guardRelease b s = s) ∧
     (r.config.guardFitted = false → guardEngage b s = s)) ∧
  (∀ (b : Fin 16) (c : Contact) (s : State),
     let r := s.bell b
     let g := r.guard
     let faulted (cause : GuardCause) (u : State) := leaveEarly b .free (post .guardFault (b.1 + 1)
       (guardFaultDetail cause (u.bell b).guard)
       (u.setGuard b { (u.bell b).guard with state := .fault, motion := .idle, deadline := none }))
     (∀ closed, s.contactLine b c = closed → exec (.guardContactChange b c closed) s = .next s) ∧
     (∀ closed, s.contactLine b c ≠ closed → ∃ t, exec (.guardContactChange b c closed) s = .next t ∧
       t.contactLine b c = closed ∧
       (t.bell b).guard = g.setContact c { g.contact c with
         since := if closed = (g.contact c).settled then none else some s.now } ∧
       (∀ b', b' ≠ b → t.bell b' = s.bell b') ∧ Frame [.guards, .lines] s t) ∧
     ((s.warm.held ≠ none ∨ (g.contact c).since = none ∨ ∃ x, (g.contact c).since = some x ∧ s.now < x + 20) →
       exec (.guardContactSettled b c) s = .next s) ∧
     (∀ x, s.warm.held = none → (g.contact c).since = some x → x + 20 ≤ s.now →
       let level := s.contactLine b c
       let u := s.setGuard b (g.setContact c { settled := level, since := none })
       exec (.guardContactSettled b c) s = .next (
         if r.config.guardFitted = false then u
         else if g.state = .engaged ∧ c = .engaged ∧ level = false then faulted .lostEngaged u
         else if g.state = .disengaged ∧ c = .disengaged ∧ level = false then faulted .lostDisengaged u
         else if g.motion = .running ∧ level = true ∧
           ((g.state = .engaging ∧ c = .engaged) ∨ (g.state = .releasing ∧ c = .disengaged)) then guardComplete b u
         else u)) ∧
     (∀ x, s.warm.held = none → g.motion = .running → g.deadline = some x → x ≤ s.now →
       exec (.guardTravelTimeout b) s = .next (faulted (if g.state = .engaging then .travelEngage else .travelRelease) s)) ∧
     ((s.warm.held ≠ none ∨ g.motion ≠ .running ∨ g.deadline = none ∨ ∃ x, g.deadline = some x ∧ s.now < x) →
       exec (.guardTravelTimeout b) s = .next s))

/-- Who has a bell after a CLAIM or a RELEASE (R66, R67, R68): ROPES from FREE with a guard fitted, MAINT from FREE
or from a session, each bell of the mask decided alone, ascending, a bell leaving its session whole before the next
(log entry 42); a release only by the holder. The request answers OK with what was granted and refused; a change of
holder posts CLAIM_CHANGED and tells the guard (R65, R73, R74). -/
def Obligations.ClaimsAndReleases : Prop :=
  (∀ p tag kind mask s, Reaches .claim p s → kind ≤ 1 → (kind = 0 → p ≠ .l1) → mask % 65536 ≠ 0 →
    let d := decideBells (claimBell p (kind == 0)) (maskBells (BitVec.ofNat 16 mask)) s
    exec (.claim p tag kind mask) s = .next (answered p tag .ok
      (bellsPayload d.2 (fun b => be1 (d.1.bell b).guard.state.code)) d.1) ∧
    ∀ b, (d.1.bell b).holder =
      if mask.testBit b.1 = true then
        (match (s.bell b).holder with
         | .free => if kind = 0 then (if (s.bell b).config.guardFitted = true then .ropes else .free) else .maint p
         | .service n => if kind = 0 then .service n else .maint p
         | h => h)
      else (s.bell b).holder) ∧
  (∀ p tag mask s, Reaches .release p s → mask % 65536 ≠ 0 →
    let d := decideBells (releaseBell p) (maskBells (BitVec.ofNat 16 mask)) s
    exec (.release p tag mask) s = .next (answered p tag .ok (bellsPayload d.2 (fun _ => [0x00])) d.1) ∧
    ∀ b, (d.1.bell b).holder =
      if mask.testBit b.1 = true then
        (match (s.bell b).holder with
         | .ropes => if p = .l2 then .free else .ropes
         | .maint q => if q = p then .free else .maint q
         | h => h)
      else (s.bell b).holder) ∧
  (∀ tag mask s, PortFree .l1 s → exec (.claim .l1 tag 0 mask) s = .next (answered .l1 tag .denied [] s)) ∧
  (∀ p tag mask s, Reaches .release p s → mask % 65536 = 0 →
    exec (.release p tag mask) s = .next (answered p tag .range [] s)) ∧
  (∀ b h s, (s.bell b).holder ≠ h →
    let t := post .claimChanged (b.1 + 1) (claimDetail (s.bell b).holder h) (s.setBell b { s.bell b with holder := h })
    setHolder b h s = if h = .free then guardRelease b t
      else if (s.bell b).holder = .free then guardEngage b t else t) ∧
  (∀ b s, setHolder b (s.bell b).holder s = s)

/-- BELL_CONFIG (R81, R82) writes a bell that is free, at rest and not moving its guard, its timing clamped; a guard
that ceases to be fitted goes to DISENGAGED, one that begins to be is read: its settled contacts give its state, two
alike a fault, and it is reconciled with the holder (R72). BELL_FAULT_CLEAR (R83, R93) first lets a faulted swing
settle and then sets a faulted guard moving toward its commanded stop, a release only of a bell at rest; it answers
STATE where neither could be done. Log entries 17 and 19 say which payload values are the model's. -/
def Obligations.BellConfigurationAndFaults : Prop :=
  (∀ tag a s (b : Fin 16) c, PortFree .l1 s → a.bell = b.1 + 1 →
    bellSettings b a (s.bell b).config.revision = some c → (a.revision = 255 ∨ a.revision = (s.bell b).config.revision) →
    (s.bell b).holder = .free → (s.swing b).state = .atRest → (s.bell b).guard.state ≠ .engaging →
    (s.bell b).guard.state ≠ .releasing →
    let u := s.setBell b { s.bell b with config := c }
    let v := if (s.bell b).config.sensor = true ∧ c.sensor = false then
        u.setSwing b { s.swing b with history := [], lastPulse := none } else u
    exec (.bellConfig .l1 tag a) s = .next (answered .l1 tag .ok c.bytes
      (if (s.bell b).config.guardFitted = true ∧ c.guardFitted = false then
        v.setGuard b { (s.bell b).guard with state := .disengaged, direction := .release, motion := .idle, deadline := none }
       else if (s.bell b).config.guardFitted = false ∧ c.guardFitted = true then readGuard b v else v))) ∧
  (∀ b a revision c, bellSettings b a revision = some c →
    c.width = clamp 20 200 a.width ∧ c.recovery = clamp 150 3000 a.recovery ∧ c.travel = clamp 1 20 a.travel ∧
    c.period = clamp 100 400 a.period ∧ c.settle = clamp 4 30 a.settle ∧ c.revision = nextRevision revision ∧
    c.policy ≠ .substitute b ∧ (c.drive = true → c.sensor = true ∧ c.guardFitted = true)) ∧
  (∀ tag a s (b : Fin 16) c, PortFree .l1 s → a.bell = b.1 + 1 →
    bellSettings b a (s.bell b).config.revision = some c → (a.revision = 255 ∨ a.revision = (s.bell b).config.revision) →
    ((s.bell b).holder ≠ .free ∨ (s.swing b).state ≠ .atRest) →
    exec (.bellConfig .l1 tag a) s = .next (answered .l1 tag .busy [] s)) ∧
  (∀ p tag s (b : Fin 16), Reaches .bellFaultClear p s →
    let w := s.swing b
    let g := (s.bell b).guard
    let s1 := if w.state = .fault then s.setSwing b { w with
        state := .stopping, fault := .none
        settleDeadline := some (max s.now (w.lastPulse.getD 0) + (s.bell b).config.settle * 1000) } else s
    let faulted := g.state == .fault && (s.bell b).config.guardFitted
    let retried := faulted && (g.direction == .engage || w.state == .atRest)
    let t := if retried = true then
        guardBegin b (s1.setGuard b { g with state := if g.direction = .engage then .engaging else .releasing }) else s1
    exec (.bellFaultClear p tag (b.1 + 1)) s = .next (answered p tag
      (if w.state = .fault ∨ retried = true then .ok else .state)
      (be1 (if retried = true then 0 else if faulted = true then 1 else 2) ++ be1 (if w.state = .fault then 0 else 2) ++
        (if w.state = .fault ∨ retried = true then be1 (t.bell b).guard.state.code ++ be1 (t.swing b).state.code else [])) t) ∧
    Frame [.guards, .swings, .sessions, .notices, .ports] s t) ∧
  (∀ p tag n s, Reaches .bellFaultClear p s → (n = 0 ∨ 16 < n) →
    exec (.bellFaultClear p tag n) s = .next (answered p tag .range [] s)) ∧
  (∀ (b : Fin 16) (s : State),
    let r := s.bell b
    let g := r.guard
    let read (st : GuardState) := s.setGuard b { g with
      state := st, direction := if r.holder = .free then .release else .engage, motion := .idle, deadline := none }
    (g.atEng.settled = true → g.atDis.settled = false → readGuard b s =
      if r.holder = .free then guardRelease b (read .engaged) else read .engaged) ∧
    (g.atEng.settled = false → g.atDis.settled = true → readGuard b s =
      if r.holder = .free then read .disengaged else guardEngage b (read .disengaged)) ∧
    (g.atEng.settled = g.atDis.settled →
      readGuard b s = post .guardFault (b.1 + 1) (guardFaultDetail .contactRead g) (read .fault)))

/-! ### Swings -/

/-- A sensor pulse (R86 to R88, R90 to R92): read with a sensor fitted, 250 ms after the one before; it sets a bell at
rest drifting, puts a settling one off, and the third interval in a row within a quarter of the nominal period makes a
starting bell SWINGING. -/
def Obligations.ASensorPulse : Prop :=
  ∀ (b : Fin 16) (s : State),
    let w := s.swing b
    let settled := some (s.now + (s.bell b).config.settle * 1000)
    ((s.warm.held ≠ none ∨ (s.bell b).config.sensor = false ∨ ∃ x, w.lastPulse = some x ∧ s.now - x < 250) →
      exec (.sensorPulse b) s = .next s) ∧
    (∀ interval, s.warm.held = none → (s.bell b).config.sensor = true →
      (interval = w.lastPulse.map (fun x => s.now - x)) → (∀ i, interval = some i → 250 ≤ i) →
      let history := match interval with
        | none => w.history
        | some i => if 4 ≤ w.history.length then (w.history ++ [i]).drop 1 else w.history ++ [i]
      let w' := { w with history := history, lastPulse := some s.now }
      (w.state = .atRest → exec (.sensorPulse b) s = .next (
        let t := s.setSwing b { w' with state := .drifting, settleDeadline := settled }
        if (s.bell b).holder = .free then post .unexpectedMotion (b.1 + 1) (pair 0 (s.bell b).guard.state.code) t else t)) ∧
      ((w.state = .drifting ∨ w.state = .stopping) →
        exec (.sensorPulse b) s = .next (s.setSwing b { w' with settleDeadline := settled })) ∧
      ((w.state = .swinging ∨ w.state = .fault) → exec (.sensorPulse b) s = .next (s.setSwing b w')) ∧
      (w.state = .starting → interval = none → exec (.sensorPulse b) s = .next (s.setSwing b w')) ∧
      (∀ i, w.state = .starting → interval = some i →
        let nominal := (s.bell b).config.period * 10
        ((4 * i < 3 * nominal ∨ 5 * nominal < 4 * i) →
          exec (.sensorPulse b) s = .next (s.setSwing b { w' with qualifying := 0 })) ∧
        (3 * nominal ≤ 4 * i → 4 * i ≤ 5 * nominal → w.qualifying < 2 →
          exec (.sensorPulse b) s = .next (s.setSwing b { w' with qualifying := w.qualifying + 1 })) ∧
        (3 * nominal ≤ 4 * i → 4 * i ≤ 5 * nominal → 2 ≤ w.qualifying →
          exec (.sensorPulse b) s = .next (post .bellSwinging (b.1 + 1)
            (BitVec.ofNat 16 (min 65535 (history.sum / history.length)))
            (s.setSwing b { w' with state := .swinging, qualifying := 0 })))))

/-- The ends of a swing (R88, R90, R91, R92, R97): a drifting or stopping bell settles AT_REST, and a bell that does not
start in 60 s, or is lost for three nominal periods, faults with its motor off; a SERVICE bell that settles from STOPPING
becomes FREE, leaves its session, and last its guard is released, but one its session has still to start is tried for its
start (log entry 23). An event before its time changes nothing (log entry 2). -/
def Obligations.HowASwingEnds : Prop :=
  ∀ (b : Fin 16) (s : State), s.warm.held = none →
    let w := s.swing b
    let rest (left : SwingState) := post .bellAtRest (b.1 + 1) (pair 0 left.code)
      (s.setSwing b { w with state := .atRest, settleDeadline := none, history := [], lastPulse := none })
    let faulted (c : SwingFault) := leaveEarly b .free (post .swingFault (b.1 + 1) (pair 0 c.code)
      (s.setSwing b { w with state := .fault, fault := c, motor := false, motorOn := none, settleDeadline := none }))
    (∀ x, w.state = .drifting → w.settleDeadline = some x → exec (.driftSettled b) s =
      .next (if x ≤ s.now then tryStartOf b (guardRelease b (rest .drifting)) else s)) ∧
    (∀ x, w.state = .stopping → w.settleDeadline = some x → x ≤ s.now →
      (∀ n, (s.bell b).holder = .service n → exec (.stopSettled b) s = .next (
        if (s.session n).phase = .startingBells ∧ b ∈ (s.session n).unstarted then tryStart n (rest .stopping)
        else
          let t := post .claimChanged (b.1 + 1) (claimDetail (.service n) .free)
            ((rest .stopping).setBell b { s.bell b with holder := .free })
          guardRelease b (afterLeaving n (t.setSession n ((s.session n).without b))))) ∧
      ((∀ n, (s.bell b).holder ≠ .service n) → exec (.stopSettled b) s = .next (guardRelease b (rest .stopping)))) ∧
    (∀ x, w.state = .stopping → w.settleDeadline = some x → s.now < x → exec (.stopSettled b) s = .next s) ∧
    (∀ x, w.state = .starting → w.motorOn = some x → exec (.startTimeout b) s =
      .next (if x + 60000 ≤ s.now then faulted .startTimeout else s)) ∧
    (∀ x, w.state = .swinging → w.lastPulse = some x → exec (.swingLost b) s =
      .next (if x + 3 * ((s.bell b).config.period * 10) ≤ s.now then faulted .swingLost else s)) ∧
    (w.state ≠ .drifting → exec (.driftSettled b) s = .next s) ∧
    (w.state ≠ .stopping → exec (.stopSettled b) s = .next s) ∧
    (w.state ≠ .starting → exec (.startTimeout b) s = .next s) ∧
    (w.state ≠ .swinging → exec (.swingLost b) s = .next s)

/-! ### Ring sessions -/

/-- The slots of a session (R97, R98, R100). At a start slot the first bell not started, its guard engaged and its
swing at rest or drifting, is started on mains; at the end time the session stops; at a stop slot the last bell in
start order with its motor on is stopped. A bell that leaves its session early (R99) has its motor off and its holder
changed, is counted as departed; a session without bells ends (R101). That a start ends the settle deadline is log
entry 43, the order of the unstarted bells at the end time log entry 51, the order of one event's notices log entry 53,
and that a slot not due changes nothing log entry 2. -/
def Obligations.TheSlotsOfASessionAndItsLeavers : Prop :=
  (∀ (n : Fin 4) (s : State), s.warm.held = none →
     let r := s.session n
     (∀ x b, r.phase = .startingBells → r.nextStart = some x → x ≤ s.now → s.supply.state = .mains →
       r.waiting = some b → (s.bell b).guard.state = .engaged →
       ((s.swing b).state = .atRest ∨ (s.swing b).state = .drifting) →
       exec (.sessionStartSlot n) s = .next ((s.setSwing b { s.swing b with
           motor := true, motorOn := some s.now, qualifying := 0, state := .starting, settleDeadline := none }).setSession n
         (let q := r.markStarted b
          if q.unstarted = [] then { q with phase := .ringing, nextStart := none }
          else { q with nextStart := some (s.now + r.stagger * 1000) }))) ∧
     ((r.phase ≠ .startingBells ∨ r.nextStart = none ∨ (∃ x, r.nextStart = some x ∧ s.now < x) ∨
       s.supply.state = .battery ∨ (∃ b, r.waiting = some b ∧ (s.bell b).guard.state ≠ .engaged)) →
       exec (.sessionStartSlot n) s = .next s) ∧
     ((r.phase = .startingBells ∨ r.phase = .ringing) → r.endTime ≤ s.now →
       exec (.sessionEndTime n) s = .next (enterStopping n .endTime s)) ∧
     ((r.phase = .stoppingBells ∨ r.phase = .ended ∨ s.now < r.endTime) → exec (.sessionEndTime n) s = .next s) ∧
     (∀ x b, r.phase = .stoppingBells → r.nextStop = some x → x ≤ s.now → lastRunning n s = some b →
       let t := motorOff b s
       exec (.sessionStopSlot n) s = .next (t.setSession n { r with
         nextStop := if r.bells.all (fun y => !(t.swing y.bell).motor) = true then none
           else some (s.now + r.stagger * 1000) })) ∧
     ((r.phase ≠ .stoppingBells ∨ r.nextStop = none ∨ ∃ x, r.nextStop = some x ∧ s.now < x) →
       exec (.sessionStopSlot n) s = .next s)) ∧
  ((∀ b h (s : State), (∀ n, (s.bell b).holder ≠ .service n) → leaveEarly b h s = motorOff b s) ∧
   (∀ b h n (s : State), (s.bell b).holder = .service n → h ≠ .service n →
     let t := leaveEarly b h s
     (t.bell b).holder = h ∧ (t.swing b).motor = false ∧ (∀ x ∈ (t.session n).bells, x.bell ≠ b) ∧
     (t.session n).departed = (s.session n).departed ||| (1#16 <<< b.1) ∧
     (∀ b', b' ≠ b → (t.bell b').holder = (s.bell b').holder) ∧ (∀ m, m ≠ n → t.session m = s.session m)) ∧
   (∀ n (s : State), (s.session n).phase ≠ .ended → (s.session n).bells = [] →
     let cause := if (s.session n).phase = .stoppingBells then (s.session n).endCause else .emptied
     afterLeaving n s = post .sessionEnded (n.1 + 1) (pair 0 cause.code) (s.setSession n { s.session n with
       phase := .ended, nextStart := none, nextStop := none, endCause := cause })) ∧
   (∀ b (s : State), let w := s.swing b
     motorOff b s = s.setSwing b (
       if w.state = .starting ∨ w.state = .swinging then { w with
         motor := false, motorOn := none, state := .stopping
         settleDeadline := some (max s.now (w.lastPulse.getD 0) + (s.bell b).config.settle * 1000) }
       else { w with motor := false, motorOn := none })))

/-- RING_START (R96, R105) and RING_CANCEL (R106). A session takes the lowest free record and the eligible bells of the
mask; without mains, a free record or an eligible bell it is refused with the bells left out. A
cancelled session stops: its bells not started are freed at once. The payload of a cancel of a stopping session is log
entry 18, and the place of a GUARD_FAULT handed over at a creation is log entry 50. -/
def Obligations.StartingAndCancellingASession : Prop :=
  (∀ p tag mask stagger duration s, Reaches .ringStart p s → mask % 65536 ≠ 0 →
    let m := BitVec.ofNat 16 mask
    let out := leftOutOf (maskBells m) s
    let taken := (maskBells m).filter (fun b => (leftOutReason b s).isNone)
    (s.supply.state = .battery →
      exec (.ringStart p tag mask stagger duration) s = .next (answered p tag .state (beLeftOut out) s)) ∧
    (s.supply.state = .mains → (∀ n, (s.session n).phase ≠ .ended) →
      exec (.ringStart p tag mask stagger duration) s = .next (answered p tag .full (beLeftOut out) s)) ∧
    (∀ n, s.supply.state = .mains → (s.session n).phase = .ended → taken = [] →
      exec (.ringStart p tag mask stagger duration) s = .next (answered p tag
        (if out.all (fun x => x.reason == .notFitted) = true then .notFitted else .busy) (beLeftOut out) s)) ∧
    (∀ n, s.supply.state = .mains → (s.session n).phase = .ended → (∀ k, k < n → (s.session k).phase ≠ .ended) →
      taken ≠ [] →
      let t := createIn n .manual m (clamp 2 30 stagger) (clamp 1 60 duration * 60000) s
      exec (.ringStart p tag mask stagger duration) s = .next (answered p tag .ok
        (be1 (n.1 + 1) ++ beMask (bellMask taken) ++ beLeftOut out ++ be1 (clamp 2 30 stagger) ++
          be1 (clamp 1 60 duration) ++ beTime (s.now + clamp 1 60 duration * 60000)) t) ∧
      (∀ b, b ∉ taken → (t.bell b).holder = (s.bell b).holder) ∧
      (∀ b ∈ taken, (s.bell b).guard.state ≠ .fault → (t.bell b).holder = .service n) ∧
      (t.session n).stagger = clamp 2 30 stagger ∧ (t.session n).origin = .manual ∧
      (t.session n).endTime = s.now + clamp 1 60 duration * 60000 ∧ (t.session n).leftOut = out)) ∧
  (∀ b s, leftOutReason b s =
    if (s.bell b).config.drive = false then some .notFitted
    else if (s.bell b).holder ≠ .free then some .busy
    else if (s.swing b).state = .fault then some .state else none) ∧
  (∀ p tag (n : Fin 4) s, Reaches .ringCancel p s → ((s.session n).phase = .startingBells ∨ (s.session n).phase = .ringing) →
    let t := enterStopping n .cancel s
    exec (.ringCancel p tag (n.1 + 1)) s = .next (answered p tag .ok
      (be1 2 ++ beMask (bellMask (s.session n).unstarted)) t) ∧
    ((t.session n).phase = .stoppingBells ∨ (t.session n).phase = .ended) ∧ (t.session n).endCause = .cancel ∧
    (t.session n).bells = (s.session n).bells.filter (fun x => x.started) ∧
    ∀ b, b ∈ (s.session n).unstarted → (t.bell b).holder = .free) ∧
  (∀ p tag (n : Fin 4) s, Reaches .ringCancel p s → (s.session n).phase = .stoppingBells →
    exec (.ringCancel p tag (n.1 + 1)) s = .next (answered p tag .ok (be1 2) s)) ∧
  (∀ p tag (n : Fin 4) s, Reaches .ringCancel p s → (s.session n).phase = .ended →
    exec (.ringCancel p tag (n.1 + 1)) s = .next (answered p tag .state [] s))

/-! ### Tunes and plans -/

/-- The edit of a tune (R109 to R113): TUNE_OPEN takes the places and makes every slot unwritten, TUNE_WRITE fills
consecutive slots, TUNE_CLOSE makes a complete tune VALID and raises its revision; the change is handed to the Strike
Unit (R117). A refused request naming an EDITING tune restarts its timer (R115). Every response but TUNE_WRITE's OK
reports the free count as it stands after the request (R110; log entry 40). TUNE_DELETE (R118), the edit timeout
after 300,000 ms (R115) and PLAN_WRITE (R120, R123). The clamped notes counted and the payloads' widths are log entry
18. An edit timeout before its time or of a tune not EDITING changes nothing (log entry 2). -/
def Obligations.EditingTunesAndWritingPlans : Prop :=
  (∀ (k : Fin 24) (tag : Byte) (s : State), PortFree .l1 s →
     let r := s.tune k
     (∀ n revision, 1 ≤ n → n ≤ 128 → (revision = 255 ∨ revision = r.revision) →
       (∀ xs x, r.content ≠ .editing xs x) → n ≤ s.freeCount + r.length →
       let t := tuneHandoff k (s.setTune k { r with content := .editing (List.replicate n none) s.now })
       exec (.tuneOpen .l1 tag (k.1 + 1) n revision) s = .next (answered .l1 tag .ok
         (be1 (k.1 + 1) ++ be1 n ++ be1 r.revision ++ be2 t.freeCount) t)) ∧
     (∀ n revision, 1 ≤ n → n ≤ 128 → (revision = 255 ∨ revision = r.revision) →
       (∀ xs x, r.content ≠ .editing xs x) → s.freeCount + r.length < n →
       exec (.tuneOpen .l1 tag (k.1 + 1) n revision) s =
         .next (answered .l1 tag .noRoom (be1 (s.freeCount + r.length) ++ be2 s.freeCount) s)) ∧
     (∀ n revision xs x, 1 ≤ n → n ≤ 128 → (revision = 255 ∨ revision = r.revision) → r.content = .editing xs x →
       exec (.tuneOpen .l1 tag (k.1 + 1) n revision) s = .next (answered .l1 tag .busy (be2 s.freeCount)
         (s.setTune k { r with content := .editing xs s.now }))) ∧
     ((∀ xs x, r.content = .editing xs x → restartEdit k s = s.setTune k { r with content := .editing xs s.now }) ∧
       ((∀ xs x, r.content ≠ .editing xs x) → restartEdit k s = s)) ∧
     (∀ n revision, (n < 1 ∨ 128 < n) → exec (.tuneOpen .l1 tag (k.1 + 1) n revision) s =
       .next (answered .l1 tag .range (be2 s.freeCount) (restartEdit k s))) ∧
     (∀ n revision, 1 ≤ n → n ≤ 128 → revision ≠ 255 → revision ≠ r.revision →
       exec (.tuneOpen .l1 tag (k.1 + 1) n revision) s =
         .next (answered .l1 tag .stale (be1 r.revision ++ be2 s.freeCount) (restartEdit k s))) ∧
     (∀ xs x first notes ns, r.content = .editing xs x → storedNotes first notes = some ns → notes ≠ [] →
       notes.length ≤ 64 → 1 ≤ first → first - 1 + notes.length ≤ xs.length →
       ∃ ys, exec (.tuneWrite .l1 tag (k.1 + 1) first notes) s = .next (answered .l1 tag .ok
         (be1 first ++ be1 notes.length ++ be1 (notes.filter (fun n => decide (500 < n.offset))).length ++
           be1 (unwritten ys) ++ be1 (firstUnwritten ys))
         (s.setTune k { r with content := .editing ys s.now })) ∧ ys.length = xs.length ∧
         ∀ i, i < xs.length → ys[i]? =
           if first - 1 ≤ i ∧ i < first - 1 + notes.length then ns[i - (first - 1)]? else xs[i]?) ∧
     (∀ first b offset, (storedNote first b offset) =
       { bell := b, offset := if first = 1 then 0 else min 500 offset }) ∧
     (∀ first notes, ((∀ xs x, r.content ≠ .editing xs x) →
       exec (.tuneWrite .l1 tag (k.1 + 1) first notes) s = .next (answered .l1 tag .state (be2 s.freeCount) s))) ∧
     (∀ xs x first notes, r.content = .editing xs x → (storedNotes first notes = none ∨ notes = [] ∨ 64 < notes.length ∨
         first < 1 ∨ xs.length < first - 1 + notes.length) →
       exec (.tuneWrite .l1 tag (k.1 + 1) first notes) s = .next (answered .l1 tag .range (be2 s.freeCount)
         (s.setTune k { r with content := .editing xs s.now }))) ∧
     (∀ xs x, r.content = .editing xs x → (∀ y ∈ xs, y ≠ none) →
       let t := tuneHandoff k (s.setTune k { content := .valid (xs.filterMap id), revision := nextRevision r.revision })
       exec (.tuneClose .l1 tag (k.1 + 1)) s = .next (answered .l1 tag .ok
         (be1 (k.1 + 1) ++ be1 xs.length ++ be1 (nextRevision r.revision) ++ be2 (tuneUnits (xs.filterMap id)) ++
           be2 t.freeCount) t)) ∧
     (∀ xs x, r.content = .editing xs x → none ∈ xs →
       exec (.tuneClose .l1 tag (k.1 + 1)) s = .next (answered .l1 tag .state
         (be1 (firstUnwritten xs) ++ be1 (unwritten xs) ++ be2 s.freeCount)
         (s.setTune k { r with content := .editing xs s.now }))) ∧
     ((∀ xs x, r.content ≠ .editing xs x) → exec (.tuneClose .l1 tag (k.1 + 1)) s =
       .next (answered .l1 tag .state (be1 r.content.code ++ be2 s.freeCount) s))) ∧
  ((∀ (k : Fin 24) tag revision ns s, PortFree .l1 s → (s.tune k).content = .valid ns →
     (revision = 255 ∨ revision = (s.tune k).revision) →
     let t := tuneHandoff k (s.setTune k { content := .empty, revision := nextRevision (s.tune k).revision })
     exec (.tuneDelete .l1 tag (k.1 + 1) revision) s =
       .next (answered .l1 tag .ok (be1 (nextRevision (s.tune k).revision) ++ be2 t.freeCount) t)) ∧
   (∀ (k : Fin 24) tag revision s, PortFree .l1 s → (s.tune k).content = .empty →
     (revision = 255 ∨ revision = (s.tune k).revision) →
     exec (.tuneDelete .l1 tag (k.1 + 1) revision) s = .next (answered .l1 tag .state (be2 s.freeCount) s)) ∧
   (∀ (k : Fin 24) tag revision s, PortFree .l1 s → revision ≠ 255 → revision ≠ (s.tune k).revision →
     exec (.tuneDelete .l1 tag (k.1 + 1) revision) s = .next (answered .l1 tag .stale
       (be1 (s.tune k).revision ++ be2 s.freeCount) (restartEdit k s))) ∧
   (∀ (k : Fin 24) tag revision xs x s, PortFree .l1 s → (s.tune k).content = .editing xs x →
     (revision = 255 ∨ revision = (s.tune k).revision) →
     exec (.tuneDelete .l1 tag (k.1 + 1) revision) s = .next (answered .l1 tag .busy (be2 s.freeCount)
       (s.setTune k { s.tune k with content := .editing xs s.now }))) ∧
   (∀ (k : Fin 24) xs x s, s.warm.held = none → (s.tune k).content = .editing xs x → x + 300000 ≤ s.now →
     exec (.tuneEditTimeout k) s =
       .next (tuneHandoff k (s.setTune k { content := .empty, revision := (s.tune k).revision }))) ∧
   (∀ (k : Fin 24) (s : State), ((∀ xs x, (s.tune k).content ≠ .editing xs x) ∨
       ∃ xs x, (s.tune k).content = .editing xs x ∧ s.now < x + 300000) →
     exec (.tuneEditTimeout k) s = .next s) ∧
   (∀ tag (a : PlanArgs) (n : PlanName) s, PortFree .l1 s → a.plan = n.code → a.first ≤ 24 → a.second ≤ 24 →
     a.third ≤ 24 → a.hour ≤ 24 → a.bell ≤ 16 → (a.revision = 255 ∨ a.revision = (s.plan n).revision) →
     let r : Plan := { first := a.first, second := a.second, third := a.third, hour := a.hour, hourBell := a.bell,
                       gap := min 10000 a.gap, pace := clamp 1000 10000 a.pace,
                       revision := nextRevision (s.plan n).revision }
     exec (.planWrite .l1 tag a) s = .next (answered .l1 tag .ok r.bytes (s.setPlan n r)) ∧
     (s.setPlan n r).plan n = r ∧ (s.setPlan n r).plan n.other = s.plan n.other) ∧
   (∀ tag (a : PlanArgs) s, PortFree .l1 s →
     (1 < a.plan ∨ 24 < a.first ∨ 24 < a.second ∨ 24 < a.third ∨ 24 < a.hour ∨ 16 < a.bell) →
     exec (.planWrite .l1 tag a) s = .next (answered .l1 tag .range [] s)))

/-- TUNE_ABORT (R114): an EDITING tune becomes EMPTY, its places are given up, its revision stands; any other tune
refuses it with STATE and nothing changes. -/
def Obligations.TheAbortOfATune : Prop :=
  ∀ (k : Fin 24) (tag : Byte) (s : State), PortFree .l1 s →
    (∀ xs x, (s.tune k).content = .editing xs x →
      let t := tuneHandoff k (s.setTune k { content := .empty, revision := (s.tune k).revision })
      exec (.tuneAbort .l1 tag (k.1 + 1)) s = .next (answered .l1 tag .ok (be2 t.freeCount) t) ∧
      t.tune k = { content := .empty, revision := (s.tune k).revision } ∧ (∀ j, j ≠ k → t.tune j = s.tune j) ∧
      (PoolOk s → t.freeCount = s.freeCount + xs.length)) ∧
    ((∀ xs x, (s.tune k).content ≠ .editing xs x) →
      ∃ pl, exec (.tuneAbort .l1 tag (k.1 + 1)) s = .next (answered .l1 tag .state pl s))

/-! ### The strike queue and the hammers -/

/-- The entries that come up (R133 to R136), at a due time, at the end of a pulse or of a recovery: each is taken up, one
at a time in queue order, whichever bell it names. Its bell strikeable and recovered and a share free, its pulse begins;
else it waits, is rebound to the substitute once, or is skipped. At the end of a pulse the drive is released and a
waiting guard sets out first (R75). That STRIKE_SKIPPED comes before the end of its toll is the model's choice (log
entry 52), and an event not due changes nothing (log entry 2). -/
def Obligations.TakingUpEntriesAndEndingPulses : Prop :=
  ((∀ s e, s.warm.held = none → e ∈ s.strike.queue → e.wait = .pending → e.due ≤ s.now →
     exec .strikeEntryDue s = .next (serveQueue s)) ∧
   (∀ s, (s.warm.held ≠ none ∨ ∀ x ∈ s.strike.queue, x.wait ≠ .pending ∨ s.now < x.due) →
     exec .strikeEntryDue s = .next s) ∧
   (∀ e (s : State), comesUp e s = true ↔ (e.wait = .pending ∧ e.due ≤ s.now) ∨
     (e.wait = .recovery ∧ recovered e.bell s = true) ∨ (e.wait = .share ∧ s.energised < s.strike.share)) ∧
   (∀ s : State, (∀ x ∈ s.strike.queue, comesUp x s = false) → serveQueue s = s) ∧
   (∀ s e pre post', QueueOk s → s.strike.queue = pre ++ e :: post' → comesUp e s = true →
     (∀ x ∈ pre ++ post', x.wait = .pending ∧ s.now < x.due) → serveQueue s = takeUp e s) ∧
   (∀ s e e' pre mid post', QueueOk s → s.strike.queue = pre ++ e :: mid ++ e' :: post' → comesUp e s = true →
     (∀ x ∈ pre ++ mid ++ post', x.wait = .pending ∧ s.now < x.due) →
     let u := takeUp e s
     serveQueue s = if e' ∈ u.strike.queue ∧ comesUp e' u = true then takeUp e' u else u) ∧
   (∀ e (s : State), strikeFail e.bell s = none →
     let r := s.bell e.bell
     (recovered e.bell s = true → s.energised < s.strike.share → takeUp e s = entryLeft e true (removeEntry e.seq
       (s.setBell e.bell { r with lastStrike := some s.now, pulseEnd := some (s.now + r.config.width) }))) ∧
     (recovered e.bell s = true → s.strike.share ≤ s.energised → takeUp e s = replaceEntry { e with wait := .share } s) ∧
     (recovered e.bell s = false → takeUp e s = replaceEntry { e with wait := .recovery } s)) ∧
   (∀ e f (s : State), strikeFail e.bell s = some f →
     let skipped := entryLeft e false
       (post .strikeSkipped (e.bell.1 + 1) (pair e.origin.code f.code) (removeEntry e.seq s))
     ((e.substituted = true ∨ (s.bell e.bell).config.policy = .skip) → takeUp e s = skipped) ∧
     (∀ b, e.substituted = false → (s.bell e.bell).config.policy = .substitute b →
       let e' := { e with bell := b, substituted := true }
       takeUp e s = takeUp e' (post .strikeSubstituted (e.bell.1 + 1) (pair (b.1 + 1) e.origin.code) (replaceEntry e' s)))) ∧
   (∀ b (s : State), let r := s.bell b
     strikeFail b s =
       if r.config.hammer = false then some .notFitted
       else if r.holder ≠ .free then some .holder
       else if (s.swing b).state ≠ .atRest then some .swing
       else if r.config.guardFitted = true ∧ r.guard.state ≠ .disengaged then some .guard
       else if s.supply.state = .battery then some .supply else none) ∧
   (∀ b (s : State), let r := s.bell b
     (recovered b s = true ↔ r.pulseEnd = none ∧ ∀ x, r.lastStrike = some x → x + r.config.recovery ≤ s.now))) ∧
  (∀ (b : Fin 16) (s : State),
     let r := s.bell b
     let released := s.setBell b { r with pulseEnd := none }
     (∀ x, s.warm.held = none → r.pulseEnd = some x → x ≤ s.now →
       exec (.hammerPulseEnd b) s = .next (serveQueue
         (if r.guard.motion = .waitingPulse then guardBegin b released else released))) ∧
     ((s.warm.held ≠ none ∨ r.pulseEnd = none ∨ ∃ x, r.pulseEnd = some x ∧ s.now < x) →
       exec (.hammerPulseEnd b) s = .next s) ∧
     (∀ e, s.warm.held = none → e ∈ s.strike.queue → e.wait = .recovery → e.bell = b → recovered b s = true →
       exec (.hammerRecoveryEnd b) s = .next (serveQueue s)) ∧
     ((s.warm.held ≠ none ∨ (∀ e ∈ s.strike.queue, e.wait ≠ .recovery ∨ e.bell ≠ b) ∨ recovered b s = false) →
       exec (.hammerRecoveryEnd b) s = .next s))

/-- How a quarter is decided (R121, R122, R128, R129): on battery, on a PENITENTIAL date and under silence nothing is
enqueued; an EDITING tune holds the quarter; else the notes and strokes, or with no hour bell the notes alone, join
the queue together, or none for want of room. -/
def Obligations.HowAQuarterIsDecided : Prop :=
  ∀ (i : Nat) (s : State),
    let c := civilOf s.civil.offset { day := i / 96, sec := i % 96 * 900 }
    let cls := s.classOf c.day
    (s.supply.state = .battery →
      decideQuarter i s = post .quarterSkipped 0 (pair 0 0) (setOutcome .supply i s)) ∧
    (s.supply.state = .mains → cls = .penitential → decideQuarter i s = setOutcome .penitential i s) ∧
    (s.supply.state = .mains → cls ≠ .penitential →
      (s.strike.silence = true ∨ silenceActive .clock c.day c.minute s = true) →
      decideQuarter i s = setOutcome .silenced i s) ∧
    (∀ plan, s.supply.state = .mains → s.strike.silence = false → silenceActive .clock c.day c.minute s = false →
      ((cls = .ordinary ∧ plan = .ordinary) ∨ ((cls = .feast ∨ cls = .solemn) ∧ plan = .festal)) →
      let p := s.plan plan
      let slot := if c.minute % 60 < 15 then 4 else c.minute % 60 / 15
      let strokes := if slot = 4 ∧ p.hourBell ≠ 0 then (c.minute / 60 + 11) % 12 + 1 else 0
      let bare := if strokes = 0 then setOutcome .nothingToStrike i s
        else insertChime
          { index := i, tune := none, strokes := strokes, hourBell := p.hourBell, gap := p.gap, pace := p.pace }
          s.now .chimed s
      (∀ t : Fin 24, silenceActive .quarters c.day c.minute s = false → p.field slot = t.1 + 1 →
        (s.tune t).isEditing = true →
        decideQuarter i s = holdQuarter {
          index := i, slot := slot, plan := plan, tune := t, strokes := strokes,
          hourBell := p.hourBell, gap := p.gap, pace := p.pace, start := s.now, expiry := s.now + 60000 } s) ∧
      (∀ t : Fin 24, silenceActive .quarters c.day c.minute s = false → p.field slot = t.1 + 1 →
        (s.tune t).isValid = true → decideQuarter i s = insertChime
          { index := i, tune := some t, strokes := strokes, hourBell := p.hourBell, gap := p.gap, pace := p.pace }
          s.now .chimed s) ∧
      ((silenceActive .quarters c.day c.minute s = true ∨ p.field slot = 0) →
        decideQuarter i s = bare) ∧
      (∀ t : Fin 24, silenceActive .quarters c.day c.minute s = false → p.field slot = t.1 + 1 →
        (s.tune t).content = .empty → decideQuarter i s =
          if plan = .ordinary then bare
          else match validField s.ordinary slot s with
            | none => bare
            | some t' => insertChime
                { index := i, tune := some t', strokes := strokes, hourBell := p.hourBell, gap := p.gap, pace := p.pace }
                s.now .chimed s)) ∧
    (∀ (x : Chime) base done, ((x.hourBell = 0 ∧ x.strokes = 0) ∨ (1 ≤ x.hourBell ∧ x.hourBell ≤ 16)) →
      let notes := match x.tune with
        | some t => (s.tune t).notes
        | none => []
      (64 - s.strike.queue.length < notes.length + x.strokes → insertChime x base done s =
        post .quarterSkipped 0 (pair 1 (notes.length + x.strokes)) (setOutcome .queueFull x.index s)) ∧
      (notes.length + x.strokes + s.strike.queue.length ≤ 64 →
        (insertChime x base done s).strike.lastOutcome = some (done, x.index) ∧
        (insertChime x base done s).strike.queue.length = s.strike.queue.length + notes.length + x.strokes ∧
        (∀ t, x.tune = some t → ∀ n ∈ noteTimes notes, ∃ e ∈ (insertChime x base done s).strike.queue,
          e.due = base + n.2 ∧ e.bell = n.1 ∧ e.origin = .quarter ∧ e.number = t.1 + 1 ∧ e.wait = .pending) ∧
        (∀ j (b : Fin 16), j < x.strokes → x.hourBell = b.1 + 1 → ∃ e ∈ (insertChime x base done s).strike.queue,
          e.due = base + 10 * tuneUnits notes + x.gap + j * x.pace ∧ e.bell = b ∧ e.origin = .hour ∧ e.number = j + 1 ∧
          e.wait = .pending ∧ e.substituted = false)))

/-- The held quarter and the quarter marker (R126, R127, R130, R131): a held quarter sounds in fallback form at its
expiry, measured from it, and with its tune when that is closed; the marker moves only on to a newer quarter,
whatever command is taken, but for cold start. A time step of +1 to +120 seconds onto a newer quarter decides it, a
longer one passes it, and any other does nothing (R127), a marker of none standing for an older one (log entry 46);
which of a long step and a quarter's start comes first is free (log entry 7). A fallback with nothing to strike has
outcome FALLBACK (log entry 32). An expiry with nothing held or before its time changes nothing (log entry 2). -/
def Obligations.HeldQuartersAndTheQuarterMarker : Prop :=
  (∀ s h, s.warm.held = none → s.strike.held = some h → h.expiry ≤ s.now →
    exec .heldQuarterExpiry s = .next (setHeld none (insertChime
      { index := h.index, tune := validField (s.plan h.plan.other) h.slot s, strokes := h.strokes,
        hourBell := h.hourBell, gap := h.gap, pace := h.pace } h.expiry .fallback s))) ∧
  (∀ s, (s.warm.held ≠ none ∨ s.strike.held = none ∨ ∃ h, s.strike.held = some h ∧ s.now < h.expiry) →
    exec .heldQuarterExpiry s = .next s) ∧
  (∀ k s h ns, s.strike.held = some h → h.tune = k → (s.tune k).content = .valid ns →
    tuneHandoff k s = setHeld none (insertChime
      { index := h.index, tune := some k, strokes := h.strokes, hourBell := h.hourBell, gap := h.gap, pace := h.pace }
      s.now .chimed s)) ∧
  (∀ h s, s.strike.held = none → holdQuarter h s = post .quarterHeld (h.tune.1 + 1) (pair 0 h.slot)
    (setOutcome .held h.index (setHeld (some h) s))) ∧
  (∀ l s, l.sec % 900 = 0 → newerQuarter (l.day * 96 + l.sec / 900) s.strike.marker = true →
    quarterBoundary l s = decideQuarter (l.day * 96 + l.sec / 900) (setMarker (l.day * 96 + l.sec / 900) s)) ∧
  (∀ delta l (s : State),
    let i := l.day * 96 + l.sec / 900
    ((delta ≤ 0 ∨ newerQuarter i s.strike.marker = false) → quarterStep delta l s = s) ∧
    (1 ≤ delta → delta ≤ 120 → newerQuarter i s.strike.marker = true →
      quarterStep delta l s = decideQuarter i (setMarker i s)) ∧
    (120 < delta → newerQuarter i s.strike.marker = true → quarterStep delta l s =
      post .quarterSkipped 0 (pair 2 0) (setOutcome .stepPassed i (setMarker i s)))) ∧
  (∀ l (s : State), strikeBoundary none l s = quarterBoundary l s ∧
    ((l.sec % 900 ≠ 0 ∨ newerQuarter (l.day * 96 + l.sec / 900) s.strike.marker = false) → quarterBoundary l s = s) ∧
    (∀ delta, (delta ≤ 120 ∨ l.sec % 900 ≠ 0) → strikeBoundary (some delta) l s = quarterBoundary l (quarterStep delta l s)) ∧
    (∀ delta, strikeBoundary (some delta) l s = quarterBoundary l (quarterStep delta l s) ∨
      strikeBoundary (some delta) l s = quarterStep delta l (quarterBoundary l s))) ∧
  (∀ c s t, c ≠ .coldStart → exec c s = .next t →
    t.strike.marker = s.strike.marker ∨ ∃ i, t.strike.marker = some i ∧ newerQuarter i s.strike.marker = true)

/-- Tolls and panel strikes (R138 to R140) at ports whose role permits them: STRIKE inserts its strokes together; a
toll takes the lowest free record and one entry, a second request for a bell that tolls rewrites its record and keeps
its entry; it ends at its end time, by TOLL_STOP or with its count. Where a check fails nothing changes. The origin
number of a toll's entry is log entry 44, the four bytes of the pulses begun, UNBOUNDED as 0 and the end in minutes in
TOLL_START's OK are log entry 18, and an end time not due changes nothing (log entry 2). -/
def Obligations.TollsAndPanelStrikes : Prop :=
  (∀ (b : Fin 16) tag count interval s, PortFree .l2 s → 1 ≤ count → count ≤ 12 → (s.bell b).config.hammer = true →
    s.supply.state = .mains → count + s.strike.queue.length ≤ 64 →
    let i := clamp 500 10000 interval
    ∃ t, exec (.strike .l2 tag (b.1 + 1) count interval) s = .next (answered .l2 tag .ok (be2 i ++ beTime s.now) t) ∧
      Frame [.queue] s t ∧ t.strike.queue.length = s.strike.queue.length + count ∧
      t.strike.nextSeq = s.strike.nextSeq + count ∧ (∀ e ∈ s.strike.queue, e ∈ t.strike.queue) ∧
      ∀ j, j < count → {
        due := s.now + j * i, bell := b, origin := .panel, number := j + 1, substituted := false,
        seq := s.strike.nextSeq + j, wait := .pending } ∈ t.strike.queue) ∧
  (∀ (b : Fin 16) p tag interval count minutes (n : Fin 4) s, Reaches .tollStart p s → count ≤ 999 →
    s.supply.state = .mains → (s.bell b).config.hammer = true → (∀ k x, s.toll k = some x → x.bell ≠ b) →
    s.toll n = none → (∀ k, k < n → s.toll k ≠ none) → s.strike.queue.length < 64 →
    let record : Toll := {
      bell := b, interval := clamp 4 60 interval, remaining := if count = 0 then none else some count
      endTime := if minutes = 0 then none else some (s.now + min 240 minutes * 60000), origin := .port p, begun := 0 }
    exec (.tollStart p tag (b.1 + 1) interval count minutes) s = .next (answered p tag .ok
      (be1 (n.1 + 1) ++ be1 (b.1 + 1) ++ be1 (clamp 4 60 interval) ++ be2 count ++ be1 (min 240 minutes))
      (enqueue s.now b .toll (n.1 + 1) (s.setToll n (some record))))) ∧
  (∀ (b : Fin 16) p tag interval count minutes (n : Fin 4) x s, Reaches .tollStart p s → count ≤ 999 →
    s.supply.state = .mains → (s.bell b).config.hammer = true → s.toll n = some x → x.bell = b →
    (∀ k y, s.toll k = some y → y.bell = b → k = n) →
    exec (.tollStart p tag (b.1 + 1) interval count minutes) s = .next (answered p tag .ok
      (be1 (n.1 + 1) ++ be1 (b.1 + 1) ++ be1 (clamp 4 60 interval) ++ be2 count ++ be1 (min 240 minutes))
      (s.setToll n (some { x with
        interval := clamp 4 60 interval, remaining := if count = 0 then none else some count
        endTime := if minutes = 0 then none else some (s.now + min 240 minutes * 60000), origin := .port p })))) ∧
  (∀ (b : Fin 16) p tag interval count minutes s, Reaches .tollStart p s → count ≤ 999 →
    s.supply.state = .mains → (s.bell b).config.hammer = true → (∀ k x, s.toll k = some x → x.bell ≠ b) →
    ((∀ k, s.toll k ≠ none) ∨ 64 ≤ s.strike.queue.length) →
    exec (.tollStart p tag (b.1 + 1) interval count minutes) s = .next (answered p tag .full [] s)) ∧
  (∀ (b : Fin 16) p tag interval count minutes s, Reaches .tollStart p s → count ≤ 999 →
    s.supply.state = .mains → (s.bell b).config.hammer = false →
    exec (.tollStart p tag (b.1 + 1) interval count minutes) s = .next (answered p tag .notFitted [] s)) ∧
  (∀ p tag interval count minutes (b : Fin 16) s, Reaches .tollStart p s → count ≤ 999 → s.supply.state = .battery →
    exec (.tollStart p tag (b.1 + 1) interval count minutes) s = .next (answered p tag .state [] s)) ∧
  (∀ p tag interval count minutes n s, Reaches .tollStart p s → (n = 0 ∨ 16 < n ∨ 999 < count) →
    exec (.tollStart p tag n interval count minutes) s = .next (answered p tag .range [] s)) ∧
  (∀ (b : Fin 16) tag count interval s, PortFree .l2 s →
    ((count = 0 ∨ 12 < count) → exec (.strike .l2 tag (b.1 + 1) count interval) s = .next (answered .l2 tag .range [] s)) ∧
    (1 ≤ count → count ≤ 12 → (s.bell b).config.hammer = false →
      exec (.strike .l2 tag (b.1 + 1) count interval) s = .next (answered .l2 tag .notFitted [] s)) ∧
    (1 ≤ count → count ≤ 12 → (s.bell b).config.hammer = true → s.supply.state = .battery →
      exec (.strike .l2 tag (b.1 + 1) count interval) s = .next (answered .l2 tag .state [] s)) ∧
    (1 ≤ count → count ≤ 12 → (s.bell b).config.hammer = true → s.supply.state = .mains →
      64 < count + s.strike.queue.length →
      exec (.strike .l2 tag (b.1 + 1) count interval) s = .next (answered .l2 tag .full [] s))) ∧
  (∀ p tag (b : Fin 16) (n : Fin 4) x s, Reaches .tollStop p s → s.toll n = some x → x.bell = b →
    (∀ k y, s.toll k = some y → y.bell = b → k = n) →
    exec (.tollStop p tag (b.1 + 1)) s = .next (answered p tag .ok (beSpan x.begun) (endToll n .stop s))) ∧
  (∀ p tag (b : Fin 16) s, Reaches .tollStop p s → (∀ k y, s.toll k = some y → y.bell ≠ b) →
    exec (.tollStop p tag (b.1 + 1)) s = .next (answered p tag .state [] s)) ∧
  (∀ (n : Fin 4) x c (s : State), s.toll n = some x → endToll n c s =
    (post .tollEnded (x.bell.1 + 1) (tollDetail c x.begun)
      (s.setQueue (s.strike.queue.filter (fun e => !(e.origin == .toll && e.number == n.1 + 1))))).setToll n none) ∧
  (∀ (n : Fin 4) x y s, s.warm.held = none → s.toll n = some x → x.endTime = some y →
    exec (.tollEndTime n) s = .next (if y ≤ s.now then endToll n .endTime s else s)) ∧
  (∀ (n : Fin 4) s, (s.toll n = none ∨ ∃ x, s.toll n = some x ∧ x.endTime = none) →
    exec (.tollEndTime n) s = .next s) ∧
  (∀ e begun (n : Fin 4) x (s : State), e.origin = .toll → e.number = n.1 + 1 → s.toll n = some x →
    let x' := { x with remaining := x.remaining.map (· - 1), begun := x.begun + (if begun = true then 1 else 0) }
    entryLeft e begun s = if x'.remaining = some 0 then endToll n .count (s.setToll n (some x'))
      else enqueue ((if begun = true then s.now else e.due) + x.interval * 1000) x.bell .toll (n.1 + 1)
        (s.setToll n (some x')))

/-- SILENCE_SET (R142): L2 sets or clears the chamber silence flag; nothing leaves the queue; quarters and TUNE
events decided after it see the flag. Cold start clears it; warm reset, port reset and the supply keep it. SET as 0
and CLEAR as 1, in the request and in its response, are log entry 18. -/
def Obligations.TheChamberSilence : Prop :=
  (∀ tag value s, PortFree .l2 s → value ≤ 1 → exec (.silenceSet .l2 tag value) s = .next (answered .l2 tag .ok
    (be1 value) { s with strike := { s.strike with silence := value == 0 } })) ∧
  (∀ tag value s, PortFree .l2 s → 1 < value →
    exec (.silenceSet .l2 tag value) s = .next (answered .l2 tag .range [] s)) ∧
  (∀ p tag value s, p ≠ .l2 → PortFree p s →
    exec (.silenceSet p tag value) s = .next (answered p tag .denied [] s)) ∧
  (∀ i s, s.strike.silence = true → s.supply.state = .mains → s.classOf (s.quarterStart i).day ≠ .penitential →
    decideQuarter i s = setOutcome .silenced i s) ∧
  (∀ n tune s, s.strike.silence = true → s.supply.state = .mains → playTune n tune s = (s, .silenced)) ∧
  (∀ s t, exec .coldStart s = .next t → t.strike.silence = false) ∧
  (∀ c s t, exec c s = .next t → (c = .warmResetEntry ∨ c = .warmResetCompletion ∨ c = .mainsLost ∨
    c = .mainsRestored ∨ ∃ p tag, c = .portReset p tag) → t.strike.silence = s.strike.silence)

/-- PART_CONFIG (R144): L1 sets K, clamped to 1..8. Pulses in progress run on; no share is granted while the energised
count is K or more; below it the first entry that waits for one has its pulse begun at once. 4 at cold start, kept
across warm reset. -/
def Obligations.TheShareLimit : Prop :=
  (∀ tag k s, PortFree .l1 s →
    let s' := { s with strike := { s.strike with share := clamp 1 8 k } }
    exec (.partConfig .l1 tag k) s = .next (answered .l1 tag .ok (be1 (clamp 1 8 k)) (grantShares s')) ∧
    (grantShares s').strike.share = clamp 1 8 k) ∧
  (∀ p tag k s, p ≠ .l1 → PortFree p s → exec (.partConfig p tag k) s = .next (answered p tag .denied [] s)) ∧
  (∀ b x (s : State), (s.bell b).pulseEnd = some x → ((grantShares s).bell b).pulseEnd = some x) ∧
  (∀ s : State, s.strike.share ≤ s.energised → grantShares s = s) ∧
  (∀ e (s : State), s.strike.share ≤ s.energised → strikeFail e.bell s = none → recovered e.bell s = true →
    takeUp e s = replaceEntry { e with wait := .share } s) ∧
  (∀ s e pre post', (s.strike.queue.map (·.seq)).Nodup → s.strike.queue = pre ++ e :: post' → e.wait = .share →
    (∀ x ∈ pre, x.wait ≠ .share) → strikeFail e.bell s = none → recovered e.bell s = true →
    s.energised < s.strike.share → ((grantShares s).bell e.bell).pulseEnd = some (s.now + (s.bell e.bell).config.width)) ∧
  (∀ s t, exec .coldStart s = .next t → t.strike.share = 4) ∧
  (∀ s t, exec .warmResetEntry s = .next t → t.strike.share = s.strike.share) ∧
  (∀ s t, exec .warmResetCompletion s = .next t → t.strike.share = s.strike.share)

/-! ### The event calendar -/

/-- EVENT_WRITE (R158, R159) and EVENT_DELETE (R160): the record is written whole and made valid, or returned to its
cold values; the last-fired day is kept, the revision raised, and the active windows are recomputed: they are the
events the window test finds active, and a changed set of scenes derives every channel (R156). The response's fields
that the event does not use are log entry 18. -/
def Obligations.WritingAndDeletingEvents : Prop :=
  (∀ tag a (n : Fin 96) k sel an s, PortFree .l1 s → a.event = n.1 + 1 → kindOf a = some k → selectorOf a s = some sel →
    anchorOf a = some an → (a.revision = 255 ∨ a.revision = (s.event n).revision) →
    let e : Event := { valid := true, kind := k, selector := sel, anchor := an, duration := durationOf k a.duration,
                       lastFired := (s.event n).lastFired, revision := nextRevision (s.event n).revision }
    ∃ t, exec (.eventWrite .l1 tag a) s =
        .next (answered .l1 tag .ok (e.bytes ++ beMarked 2 be2 (startToday e s)) t) ∧
      t.event n = e ∧ (∀ m, m ≠ n → t.event m = s.event m) ∧ t.cal.active = activeNow t ∧
      t.cal.cursor = s.cal.cursor ∧ Frame [.cal, .lights, .notices, .ports] s t) ∧
  (∀ tag (n : Fin 96) revision s, PortFree .l1 s → (s.event n).valid = true →
    (revision = 255 ∨ revision = (s.event n).revision) →
    ∃ t, exec (.eventDelete .l1 tag (n.1 + 1) revision) s =
        .next (answered .l1 tag .ok (be1 (nextRevision (s.event n).revision)) t) ∧
      t.event n = { lastFired := (s.event n).lastFired, revision := nextRevision (s.event n).revision } ∧
      (∀ m, m ≠ n → t.event m = s.event m) ∧ t.cal.active = activeNow t ∧
      t.cal.cursor = s.cal.cursor ∧ Frame [.cal, .lights, .notices, .ports] s t) ∧
  (∀ tag (n : Fin 96) revision s, PortFree .l1 s → (s.event n).valid = false →
    (revision = 255 ∨ revision = (s.event n).revision) →
    exec (.eventDelete .l1 tag (n.1 + 1) revision) s = .next (answered .l1 tag .state [] s)) ∧
  (∀ tag a (n : Fin 96) s, PortFree .l1 s → a.event = n.1 + 1 →
    (kindOf a = none ∨ selectorOf a s = none ∨ anchorOf a = none) →
    exec (.eventWrite .l1 tag a) s = .next (answered .l1 tag .range [] s)) ∧
  (∀ (s : State) (n : Fin 96), n ∈ activeNow s ↔ ∃ l, s.tb.label = some l ∧ (s.event n).kind.isWindow = true ∧
    windowTest (civilOf s.civil.offset l).day (civilOf s.civil.offset l).minute (s.event n) s = true) ∧
  (∀ old (s : State),
    let u := { s with cal := { s.cal with active := activeNow s } }
    let scenes := (activeNow s).filter (fun n => (s.event n).kind.code == 3)
    recomputeWindows old s = if scenes = old then u else (List.finRange 8).foldl (fun u c => deriveLight c u) u)

/-- An event fires once on a date (R150 to R154): firing marks the date and hands the event over by its kind, with
the outcome its block gives; an event so marked is neither fired nor missed on that date again; an event whose sun
entry is UNSET is degraded, a window event once on each date (R156; where it stands in the minute: log entry 45).
Taking a minute fires every event due at it. A minute already taken, and a clock set back, move only the cursor; a
jump forward misses the events of the crossed minutes, but after a small time step takes them late, save those that
passed in a warm reset (R187, log entry 16). -/
def Obligations.AnEventFiresOnceOnADate : Prop :=
  ((∀ today m late n (s : State), (s.event n).lastFired = some m.day →
     fireTest today m late n s = s ∧ sunTest today m.day late n s = s) ∧
   (∀ today k j n date (s : State), (s.event n).lastFired = some date → missedEventTest today k j n date s = s) ∧
   (∀ today m late n s, (s.event n).valid = true → (s.event n).kind.isWindow = false →
     (s.event n).selector.admits m.day (s.calendarClass today m.day) = true → (s.event n).lastFired ≠ some m.day →
     startMinute m.day (s.event n) s = some m.minute →
     let r := handEvent n (markFired n m.day s)
     fireTest today m late n s = eventNotice n late r.2.1 r.2.2 r.1 ∧
     ((fireTest today m late n s).event n).lastFired = some m.day) ∧
   (∀ n late session r (s : State), eventNotice n late session r s =
     post (if r = .none then .eventFired else .eventDegraded) (n.1 + 1)
       (BitVec.ofNat 16 ((s.event n).kind.code * 4096 + (if late = true then 2048 else 0) + session % 8 * 256 + r.code)) s) ∧
   (∀ today date late n s, (s.event n).valid = true → (s.event n).kind.isWindow = false →
     (s.event n).selector.admits date (s.calendarClass today date) = true → (s.event n).lastFired ≠ some date →
     startMinute date (s.event n) s = none →
     sunTest today date late n s = eventNotice n late 0 .sunUnset (markFired n date s)) ∧
   (∀ today date late n s m, startMinute date (s.event n) s = some m → sunTest today date late n s = s) ∧
   (∀ today date late n (s : State), windowSunTest today date late n s =
     if (s.event n).valid = true ∧ (s.event n).kind.isWindow = true ∧
       (s.event n).selector.admits date (s.calendarClass today date) = true ∧ startMinute date (s.event n) s = none then
       eventNotice n late 0 .sunUnset s else s) ∧
   (∀ today m late (s : State),
     let sun := (List.finRange 96).foldl (fun u n => sunTest today m.day late n u) s
     let windows := (List.finRange 96).foldl (fun u n => windowSunTest today m.day late n u) sun
     takeMinute today m late s = (List.finRange 96).foldl (fun u n => fireTest today m late n u)
       (if m.day ∈ s.cal.datesTaken then sun
        else { windows with cal := { windows.cal with datesTaken := m.day :: s.cal.datesTaken } })) ∧
   (∀ today m late n (s : State), (s.event n).valid = true → (s.event n).kind.isWindow = false →
     (s.event n).selector.admits m.day (s.calendarClass today m.day) = true →
     startMinute m.day (s.event n) s = some m.minute →
     ((takeMinute today m late s).event n).lastFired = some m.day)) ∧
  ((∀ n mask stagger s, (s.event n).kind = .ring mask stagger →
     (s.supply.state = .battery → handEvent n s = (s, 0, .supply)) ∧
     (s.supply.state = .mains → (∀ k, (s.session k).phase ≠ .ended) → handEvent n s = (s, 0, .sessionsFull)) ∧
     (∀ k, s.supply.state = .mains → (s.session k).phase = .ended → (∀ j, j < k → (s.session j).phase ≠ .ended) →
       ((∀ b ∈ maskBells mask, leftOutReason b s ≠ none) → handEvent n s = (s, 0, .noBells)) ∧
       (∀ b ∈ maskBells mask, leftOutReason b s = none → handEvent n s =
         (createIn k (.event n) mask stagger ((s.event n).duration * 60000) s, k.1 + 1, .none)))) ∧
   (∀ n b interval count s, (s.event n).kind = .toll b interval count →
     let minutes := min 240 (s.event n).duration
     (s.supply.state = .battery → handEvent n s = (s, 0, .supply)) ∧
     (s.supply.state = .mains → (s.bell b).config.hammer = false → handEvent n s = (s, 0, .noBells)) ∧
     (s.supply.state = .mains → (s.bell b).config.hammer = true → (∀ k x, s.toll k = some x → x.bell ≠ b) →
       ((∀ k, s.toll k ≠ none) ∨ 64 ≤ s.strike.queue.length) → handEvent n s = (s, 0, .queueFull)) ∧
     (∀ j, (startToll b interval count minutes (.event n) s).2 = .started j →
       handEvent n s = ((startToll b interval count minutes (.event n) s).1, 0, .none))) ∧
   (∀ n k s, (s.event n).kind = .tune k → handEvent n s = ((playTune n k s).1, 0, (playTune n k s).2)) ∧
   (∀ n (k : Fin 24) c ns s, s.supply.state = .mains → s.civilNow = some c → s.classOf c.day ≠ .penitential →
     s.strike.silence = false → silenceActive .clock c.day c.minute s = false → (s.tune k).content = .valid ns →
     playTune n (k.1 + 1) s = if ns.length ≤ 64 - s.strike.queue.length then
       (enqueueNotes s.now .tuneEvent (n.1 + 1) (noteTimes ns) s, .none) else (s, .queueFull))) ∧
  ((∀ boundary small c k s, s.civilNow = some c → s.cal.cursor = some k → c.dayMinute.diff k ≤ 0 →
     calendarCompare boundary small s =
       { s with cal := { s.cal with cursor := some c.dayMinute, heldUntil := none } }) ∧
   (∀ small c k s, s.civilNow = some c → c.sec % 60 = 0 → s.cal.cursor = some k → c.dayMinute.diff k = 1 →
     calendarCompare true small s = setCursor (some c.dayMinute)
       (takeMinute c.day c.dayMinute false { s with cal := { s.cal with heldUntil := none } })) ∧
   (∀ small c k s, s.civilNow = some c → c.sec % 60 = 0 → s.cal.cursor = some k → 2 ≤ c.dayMinute.diff k →
     let n := (c.dayMinute.diff k).toNat - 1
     calendarCompare true small s = setCursor (some c.dayMinute) (takeMinute c.day c.dayMinute false
       (forwardJump c.day k n (heldMinutes k n s.cal.heldUntil) small
         { s with cal := { s.cal with heldUntil := none } }))) ∧
   (∀ boundary small c k s, s.civilNow = some c → (boundary = false ∨ c.sec % 60 ≠ 0) → s.cal.cursor = some k →
     1 ≤ c.dayMinute.diff k →
     let n := (c.dayMinute.diff k).toNat
     calendarCompare boundary small s = setCursor (some c.dayMinute)
       (forwardJump c.day k n (heldMinutes k n s.cal.heldUntil) small { s with cal := { s.cal with heldUntil := none } })) ∧
   (∀ k n h, heldMinutes k n none = 0 ∧ heldMinutes k n (some h) = min n (h.diff k).toNat) ∧
   (∀ today k n h (s : State), forwardJump today k n h false s = missedEvents today k n s ∧
     forwardJump today k n h true s = lateMinutes today k h n (missedEvents today k h s)) ∧
   (∀ today k m n (s : State), (n ≤ m → lateMinutes today k m n s = s) ∧ (m ≤ n → lateMinutes today k m (n + 1) s =
     takeMinute today (dayMinuteOf (k.number + n + 1)) true (lateMinutes today k m n s))) ∧
   (∀ today k (s : State), missedEvents today k 0 s = s) ∧
   (∀ today k n (s : State), missedEvents today k n s = (List.finRange 96).foldl (fun u e =>
     missedEventTest today k n e today (missedEventTest today k n e (dayBeforeOf today) u)) s) ∧
   (∀ today k n e m (s : State), (s.event e).valid = true → (s.event e).kind.isWindow = false →
     (s.event e).selector.admits today (s.calendarClass today today) = true → startMinute today (s.event e) s = some m →
     1 ≤ minutesAfter k { day := today, minute := m } → minutesAfter k { day := today, minute := m } ≤ n →
     ((missedEvents today k n s).event e).lastFired = some today) ∧
   (∀ today k n e date m (s : State), (s.event e).valid = true → (s.event e).kind.isWindow = false →
     (s.event e).selector.admits date (s.calendarClass today date) = true → (s.event e).lastFired ≠ some date →
     startMinute date (s.event e) s = some m →
     let after := minutesAfter k { day := date, minute := m }
     missedEventTest today k n e date s = if 1 ≤ after ∧ after ≤ n then
       post .eventMissed (e.1 + 1) (BitVec.ofNat 16 m) (markFired e date s) else s) ∧
   (∀ today k n e date (s : State), (s.event e).valid = true → (s.event e).kind.isWindow = false →
     (s.event e).selector.admits date (s.calendarClass today date) = true → (s.event e).lastFired ≠ some date →
     startMinute date (s.event e) s = none →
     missedEventTest today k n e date s =
       if dateCrossed k n date = true then eventNotice e false 0 .sunUnset (markFired e date s) else s))

/-! ### Floodlights -/

/-- The desired state of a channel (R163) and what a derivation does with it (R164, R166, R168, R169, R171): OFF is
switched on, on mains; WARMING and LIT are switched off; COOLING remembers the wish; FAILED stays. -/
def Obligations.TheDerivationOfAChannel : Prop :=
  (∀ (c : Fin 8) (s : State), let r := s.light c
    (desiredNow c s).desired = true ↔ r.configured = true ∧ (r.override = .forceOn ∨ (r.override = .auto ∧
      ((r.follow = true ∧ ∃ b, (s.bell b).holder = .ropes) ∨
       ∃ l n m, s.tb.label = some l ∧ (s.event n).kind = .scene m ∧ m.getLsbD c.1 = true ∧
        windowTest (civilOf s.civil.offset l).day (civilOf s.civil.offset l).minute (s.event n) s = true)))) ∧
  (∀ (c : Fin 8) (s : State),
    let r := { s.light c with derived := desiredNow c s }
    let wanted := (desiredNow c s).desired
    (r.state = .off → wanted = true → s.supply.state = .mains →
      ∃ t, deriveLight c s = t ∧ (t.light c).state = (if r.warmUp = 0 then .lit else .warming) ∧
        (t.light c).switchOn = some s.now ∧ (t.light c).warmEnd = some (s.now + r.warmUp * 1000) ∧
        t.lamp c = true ∧ Frame [.lights, .notices, .ports] s t ∧ ∀ d, d ≠ c → t.light d = s.light d) ∧
    ((r.state = .off → wanted = false ∨ s.supply.state = .battery) → (r.state = .warming ∨ r.state = .lit → wanted = true) →
      r.state ≠ .cooling → deriveLight c s = s.setLight c r) ∧
    (r.state = .cooling → deriveLight c s = s.setLight c { r with pendingOn := wanted }) ∧
    ((r.state = .warming ∨ r.state = .lit) → wanted = false →
      let dark : ChannelState := if r.restrike = 0 then .off else .cooling
      deriveLight c s = post .channelState (c.1 + 1) (channelDetail r.state dark .desired) (s.setLight c { r with
        warmEnd := none, watch := .idle, lastOff := .desired, pendingOn := false, state := dark
        restrikeExpiry := some (s.now + r.restrike * 1000) })))

/-- The events of a channel (R165, R167, R169, R170): an override runs out, a lamp has warmed, its restrike time is over,
its sense watch begins, a RELAY channel's two seconds after its switch-on, and sees a current or an absence, and an
absence of 10,000 ms is a failure. OVERRIDE_EXPIRY acts wherever its condition stands (log entry 11); an event not due
changes nothing (log entry 2). -/
def Obligations.TheEventsOfAChannel : Prop :=
  ∀ (c : Fin 8) (s : State),
    let r := s.light c
    (∀ l x, s.warm.held = none → s.tb.label = some l → r.expiry = some x →
      exec (.overrideExpiry c) s = .next
        (if 0 ≤ (civilOf s.civil.offset l).dayMinute.diff x then
          deriveLight c (s.setLight c { r with override := .auto, expiry := none }) else s)) ∧
    ((s.warm.held ≠ none ∨ s.tb.label = none ∨ r.expiry = none) → exec (.overrideExpiry c) s = .next s) ∧
    (s.warm.held = none → exec (.overrideExpiry c) s = .next (overrideTest c s)) ∧
    (∀ x, s.warm.held = none → r.state = .warming → r.warmEnd = some x → x ≤ s.now → exec (.warmupEnd c) s =
      .next (tryWatch c (post .channelState (c.1 + 1) (channelDetail .warming .lit .warmed)
        (s.setLight c { r with state := .lit })))) ∧
    ((s.warm.held ≠ none ∨ r.state ≠ .warming ∨ r.warmEnd = none ∨ ∃ x, r.warmEnd = some x ∧ s.now < x) →
      exec (.warmupEnd c) s = .next s) ∧
    (∀ x, s.warm.held = none → r.state = .cooling → r.restrikeExpiry = some x → x ≤ s.now →
      ((desiredNow c s).desired = false ∨ s.supply.state = .battery) → exec (.restrikeExpiry c) s =
        .next (post .channelState (c.1 + 1) (channelDetail .cooling .off .expiry)
          (s.setLight c { r with state := .off, pendingOn := false, derived := desiredNow c s }))) ∧
    (∀ x, s.warm.held = none → r.state = .cooling → r.restrikeExpiry = some x → x ≤ s.now →
      (desiredNow c s).desired = true → s.supply.state = .mains → exec (.restrikeExpiry c) s =
        .next (switchOn c .expiry (s.setLight c { r with derived := desiredNow c s }))) ∧
    ((s.warm.held ≠ none ∨ r.state ≠ .cooling ∨ ∃ x, r.restrikeExpiry = some x ∧ s.now < x) →
      exec (.restrikeExpiry c) s = .next s) ∧
    (s.warm.held = none → r.state = .lit → r.sense = true → r.watch = .idle →
      (r.kind = .discharge ∨ ∃ x, r.switchOn = some x ∧ x + 2000 ≤ s.now) → exec (.senseWatchStart c) s =
        .next (s.setLight c { r with watch := .running (if s.lines.lampSense[c] = true then none else some s.now) })) ∧
    ((s.warm.held ≠ none ∨ r.state ≠ .lit ∨ r.sense = false ∨ r.watch ≠ .idle ∨
      (r.kind = .relay ∧ ∃ x, r.switchOn = some x ∧ s.now < x + 2000)) →
      exec (.senseWatchStart c) s = .next s) ∧
    (∀ current, let moved := s.setLines { s.lines with lampSense := s.lines.lampSense.set c current }
      (r.watch = .idle → exec (.lampSenseChange c current) s = .next moved) ∧
      (∀ a, r.watch = .running a → exec (.lampSenseChange c current) s = .next (moved.setLight c { r with
        watch := .running (if current = true then none else some (a.getD s.now)) }))) ∧
    (∀ x, s.warm.held = none → r.state = .lit → r.watch = .running (some x) → x + 10000 ≤ s.now →
      exec (.lampFailed c) s = .next (post .channelState (c.1 + 1) (channelDetail .lit .failed .sense)
        (post .lampFailed (c.1 + 1) (lampDetail r.kind ((s.now - r.switchOn.getD 0) / 1000)) (s.setLight c { r with
          warmEnd := none, watch := .idle, lastOff := .sense, pendingOn := false, state := .failed
          restrikeExpiry := some (s.now + r.restrike * 1000) })))) ∧
    ((s.warm.held ≠ none ∨ r.state ≠ .lit ∨ r.watch = .idle ∨ r.watch = .running none ∨
      ∃ x, r.watch = .running (some x) ∧ s.now < x + 10000) → exec (.lampFailed c) s = .next s)

/-- The requests of a channel (R176, R177, R178) at ports whose role permits them; each completes. LIGHT_CONFIG writes the
record, clamped, starts or stops the sense watch of a LIT channel (within 2 s of a RELAY's switch-on it waits: the
model's choice, log entry 26), puts a FAILED channel made not configured in OFF or COOLING with cause CONFIG, and
derives the channel (R164); LIGHT_OVERRIDE sets an override with its expiry and derives; LIGHT_FAULT_CLEAR clears a
failure and derives; each response shows the state after. A change of kind, or of whether a channel is configured, is
BUSY but in OFF, or to not configured in FAILED; values outside their ranges are RANGE. That a channel not configured
is OFF or COOLING is an invariant stated with the others. The expiry's day goes as a date (the model's choice, log
entry 18). -/
def Obligations.TheRequestsOfAChannel : Prop :=
  ∀ (c : Fin 8) (p : Port) (tag : Byte) (s : State), PortFree p s →
    let r := s.light c
    (∀ (a : LightArgs) (k : LampKind), p ≠ .l2 → a.channel = c.1 + 1 → a.configured ≤ 1 →
      a.kind = k.code → a.follow ≤ 1 → a.sense ≤ 1 → (a.revision = 255 ∨ a.revision = r.revision) →
      (k = r.kind ∨ r.state = .off) →
      ((a.configured = 1 ↔ r.configured = true) ∨ r.state = .off ∨ (r.state = .failed ∧ a.configured = 0)) →
      let written : Channel := { r with
        configured := a.configured == 1, kind := k, follow := a.follow == 1, sense := a.sense == 1
        warmUp := if a.warmUp = 0xFFFF then (if k = .discharge then 180 else 0) else min 600 a.warmUp
        restrike := if a.restrike = 0xFFFF then (if k = .discharge then 600 else 0) else min 1800 a.restrike
        revision := nextRevision r.revision
        override := if a.configured = 0 then .auto else r.override
        expiry := if a.configured = 0 then none else r.expiry
        state := if r.state = .failed ∧ r.configured = true ∧ a.configured = 0 then
            (if (∃ x, r.restrikeExpiry = some x ∧ x ≤ s.now) then .off else .cooling)
          else r.state
        watch := if a.sense = 0 then .idle
          else if r.state = .lit ∧ r.watch = .idle ∧ (k = .discharge ∨ r.switchOn.getD 0 + 2000 ≤ s.now) then
            .running (if s.lines.lampSense[c] = true then none else some s.now)
          else r.watch }
      let u := s.setLight c written
      let t := deriveLight c (if written.state = r.state then u
        else post .channelState (c.1 + 1) (channelDetail .failed written.state .config) u)
      exec (.lightConfig p tag a) s =
          .next (answered p tag .ok ((t.light c).configBytes ++ be1 (t.light c).state.code) t) ∧
        (t.light c).configBytes = written.configBytes ∧ (t.light c).override = written.override ∧
        (t.light c).expiry = written.expiry ∧ (ChannelsOk s → a.configured = 0 → (t.light c).state ≠ .failed) ∧
        Frame [.lights, .notices, .ports] s t ∧ ∀ d, d ≠ c → t.light d = s.light d) ∧
    (∀ a : LightArgs, p ≠ .l2 →
      (a.channel = 0 ∨ 8 < a.channel ∨ 1 < a.configured ∨ 1 < a.kind ∨ 1 < a.follow ∨ 1 < a.sense) →
      exec (.lightConfig p tag a) s = .next (answered p tag .range [] s)) ∧
    (∀ (a : LightArgs) (k : LampKind), p ≠ .l2 → a.channel = c.1 + 1 → a.configured ≤ 1 → a.kind = k.code →
      a.follow ≤ 1 → a.sense ≤ 1 → (a.revision = 255 ∨ a.revision = r.revision) → k ≠ r.kind → r.state ≠ .off →
      exec (.lightConfig p tag a) s = .next (answered p tag .busy [] s)) ∧
    (∀ (a : LightArgs) (k : LampKind), p ≠ .l2 → a.channel = c.1 + 1 → a.configured ≤ 1 → a.kind = k.code →
      a.follow ≤ 1 → a.sense ≤ 1 → (a.revision = 255 ∨ a.revision = r.revision) →
      ¬ (a.configured = 1 ↔ r.configured = true) → r.state ≠ .off → ¬ (r.state = .failed ∧ a.configured = 0) →
      exec (.lightConfig p tag a) s = .next (answered p tag .busy [] s)) ∧
    (∀ (a : LightArgs) (k : LampKind), p ≠ .l2 → a.channel = c.1 + 1 → a.configured ≤ 1 → a.kind = k.code →
      a.follow ≤ 1 → a.sense ≤ 1 → a.revision ≠ 255 → a.revision ≠ r.revision →
      exec (.lightConfig p tag a) s = .next (answered p tag .stale (be1 r.revision) s)) ∧
    (∀ m : Override, p = .l3 → r.configured = true →
      let t := deriveLight c (s.setLight c { r with override := m, expiry := none })
      exec (.lightOverride p tag (c.1 + 1) m.code 0xFFFF) s = .next (answered p tag .ok
        (be1 m.code ++ List.replicate 6 0xFF ++ be1 (t.light c).state.code ++ beFlag (t.light c).pendingOn) t)) ∧
    (∀ (m : Override) u l, p = .l3 → r.configured = true → m ≠ .auto → u ≤ 1439 → s.tb.label = some l →
      let now := civilOf s.civil.offset l
      let x : DayMinute := { day := if now.minute < u then now.day else (now.day + 1) % 65536, minute := u }
      let t := deriveLight c (s.setLight c { r with override := m, expiry := some x })
      exec (.lightOverride p tag (c.1 + 1) m.code u) s = .next (answered p tag .ok
        (be1 m.code ++ beDayMinute x ++ be1 (t.light c).state.code ++ beFlag (t.light c).pendingOn) t)) ∧
    (∀ (m : Override) u, p = .l3 → m ≠ .auto → u ≤ 1439 → s.tb.label = none → r.configured = true →
      exec (.lightOverride p tag (c.1 + 1) m.code u) s = .next (answered p tag .unset [] s)) ∧
    (∀ (m : Override) u, p = .l3 → r.configured = false → (u = 0xFFFF ∨ (u ≤ 1439 ∧ m ≠ .auto)) →
      exec (.lightOverride p tag (c.1 + 1) m.code u) s = .next (answered p tag .notFitted [] s)) ∧
    (∀ channel mode u, p = .l3 →
      (channel = 0 ∨ 8 < channel ∨ 2 < mode ∨ (u ≠ 0xFFFF ∧ (1439 < u ∨ mode = Override.auto.code))) →
      exec (.lightOverride p tag channel mode u) s = .next (answered p tag .range [] s)) ∧
    (∀ channel, p ≠ .l2 → (channel = 0 ∨ 8 < channel) →
      exec (.lightFaultClear p tag channel) s = .next (answered p tag .range [] s)) ∧
    (p ≠ .l2 → r.state = .failed →
      let st : ChannelState := if (∃ x, r.restrikeExpiry = some x ∧ x ≤ s.now) then .off else .cooling
      let t := deriveLight c (post .channelState (c.1 + 1) (channelDetail .failed st .clear)
        (s.setLight c { r with state := st }))
      exec (.lightFaultClear p tag (c.1 + 1)) s = .next (answered p tag .ok
        (be1 (t.light c).state.code ++ beSpan ((t.light c).restrikeLeft s.now)) t)) ∧
    (p ≠ .l2 → r.state ≠ .failed →
      exec (.lightFaultClear p tag (c.1 + 1)) s = .next (answered p tag .state (be1 r.state.code) s))

/-! ### Supply and reset -/

/-- The lines of the supply and of reset (R180, R182, R185, R187): each change starts or stops the timing of its
line, and the battery-low mark follows BATT_LOW after 1,000 ms, reported once in a BATTERY period. A line change to
the level it has and a settling of BATT_LOW before its time change nothing (log entry 2). -/
def Obligations.TheSupplyAndResetLines : Prop :=
  ∀ (high : Bool) (s : State),
    (s.lines.mainsOk = high → exec (.mainsOkChange high) s = .next s) ∧
    (s.lines.mainsOk ≠ high → exec (.mainsOkChange high) s = .next { s with
      lines := { s.lines with mainsOk := high }
      supply := { s.supply with
        debounce := if (high = false ∧ s.supply.state = .mains) ∨ (high = true ∧ s.supply.state = .battery)
          then some s.now else none } }) ∧
    (s.lines.battLow = high → exec (.battLowChange high) s = .next s) ∧
    (s.lines.battLow ≠ high → exec (.battLowChange high) s = .next { s with
      lines := { s.lines with battLow := high }
      supply := { s.supply with lowSince := if high = s.supply.low then none else some s.now } }) ∧
    (s.lines.resetN = high → exec (.resetNChange high) s = .next s) ∧
    (s.lines.resetN ≠ high → exec (.resetNChange high) s = .next { s with
      lines := { s.lines with resetN := high }
      warm := { s.warm with
        since := if (high = false ∧ s.warm.held = none) ∨ (high = true ∧ s.warm.held ≠ none)
          then some s.now else none } }) ∧
    (∀ x, s.supply.lowSince = some x → x + 1000 ≤ s.now →
      let u := { s with supply := { s.supply with low := s.lines.battLow, lowSince := none } }
      exec .batteryLowSettled s = .next (
        if s.supply.state = .battery ∧ s.lines.battLow = true ∧ s.supply.reported = false then
          post .batteryLow 0 (BitVec.ofNat 16 (min 65535 ((s.now - s.supply.since) / 1000)))
            { u with supply := { u.supply with reported := true } }
        else u)) ∧
    ((s.supply.lowSince = none ∨ ∃ x, s.supply.lowSince = some x ∧ s.now < x + 1000) →
      exec .batteryLowSettled s = .next s)

/-- The supply state (R180, R181): 200 ms of low make BATTERY, 5,000 ms of high make MAINS, and the blocks react, but
not in a warm reset; a return posts its notice before them. On BATTERY every output is released, every running
session stops with cause SUPPLY, every toll ends, a held quarter is dropped and an impulse past half its width counts
as delivered. The order of the blocks is log entry 24; a loss or return without its condition changes nothing (log
entry 2). -/
def Obligations.LossAndReturnOfMains : Prop :=
  (∀ s x, s.supply.state = .mains → s.supply.debounce = some x → x + 200 ≤ s.now → ∃ t, exec .mainsLost s = .next t ∧
    t.supply.state = .battery ∧ t.supply.debounce = none ∧ t.supply.since = s.now ∧
    t.supply.reported = (s.supply.low) ∧ t.tb = s.tb ∧ t.lines = s.lines ∧
    (s.warm.held = none → AllOff t ∧ t.strike.held = none ∧ (∀ n, t.toll n = none) ∧
      (∀ n, (s.session n).phase = .startingBells ∨ (s.session n).phase = .ringing → (t.session n).endCause = .supply ∧
        ((t.session n).phase = .stoppingBells ∨ (t.session n).phase = .ended)) ∧
      (∀ d i, (s.dial d).flight = some i → (t.dial d).flight = none ∧
        (t.dial d).position = if i.superseded = false ∧ i.width ≤ 2 * (s.now - i.start)
          then ((s.dial d).position + 1) % 1440 else (s.dial d).position)) ∧
    Frame [.dials, .holders, .guards, .hammers, .swings, .sessions, .queue, .quarters, .held, .tolls, .lights, .supply,
      .notices, .ports] s t ∧
    (s.warm.held ≠ none → Frame [.supply, .notices] s t)) ∧
  (∀ s x, s.supply.state = .battery → s.supply.debounce = some x → x + 5000 ≤ s.now →
    let u := post .mainsRestored 0 (BitVec.ofNat 16 (min 65535 ((s.now - s.supply.since) / 1000)))
      { s with supply := { s.supply with state := .mains, debounce := none, since := s.now } }
    exec .mainsRestored s = .next (
      if s.warm.held = none then deriveLights (allBells.foldl (fun s b => guardResume b s) (dialsFull u)) else u)) ∧
  (∀ s : State, (s.supply.state = .battery ∨ s.supply.debounce = none ∨
    ∃ x, s.supply.debounce = some x ∧ s.now < x + 200) → exec .mainsLost s = .next s) ∧
  (∀ s : State, (s.supply.state = .mains ∨ s.supply.debounce = none ∨
    ∃ x, s.supply.debounce = some x ∧ s.now < x + 5000) → exec .mainsRestored s = .next s)

/-- Warm reset (R26, R57, R85, R94, R103, R116, R145, R146, R157, R162, R175, R183, R185 to R187): after 10 ms of low
every output is released, the working state is dropped and the ports return to their defaults; all else stands. After
10 ms of high it completes, with WARM_RESET_DONE first; a lamp whose restrike time fell due is no longer COOLING, and
a configuration, an override not due and a FAILED channel still stand. The fields resetLeft and heldUntil are the
model's own (log entries 28 and 16), and the order of the bells and of the deadlines is log entry 39; an entry or
completion without its condition changes nothing (log entry 2). -/
def Obligations.WarmReset : Prop :=
  (∀ s x, s.warm.held = none → s.warm.since = some x → x + 10 ≤ s.now → ∃ t, exec .warmResetEntry s = .next t ∧
    t.warm.held = some s.now ∧ t.warm.since = none ∧ t.warm.notices = [] ∧ AllOff t ∧
    (∀ p, t.port p = coldPort (portIndex p)) ∧ (∀ p, t.attn p = false) ∧
    (∀ d, t.dial d = { s.dial d with flight := none, owed := .none }) ∧
    (∀ b, t.bell b = { s.bell b with
      pulseEnd := none, guard := { (s.bell b).guard with motion := .idle, deadline := none } }) ∧
    (∀ b, t.swing b = { state := .stopping, motor := false, lastPulse := none, history := [], qualifying := 0,
                        motorOn := none, settleDeadline := none, fault := .none }) ∧
    (∀ n, t.session n = if (s.session n).phase = .ended then s.session n else { s.session n with
      phase := .stoppingBells, nextStart := none, nextStop := none
      endCause := if (s.session n).phase = .stoppingBells then (s.session n).endCause else .warmReset }) ∧
    (∀ n, t.tune n = if (s.tune n).isEditing = true then { content := .empty, revision := (s.tune n).revision }
      else s.tune n) ∧
    t.strike.queue = [] ∧ t.strike.held = none ∧ (∀ n, t.toll n = none) ∧
    (t.ref = { s.ref with
      rx := []
      message := s.ref.message.map (fun m => if m.pairing = .waiting then { m with pairing := .expired } else m) }) ∧
    (∀ c, let r := s.light c
      t.light c = if r.state = .warming ∨ r.state = .lit then { r with
          state := if r.restrike = 0 then .off else .cooling, lastOff := .reset
          restrikeExpiry := some (s.now + r.restrike * 1000), resetLeft := some r.state
          switchOn := none, warmEnd := none, pendingOn := false, watch := .idle }
        else { r with switchOn := none, warmEnd := none, pendingOn := false, watch := .idle }) ∧
    Frame [.ref, .dials, .guards, .hammers, .swings, .sessions, .tunes, .queue, .held, .tolls, .lights, .hold,
      .notices, .ports] s t) ∧
  (∀ s x y, s.warm.held = some y → s.warm.since = some x → x + 10 ≤ s.now → ∃ t, exec .warmResetCompletion s = .next t ∧
    t.warm = {} ∧ (∀ b, (t.swing b).settleDeadline = some (s.now + (s.bell b).config.settle * 1000)) ∧
    (∀ p, (s.port p).queue = [] → (s.port p).routing.getLsbD 7 = true → (t.port p).queue.head? = some
      { kind := .warmResetDone, subject := 0, detail := BitVec.ofNat 16 (min 65535 (s.now - y)), stamp := s.now,
        label := s.tb.label }) ∧
    t.cal = { s.cal with heldUntil := s.civilNow.map Label.dayMinute } ∧
    (∀ d, t.dial d = { s.dial d with state := (t.dial d).state, owed := (t.dial d).owed }) ∧
    (∀ b, ((s.bell b).guard.atEng.since = none → (t.bell b).guard.atEng = (s.bell b).guard.atEng) ∧
      ((s.bell b).guard.atDis.since = none → (t.bell b).guard.atDis = (s.bell b).guard.atDis)) ∧
    (∀ c, let r := s.light c
      let q := t.light c
      q.configured = r.configured ∧ q.kind = r.kind ∧ q.warmUp = r.warmUp ∧ q.restrike = r.restrike ∧
      q.follow = r.follow ∧ q.sense = r.sense ∧ q.revision = r.revision ∧ q.resetLeft = none ∧
      (overrideReached c s = false → q.override = r.override ∧ q.expiry = r.expiry) ∧
      (overrideReached c s = true → q.override = .auto ∧ q.expiry = none) ∧
      (r.state = .failed → q.state = .failed) ∧
      (∀ z, q.state = .cooling → q.restrikeExpiry = some z → s.now < z)) ∧
    Frame [.dials, .guards, .swings, .sessions, .cal, .lights, .hold, .notices, .ports] s t) ∧
  (∀ s : State, (s.warm.held ≠ none ∨ s.warm.since = none ∨ ∃ x, s.warm.since = some x ∧ s.now < x + 10) →
    exec .warmResetEntry s = .next s) ∧
  (∀ s : State, (s.warm.held = none ∨ s.warm.since = none ∨ ∃ x, s.warm.since = some x ∧ s.now < x + 10) →
    exec .warmResetCompletion s = .next s)

/-- Whatever step is taken, no field output is driven on BATTERY or in a warm reset (R181, R185, R186), and no lamp is on
within its restrike time (R168). -/
def Obligations.NoOutputOnBatteryAndNoLampWithinItsRestrike : Prop :=
  (∀ s t, DarkOk s → step s = .next t → DarkOk t) ∧ (∀ s t, LampsOk s → step s = .next t → LampsOk t)
end

