-- ==== Sys2Proof/Laws/State.lean ====
section
/-! SUPPORT. What each update of a record leaves: one lemma per field per update, true by rfl, and what is read
back from the record written. -/

namespace Sys2Proof.Machine

variable (s : State)

/-! ### setDial -/

@[simp] theorem State.setDial_tb (i : Fin 4) (r : Dial) : (s.setDial i r).tb = s.tb := rfl
@[simp] theorem State.setDial_ref (i : Fin 4) (r : Dial) : (s.setDial i r).ref = s.ref := rfl
@[simp] theorem State.setDial_civil (i : Fin 4) (r : Dial) : (s.setDial i r).civil = s.civil := rfl
@[simp] theorem State.setDial_days (i : Fin 4) (r : Dial) : (s.setDial i r).days = s.days := rfl
@[simp] theorem State.setDial_sun (i : Fin 4) (r : Dial) : (s.setDial i r).sun = s.sun := rfl
@[simp] theorem State.setDial_bells (i : Fin 4) (r : Dial) : (s.setDial i r).bells = s.bells := rfl
@[simp] theorem State.setDial_swings (i : Fin 4) (r : Dial) : (s.setDial i r).swings = s.swings := rfl
@[simp] theorem State.setDial_sessions (i : Fin 4) (r : Dial) : (s.setDial i r).sessions = s.sessions := rfl
@[simp] theorem State.setDial_tunes (i : Fin 4) (r : Dial) : (s.setDial i r).tunes = s.tunes := rfl
@[simp] theorem State.setDial_ordinary (i : Fin 4) (r : Dial) : (s.setDial i r).ordinary = s.ordinary := rfl
@[simp] theorem State.setDial_festal (i : Fin 4) (r : Dial) : (s.setDial i r).festal = s.festal := rfl
@[simp] theorem State.setDial_strike (i : Fin 4) (r : Dial) : (s.setDial i r).strike = s.strike := rfl
@[simp] theorem State.setDial_cal (i : Fin 4) (r : Dial) : (s.setDial i r).cal = s.cal := rfl
@[simp] theorem State.setDial_lights (i : Fin 4) (r : Dial) : (s.setDial i r).lights = s.lights := rfl
@[simp] theorem State.setDial_supply (i : Fin 4) (r : Dial) : (s.setDial i r).supply = s.supply := rfl
@[simp] theorem State.setDial_warm (i : Fin 4) (r : Dial) : (s.setDial i r).warm = s.warm := rfl
@[simp] theorem State.setDial_ports (i : Fin 4) (r : Dial) : (s.setDial i r).ports = s.ports := rfl
@[simp] theorem State.setDial_lines (i : Fin 4) (r : Dial) : (s.setDial i r).lines = s.lines := rfl
@[simp] theorem State.setDial_pending (i : Fin 4) (r : Dial) : (s.setDial i r).pending = s.pending := rfl
@[simp] theorem State.setDial_bell (i : Fin 4) (r : Dial) (b : Fin 16) : (s.setDial i r).bell b = s.bell b := rfl
@[simp] theorem State.setDial_swing (i : Fin 4) (r : Dial) (b : Fin 16) : (s.setDial i r).swing b = s.swing b := rfl
@[simp] theorem State.setDial_session (i : Fin 4) (r : Dial) (n : Fin 4) : (s.setDial i r).session n = s.session n := rfl
@[simp] theorem State.setDial_tune (i : Fin 4) (r : Dial) (t : Fin 24) : (s.setDial i r).tune t = s.tune t := rfl
@[simp] theorem State.setDial_event (i : Fin 4) (r : Dial) (e : Fin 96) : (s.setDial i r).event e = s.event e := rfl
@[simp] theorem State.setDial_light (i : Fin 4) (r : Dial) (c : Fin 8) : (s.setDial i r).light c = s.light c := rfl
@[simp] theorem State.setDial_port (i : Fin 4) (r : Dial) (p : Port) : (s.setDial i r).port p = s.port p := rfl
@[simp] theorem State.setDial_toll (i : Fin 4) (r : Dial) (t : Fin 4) : (s.setDial i r).toll t = s.toll t := rfl
@[simp] theorem State.setDial_now (i : Fin 4) (r : Dial) : (s.setDial i r).now = s.now := rfl
@[simp] theorem State.setDial_label (i : Fin 4) (r : Dial) : (s.setDial i r).label = s.label := rfl
@[simp] theorem State.setDial_timeValid (i : Fin 4) (r : Dial) : (s.setDial i r).timeValid = s.timeValid := rfl
@[simp] theorem State.setDial_civilNow (i : Fin 4) (r : Dial) : (s.setDial i r).civilNow = s.civilNow := rfl
@[simp] theorem State.setDial_isHeld (i : Fin 4) (r : Dial) : (s.setDial i r).isHeld = s.isHeld := rfl
@[simp] theorem State.setDial_onMains (i : Fin 4) (r : Dial) : (s.setDial i r).onMains = s.onMains := rfl

/-! ### setBell -/

@[simp] theorem State.setBell_tb (i : Fin 16) (r : Bell) : (s.setBell i r).tb = s.tb := rfl
@[simp] theorem State.setBell_ref (i : Fin 16) (r : Bell) : (s.setBell i r).ref = s.ref := rfl
@[simp] theorem State.setBell_civil (i : Fin 16) (r : Bell) : (s.setBell i r).civil = s.civil := rfl
@[simp] theorem State.setBell_days (i : Fin 16) (r : Bell) : (s.setBell i r).days = s.days := rfl
@[simp] theorem State.setBell_sun (i : Fin 16) (r : Bell) : (s.setBell i r).sun = s.sun := rfl
@[simp] theorem State.setBell_dials (i : Fin 16) (r : Bell) : (s.setBell i r).dials = s.dials := rfl
@[simp] theorem State.setBell_swings (i : Fin 16) (r : Bell) : (s.setBell i r).swings = s.swings := rfl
@[simp] theorem State.setBell_sessions (i : Fin 16) (r : Bell) : (s.setBell i r).sessions = s.sessions := rfl
@[simp] theorem State.setBell_tunes (i : Fin 16) (r : Bell) : (s.setBell i r).tunes = s.tunes := rfl
@[simp] theorem State.setBell_ordinary (i : Fin 16) (r : Bell) : (s.setBell i r).ordinary = s.ordinary := rfl
@[simp] theorem State.setBell_festal (i : Fin 16) (r : Bell) : (s.setBell i r).festal = s.festal := rfl
@[simp] theorem State.setBell_strike (i : Fin 16) (r : Bell) : (s.setBell i r).strike = s.strike := rfl
@[simp] theorem State.setBell_cal (i : Fin 16) (r : Bell) : (s.setBell i r).cal = s.cal := rfl
@[simp] theorem State.setBell_lights (i : Fin 16) (r : Bell) : (s.setBell i r).lights = s.lights := rfl
@[simp] theorem State.setBell_supply (i : Fin 16) (r : Bell) : (s.setBell i r).supply = s.supply := rfl
@[simp] theorem State.setBell_warm (i : Fin 16) (r : Bell) : (s.setBell i r).warm = s.warm := rfl
@[simp] theorem State.setBell_ports (i : Fin 16) (r : Bell) : (s.setBell i r).ports = s.ports := rfl
@[simp] theorem State.setBell_lines (i : Fin 16) (r : Bell) : (s.setBell i r).lines = s.lines := rfl
@[simp] theorem State.setBell_pending (i : Fin 16) (r : Bell) : (s.setBell i r).pending = s.pending := rfl
@[simp] theorem State.setBell_dial (i : Fin 16) (r : Bell) (d : Fin 4) : (s.setBell i r).dial d = s.dial d := rfl
@[simp] theorem State.setBell_swing (i : Fin 16) (r : Bell) (b : Fin 16) : (s.setBell i r).swing b = s.swing b := rfl
@[simp] theorem State.setBell_session (i : Fin 16) (r : Bell) (n : Fin 4) : (s.setBell i r).session n = s.session n := rfl
@[simp] theorem State.setBell_tune (i : Fin 16) (r : Bell) (t : Fin 24) : (s.setBell i r).tune t = s.tune t := rfl
@[simp] theorem State.setBell_event (i : Fin 16) (r : Bell) (e : Fin 96) : (s.setBell i r).event e = s.event e := rfl
@[simp] theorem State.setBell_light (i : Fin 16) (r : Bell) (c : Fin 8) : (s.setBell i r).light c = s.light c := rfl
@[simp] theorem State.setBell_port (i : Fin 16) (r : Bell) (p : Port) : (s.setBell i r).port p = s.port p := rfl
@[simp] theorem State.setBell_toll (i : Fin 16) (r : Bell) (t : Fin 4) : (s.setBell i r).toll t = s.toll t := rfl
@[simp] theorem State.setBell_now (i : Fin 16) (r : Bell) : (s.setBell i r).now = s.now := rfl
@[simp] theorem State.setBell_label (i : Fin 16) (r : Bell) : (s.setBell i r).label = s.label := rfl
@[simp] theorem State.setBell_timeValid (i : Fin 16) (r : Bell) : (s.setBell i r).timeValid = s.timeValid := rfl
@[simp] theorem State.setBell_civilNow (i : Fin 16) (r : Bell) : (s.setBell i r).civilNow = s.civilNow := rfl
@[simp] theorem State.setBell_isHeld (i : Fin 16) (r : Bell) : (s.setBell i r).isHeld = s.isHeld := rfl
@[simp] theorem State.setBell_onMains (i : Fin 16) (r : Bell) : (s.setBell i r).onMains = s.onMains := rfl

/-! ### setGuard -/

@[simp] theorem State.setGuard_tb (i : Fin 16) (r : Guard) : (s.setGuard i r).tb = s.tb := rfl
@[simp] theorem State.setGuard_ref (i : Fin 16) (r : Guard) : (s.setGuard i r).ref = s.ref := rfl
@[simp] theorem State.setGuard_civil (i : Fin 16) (r : Guard) : (s.setGuard i r).civil = s.civil := rfl
@[simp] theorem State.setGuard_days (i : Fin 16) (r : Guard) : (s.setGuard i r).days = s.days := rfl
@[simp] theorem State.setGuard_sun (i : Fin 16) (r : Guard) : (s.setGuard i r).sun = s.sun := rfl
@[simp] theorem State.setGuard_dials (i : Fin 16) (r : Guard) : (s.setGuard i r).dials = s.dials := rfl
@[simp] theorem State.setGuard_swings (i : Fin 16) (r : Guard) : (s.setGuard i r).swings = s.swings := rfl
@[simp] theorem State.setGuard_sessions (i : Fin 16) (r : Guard) : (s.setGuard i r).sessions = s.sessions := rfl
@[simp] theorem State.setGuard_tunes (i : Fin 16) (r : Guard) : (s.setGuard i r).tunes = s.tunes := rfl
@[simp] theorem State.setGuard_ordinary (i : Fin 16) (r : Guard) : (s.setGuard i r).ordinary = s.ordinary := rfl
@[simp] theorem State.setGuard_festal (i : Fin 16) (r : Guard) : (s.setGuard i r).festal = s.festal := rfl
@[simp] theorem State.setGuard_strike (i : Fin 16) (r : Guard) : (s.setGuard i r).strike = s.strike := rfl
@[simp] theorem State.setGuard_cal (i : Fin 16) (r : Guard) : (s.setGuard i r).cal = s.cal := rfl
@[simp] theorem State.setGuard_lights (i : Fin 16) (r : Guard) : (s.setGuard i r).lights = s.lights := rfl
@[simp] theorem State.setGuard_supply (i : Fin 16) (r : Guard) : (s.setGuard i r).supply = s.supply := rfl
@[simp] theorem State.setGuard_warm (i : Fin 16) (r : Guard) : (s.setGuard i r).warm = s.warm := rfl
@[simp] theorem State.setGuard_ports (i : Fin 16) (r : Guard) : (s.setGuard i r).ports = s.ports := rfl
@[simp] theorem State.setGuard_lines (i : Fin 16) (r : Guard) : (s.setGuard i r).lines = s.lines := rfl
@[simp] theorem State.setGuard_pending (i : Fin 16) (r : Guard) : (s.setGuard i r).pending = s.pending := rfl
@[simp] theorem State.setGuard_dial (i : Fin 16) (r : Guard) (d : Fin 4) : (s.setGuard i r).dial d = s.dial d := rfl
@[simp] theorem State.setGuard_swing (i : Fin 16) (r : Guard) (b : Fin 16) : (s.setGuard i r).swing b = s.swing b := rfl
@[simp] theorem State.setGuard_session (i : Fin 16) (r : Guard) (n : Fin 4) : (s.setGuard i r).session n = s.session n := rfl
@[simp] theorem State.setGuard_tune (i : Fin 16) (r : Guard) (t : Fin 24) : (s.setGuard i r).tune t = s.tune t := rfl
@[simp] theorem State.setGuard_event (i : Fin 16) (r : Guard) (e : Fin 96) : (s.setGuard i r).event e = s.event e := rfl
@[simp] theorem State.setGuard_light (i : Fin 16) (r : Guard) (c : Fin 8) : (s.setGuard i r).light c = s.light c := rfl
@[simp] theorem State.setGuard_port (i : Fin 16) (r : Guard) (p : Port) : (s.setGuard i r).port p = s.port p := rfl
@[simp] theorem State.setGuard_toll (i : Fin 16) (r : Guard) (t : Fin 4) : (s.setGuard i r).toll t = s.toll t := rfl
@[simp] theorem State.setGuard_now (i : Fin 16) (r : Guard) : (s.setGuard i r).now = s.now := rfl
@[simp] theorem State.setGuard_label (i : Fin 16) (r : Guard) : (s.setGuard i r).label = s.label := rfl
@[simp] theorem State.setGuard_timeValid (i : Fin 16) (r : Guard) : (s.setGuard i r).timeValid = s.timeValid := rfl
@[simp] theorem State.setGuard_civilNow (i : Fin 16) (r : Guard) : (s.setGuard i r).civilNow = s.civilNow := rfl
@[simp] theorem State.setGuard_isHeld (i : Fin 16) (r : Guard) : (s.setGuard i r).isHeld = s.isHeld := rfl
@[simp] theorem State.setGuard_onMains (i : Fin 16) (r : Guard) : (s.setGuard i r).onMains = s.onMains := rfl

/-! ### setSwing -/

@[simp] theorem State.setSwing_tb (i : Fin 16) (r : Swing) : (s.setSwing i r).tb = s.tb := rfl
@[simp] theorem State.setSwing_ref (i : Fin 16) (r : Swing) : (s.setSwing i r).ref = s.ref := rfl
@[simp] theorem State.setSwing_civil (i : Fin 16) (r : Swing) : (s.setSwing i r).civil = s.civil := rfl
@[simp] theorem State.setSwing_days (i : Fin 16) (r : Swing) : (s.setSwing i r).days = s.days := rfl
@[simp] theorem State.setSwing_sun (i : Fin 16) (r : Swing) : (s.setSwing i r).sun = s.sun := rfl
@[simp] theorem State.setSwing_dials (i : Fin 16) (r : Swing) : (s.setSwing i r).dials = s.dials := rfl
@[simp] theorem State.setSwing_bells (i : Fin 16) (r : Swing) : (s.setSwing i r).bells = s.bells := rfl
@[simp] theorem State.setSwing_sessions (i : Fin 16) (r : Swing) : (s.setSwing i r).sessions = s.sessions := rfl
@[simp] theorem State.setSwing_tunes (i : Fin 16) (r : Swing) : (s.setSwing i r).tunes = s.tunes := rfl
@[simp] theorem State.setSwing_ordinary (i : Fin 16) (r : Swing) : (s.setSwing i r).ordinary = s.ordinary := rfl
@[simp] theorem State.setSwing_festal (i : Fin 16) (r : Swing) : (s.setSwing i r).festal = s.festal := rfl
@[simp] theorem State.setSwing_strike (i : Fin 16) (r : Swing) : (s.setSwing i r).strike = s.strike := rfl
@[simp] theorem State.setSwing_cal (i : Fin 16) (r : Swing) : (s.setSwing i r).cal = s.cal := rfl
@[simp] theorem State.setSwing_lights (i : Fin 16) (r : Swing) : (s.setSwing i r).lights = s.lights := rfl
@[simp] theorem State.setSwing_supply (i : Fin 16) (r : Swing) : (s.setSwing i r).supply = s.supply := rfl
@[simp] theorem State.setSwing_warm (i : Fin 16) (r : Swing) : (s.setSwing i r).warm = s.warm := rfl
@[simp] theorem State.setSwing_ports (i : Fin 16) (r : Swing) : (s.setSwing i r).ports = s.ports := rfl
@[simp] theorem State.setSwing_lines (i : Fin 16) (r : Swing) : (s.setSwing i r).lines = s.lines := rfl
@[simp] theorem State.setSwing_pending (i : Fin 16) (r : Swing) : (s.setSwing i r).pending = s.pending := rfl
@[simp] theorem State.setSwing_dial (i : Fin 16) (r : Swing) (d : Fin 4) : (s.setSwing i r).dial d = s.dial d := rfl
@[simp] theorem State.setSwing_bell (i : Fin 16) (r : Swing) (b : Fin 16) : (s.setSwing i r).bell b = s.bell b := rfl
@[simp] theorem State.setSwing_session (i : Fin 16) (r : Swing) (n : Fin 4) : (s.setSwing i r).session n = s.session n := rfl
@[simp] theorem State.setSwing_tune (i : Fin 16) (r : Swing) (t : Fin 24) : (s.setSwing i r).tune t = s.tune t := rfl
@[simp] theorem State.setSwing_event (i : Fin 16) (r : Swing) (e : Fin 96) : (s.setSwing i r).event e = s.event e := rfl
@[simp] theorem State.setSwing_light (i : Fin 16) (r : Swing) (c : Fin 8) : (s.setSwing i r).light c = s.light c := rfl
@[simp] theorem State.setSwing_port (i : Fin 16) (r : Swing) (p : Port) : (s.setSwing i r).port p = s.port p := rfl
@[simp] theorem State.setSwing_toll (i : Fin 16) (r : Swing) (t : Fin 4) : (s.setSwing i r).toll t = s.toll t := rfl
@[simp] theorem State.setSwing_now (i : Fin 16) (r : Swing) : (s.setSwing i r).now = s.now := rfl
@[simp] theorem State.setSwing_label (i : Fin 16) (r : Swing) : (s.setSwing i r).label = s.label := rfl
@[simp] theorem State.setSwing_timeValid (i : Fin 16) (r : Swing) : (s.setSwing i r).timeValid = s.timeValid := rfl
@[simp] theorem State.setSwing_civilNow (i : Fin 16) (r : Swing) : (s.setSwing i r).civilNow = s.civilNow := rfl
@[simp] theorem State.setSwing_isHeld (i : Fin 16) (r : Swing) : (s.setSwing i r).isHeld = s.isHeld := rfl
@[simp] theorem State.setSwing_onMains (i : Fin 16) (r : Swing) : (s.setSwing i r).onMains = s.onMains := rfl

/-! ### setSession -/

@[simp] theorem State.setSession_tb (i : Fin 4) (r : Session) : (s.setSession i r).tb = s.tb := rfl
@[simp] theorem State.setSession_ref (i : Fin 4) (r : Session) : (s.setSession i r).ref = s.ref := rfl
@[simp] theorem State.setSession_civil (i : Fin 4) (r : Session) : (s.setSession i r).civil = s.civil := rfl
@[simp] theorem State.setSession_days (i : Fin 4) (r : Session) : (s.setSession i r).days = s.days := rfl
@[simp] theorem State.setSession_sun (i : Fin 4) (r : Session) : (s.setSession i r).sun = s.sun := rfl
@[simp] theorem State.setSession_dials (i : Fin 4) (r : Session) : (s.setSession i r).dials = s.dials := rfl
@[simp] theorem State.setSession_bells (i : Fin 4) (r : Session) : (s.setSession i r).bells = s.bells := rfl
@[simp] theorem State.setSession_swings (i : Fin 4) (r : Session) : (s.setSession i r).swings = s.swings := rfl
@[simp] theorem State.setSession_tunes (i : Fin 4) (r : Session) : (s.setSession i r).tunes = s.tunes := rfl
@[simp] theorem State.setSession_ordinary (i : Fin 4) (r : Session) : (s.setSession i r).ordinary = s.ordinary := rfl
@[simp] theorem State.setSession_festal (i : Fin 4) (r : Session) : (s.setSession i r).festal = s.festal := rfl
@[simp] theorem State.setSession_strike (i : Fin 4) (r : Session) : (s.setSession i r).strike = s.strike := rfl
@[simp] theorem State.setSession_cal (i : Fin 4) (r : Session) : (s.setSession i r).cal = s.cal := rfl
@[simp] theorem State.setSession_lights (i : Fin 4) (r : Session) : (s.setSession i r).lights = s.lights := rfl
@[simp] theorem State.setSession_supply (i : Fin 4) (r : Session) : (s.setSession i r).supply = s.supply := rfl
@[simp] theorem State.setSession_warm (i : Fin 4) (r : Session) : (s.setSession i r).warm = s.warm := rfl
@[simp] theorem State.setSession_ports (i : Fin 4) (r : Session) : (s.setSession i r).ports = s.ports := rfl
@[simp] theorem State.setSession_lines (i : Fin 4) (r : Session) : (s.setSession i r).lines = s.lines := rfl
@[simp] theorem State.setSession_pending (i : Fin 4) (r : Session) : (s.setSession i r).pending = s.pending := rfl
@[simp] theorem State.setSession_dial (i : Fin 4) (r : Session) (d : Fin 4) : (s.setSession i r).dial d = s.dial d := rfl
@[simp] theorem State.setSession_bell (i : Fin 4) (r : Session) (b : Fin 16) : (s.setSession i r).bell b = s.bell b := rfl
@[simp] theorem State.setSession_swing (i : Fin 4) (r : Session) (b : Fin 16) : (s.setSession i r).swing b = s.swing b := rfl
@[simp] theorem State.setSession_tune (i : Fin 4) (r : Session) (t : Fin 24) : (s.setSession i r).tune t = s.tune t := rfl
@[simp] theorem State.setSession_event (i : Fin 4) (r : Session) (e : Fin 96) : (s.setSession i r).event e = s.event e := rfl
@[simp] theorem State.setSession_light (i : Fin 4) (r : Session) (c : Fin 8) : (s.setSession i r).light c = s.light c := rfl
@[simp] theorem State.setSession_port (i : Fin 4) (r : Session) (p : Port) : (s.setSession i r).port p = s.port p := rfl
@[simp] theorem State.setSession_toll (i : Fin 4) (r : Session) (t : Fin 4) : (s.setSession i r).toll t = s.toll t := rfl
@[simp] theorem State.setSession_now (i : Fin 4) (r : Session) : (s.setSession i r).now = s.now := rfl
@[simp] theorem State.setSession_label (i : Fin 4) (r : Session) : (s.setSession i r).label = s.label := rfl
@[simp] theorem State.setSession_timeValid (i : Fin 4) (r : Session) : (s.setSession i r).timeValid = s.timeValid := rfl
@[simp] theorem State.setSession_civilNow (i : Fin 4) (r : Session) : (s.setSession i r).civilNow = s.civilNow := rfl
@[simp] theorem State.setSession_isHeld (i : Fin 4) (r : Session) : (s.setSession i r).isHeld = s.isHeld := rfl
@[simp] theorem State.setSession_onMains (i : Fin 4) (r : Session) : (s.setSession i r).onMains = s.onMains := rfl

/-! ### setTune -/

@[simp] theorem State.setTune_tb (i : Fin 24) (r : Tune) : (s.setTune i r).tb = s.tb := rfl
@[simp] theorem State.setTune_ref (i : Fin 24) (r : Tune) : (s.setTune i r).ref = s.ref := rfl
@[simp] theorem State.setTune_civil (i : Fin 24) (r : Tune) : (s.setTune i r).civil = s.civil := rfl
@[simp] theorem State.setTune_days (i : Fin 24) (r : Tune) : (s.setTune i r).days = s.days := rfl
@[simp] theorem State.setTune_sun (i : Fin 24) (r : Tune) : (s.setTune i r).sun = s.sun := rfl
@[simp] theorem State.setTune_dials (i : Fin 24) (r : Tune) : (s.setTune i r).dials = s.dials := rfl
@[simp] theorem State.setTune_bells (i : Fin 24) (r : Tune) : (s.setTune i r).bells = s.bells := rfl
@[simp] theorem State.setTune_swings (i : Fin 24) (r : Tune) : (s.setTune i r).swings = s.swings := rfl
@[simp] theorem State.setTune_sessions (i : Fin 24) (r : Tune) : (s.setTune i r).sessions = s.sessions := rfl
@[simp] theorem State.setTune_ordinary (i : Fin 24) (r : Tune) : (s.setTune i r).ordinary = s.ordinary := rfl
@[simp] theorem State.setTune_festal (i : Fin 24) (r : Tune) : (s.setTune i r).festal = s.festal := rfl
@[simp] theorem State.setTune_strike (i : Fin 24) (r : Tune) : (s.setTune i r).strike = s.strike := rfl
@[simp] theorem State.setTune_cal (i : Fin 24) (r : Tune) : (s.setTune i r).cal = s.cal := rfl
@[simp] theorem State.setTune_lights (i : Fin 24) (r : Tune) : (s.setTune i r).lights = s.lights := rfl
@[simp] theorem State.setTune_supply (i : Fin 24) (r : Tune) : (s.setTune i r).supply = s.supply := rfl
@[simp] theorem State.setTune_warm (i : Fin 24) (r : Tune) : (s.setTune i r).warm = s.warm := rfl
@[simp] theorem State.setTune_ports (i : Fin 24) (r : Tune) : (s.setTune i r).ports = s.ports := rfl
@[simp] theorem State.setTune_lines (i : Fin 24) (r : Tune) : (s.setTune i r).lines = s.lines := rfl
@[simp] theorem State.setTune_pending (i : Fin 24) (r : Tune) : (s.setTune i r).pending = s.pending := rfl
@[simp] theorem State.setTune_dial (i : Fin 24) (r : Tune) (d : Fin 4) : (s.setTune i r).dial d = s.dial d := rfl
@[simp] theorem State.setTune_bell (i : Fin 24) (r : Tune) (b : Fin 16) : (s.setTune i r).bell b = s.bell b := rfl
@[simp] theorem State.setTune_swing (i : Fin 24) (r : Tune) (b : Fin 16) : (s.setTune i r).swing b = s.swing b := rfl
@[simp] theorem State.setTune_session (i : Fin 24) (r : Tune) (n : Fin 4) : (s.setTune i r).session n = s.session n := rfl
@[simp] theorem State.setTune_event (i : Fin 24) (r : Tune) (e : Fin 96) : (s.setTune i r).event e = s.event e := rfl
@[simp] theorem State.setTune_light (i : Fin 24) (r : Tune) (c : Fin 8) : (s.setTune i r).light c = s.light c := rfl
@[simp] theorem State.setTune_port (i : Fin 24) (r : Tune) (p : Port) : (s.setTune i r).port p = s.port p := rfl
@[simp] theorem State.setTune_toll (i : Fin 24) (r : Tune) (t : Fin 4) : (s.setTune i r).toll t = s.toll t := rfl
@[simp] theorem State.setTune_now (i : Fin 24) (r : Tune) : (s.setTune i r).now = s.now := rfl
@[simp] theorem State.setTune_label (i : Fin 24) (r : Tune) : (s.setTune i r).label = s.label := rfl
@[simp] theorem State.setTune_timeValid (i : Fin 24) (r : Tune) : (s.setTune i r).timeValid = s.timeValid := rfl
@[simp] theorem State.setTune_civilNow (i : Fin 24) (r : Tune) : (s.setTune i r).civilNow = s.civilNow := rfl
@[simp] theorem State.setTune_isHeld (i : Fin 24) (r : Tune) : (s.setTune i r).isHeld = s.isHeld := rfl
@[simp] theorem State.setTune_onMains (i : Fin 24) (r : Tune) : (s.setTune i r).onMains = s.onMains := rfl

/-! ### setEvent -/

@[simp] theorem State.setEvent_tb (i : Fin 96) (r : Event) : (s.setEvent i r).tb = s.tb := rfl
@[simp] theorem State.setEvent_ref (i : Fin 96) (r : Event) : (s.setEvent i r).ref = s.ref := rfl
@[simp] theorem State.setEvent_civil (i : Fin 96) (r : Event) : (s.setEvent i r).civil = s.civil := rfl
@[simp] theorem State.setEvent_days (i : Fin 96) (r : Event) : (s.setEvent i r).days = s.days := rfl
@[simp] theorem State.setEvent_sun (i : Fin 96) (r : Event) : (s.setEvent i r).sun = s.sun := rfl
@[simp] theorem State.setEvent_dials (i : Fin 96) (r : Event) : (s.setEvent i r).dials = s.dials := rfl
@[simp] theorem State.setEvent_bells (i : Fin 96) (r : Event) : (s.setEvent i r).bells = s.bells := rfl
@[simp] theorem State.setEvent_swings (i : Fin 96) (r : Event) : (s.setEvent i r).swings = s.swings := rfl
@[simp] theorem State.setEvent_sessions (i : Fin 96) (r : Event) : (s.setEvent i r).sessions = s.sessions := rfl
@[simp] theorem State.setEvent_tunes (i : Fin 96) (r : Event) : (s.setEvent i r).tunes = s.tunes := rfl
@[simp] theorem State.setEvent_ordinary (i : Fin 96) (r : Event) : (s.setEvent i r).ordinary = s.ordinary := rfl
@[simp] theorem State.setEvent_festal (i : Fin 96) (r : Event) : (s.setEvent i r).festal = s.festal := rfl
@[simp] theorem State.setEvent_strike (i : Fin 96) (r : Event) : (s.setEvent i r).strike = s.strike := rfl
@[simp] theorem State.setEvent_lights (i : Fin 96) (r : Event) : (s.setEvent i r).lights = s.lights := rfl
@[simp] theorem State.setEvent_supply (i : Fin 96) (r : Event) : (s.setEvent i r).supply = s.supply := rfl
@[simp] theorem State.setEvent_warm (i : Fin 96) (r : Event) : (s.setEvent i r).warm = s.warm := rfl
@[simp] theorem State.setEvent_ports (i : Fin 96) (r : Event) : (s.setEvent i r).ports = s.ports := rfl
@[simp] theorem State.setEvent_lines (i : Fin 96) (r : Event) : (s.setEvent i r).lines = s.lines := rfl
@[simp] theorem State.setEvent_pending (i : Fin 96) (r : Event) : (s.setEvent i r).pending = s.pending := rfl
@[simp] theorem State.setEvent_dial (i : Fin 96) (r : Event) (d : Fin 4) : (s.setEvent i r).dial d = s.dial d := rfl
@[simp] theorem State.setEvent_bell (i : Fin 96) (r : Event) (b : Fin 16) : (s.setEvent i r).bell b = s.bell b := rfl
@[simp] theorem State.setEvent_swing (i : Fin 96) (r : Event) (b : Fin 16) : (s.setEvent i r).swing b = s.swing b := rfl
@[simp] theorem State.setEvent_session (i : Fin 96) (r : Event) (n : Fin 4) : (s.setEvent i r).session n = s.session n := rfl
@[simp] theorem State.setEvent_tune (i : Fin 96) (r : Event) (t : Fin 24) : (s.setEvent i r).tune t = s.tune t := rfl
@[simp] theorem State.setEvent_light (i : Fin 96) (r : Event) (c : Fin 8) : (s.setEvent i r).light c = s.light c := rfl
@[simp] theorem State.setEvent_port (i : Fin 96) (r : Event) (p : Port) : (s.setEvent i r).port p = s.port p := rfl
@[simp] theorem State.setEvent_toll (i : Fin 96) (r : Event) (t : Fin 4) : (s.setEvent i r).toll t = s.toll t := rfl
@[simp] theorem State.setEvent_now (i : Fin 96) (r : Event) : (s.setEvent i r).now = s.now := rfl
@[simp] theorem State.setEvent_label (i : Fin 96) (r : Event) : (s.setEvent i r).label = s.label := rfl
@[simp] theorem State.setEvent_timeValid (i : Fin 96) (r : Event) : (s.setEvent i r).timeValid = s.timeValid := rfl
@[simp] theorem State.setEvent_civilNow (i : Fin 96) (r : Event) : (s.setEvent i r).civilNow = s.civilNow := rfl
@[simp] theorem State.setEvent_isHeld (i : Fin 96) (r : Event) : (s.setEvent i r).isHeld = s.isHeld := rfl
@[simp] theorem State.setEvent_onMains (i : Fin 96) (r : Event) : (s.setEvent i r).onMains = s.onMains := rfl

/-! ### setLight -/

@[simp] theorem State.setLight_tb (i : Fin 8) (r : Channel) : (s.setLight i r).tb = s.tb := rfl
@[simp] theorem State.setLight_ref (i : Fin 8) (r : Channel) : (s.setLight i r).ref = s.ref := rfl
@[simp] theorem State.setLight_civil (i : Fin 8) (r : Channel) : (s.setLight i r).civil = s.civil := rfl
@[simp] theorem State.setLight_days (i : Fin 8) (r : Channel) : (s.setLight i r).days = s.days := rfl
@[simp] theorem State.setLight_sun (i : Fin 8) (r : Channel) : (s.setLight i r).sun = s.sun := rfl
@[simp] theorem State.setLight_dials (i : Fin 8) (r : Channel) : (s.setLight i r).dials = s.dials := rfl
@[simp] theorem State.setLight_bells (i : Fin 8) (r : Channel) : (s.setLight i r).bells = s.bells := rfl
@[simp] theorem State.setLight_swings (i : Fin 8) (r : Channel) : (s.setLight i r).swings = s.swings := rfl
@[simp] theorem State.setLight_sessions (i : Fin 8) (r : Channel) : (s.setLight i r).sessions = s.sessions := rfl
@[simp] theorem State.setLight_tunes (i : Fin 8) (r : Channel) : (s.setLight i r).tunes = s.tunes := rfl
@[simp] theorem State.setLight_ordinary (i : Fin 8) (r : Channel) : (s.setLight i r).ordinary = s.ordinary := rfl
@[simp] theorem State.setLight_festal (i : Fin 8) (r : Channel) : (s.setLight i r).festal = s.festal := rfl
@[simp] theorem State.setLight_strike (i : Fin 8) (r : Channel) : (s.setLight i r).strike = s.strike := rfl
@[simp] theorem State.setLight_cal (i : Fin 8) (r : Channel) : (s.setLight i r).cal = s.cal := rfl
@[simp] theorem State.setLight_supply (i : Fin 8) (r : Channel) : (s.setLight i r).supply = s.supply := rfl
@[simp] theorem State.setLight_warm (i : Fin 8) (r : Channel) : (s.setLight i r).warm = s.warm := rfl
@[simp] theorem State.setLight_ports (i : Fin 8) (r : Channel) : (s.setLight i r).ports = s.ports := rfl
@[simp] theorem State.setLight_lines (i : Fin 8) (r : Channel) : (s.setLight i r).lines = s.lines := rfl
@[simp] theorem State.setLight_pending (i : Fin 8) (r : Channel) : (s.setLight i r).pending = s.pending := rfl
@[simp] theorem State.setLight_dial (i : Fin 8) (r : Channel) (d : Fin 4) : (s.setLight i r).dial d = s.dial d := rfl
@[simp] theorem State.setLight_bell (i : Fin 8) (r : Channel) (b : Fin 16) : (s.setLight i r).bell b = s.bell b := rfl
@[simp] theorem State.setLight_swing (i : Fin 8) (r : Channel) (b : Fin 16) : (s.setLight i r).swing b = s.swing b := rfl
@[simp] theorem State.setLight_session (i : Fin 8) (r : Channel) (n : Fin 4) : (s.setLight i r).session n = s.session n := rfl
@[simp] theorem State.setLight_tune (i : Fin 8) (r : Channel) (t : Fin 24) : (s.setLight i r).tune t = s.tune t := rfl
@[simp] theorem State.setLight_event (i : Fin 8) (r : Channel) (e : Fin 96) : (s.setLight i r).event e = s.event e := rfl
@[simp] theorem State.setLight_port (i : Fin 8) (r : Channel) (p : Port) : (s.setLight i r).port p = s.port p := rfl
@[simp] theorem State.setLight_toll (i : Fin 8) (r : Channel) (t : Fin 4) : (s.setLight i r).toll t = s.toll t := rfl
@[simp] theorem State.setLight_now (i : Fin 8) (r : Channel) : (s.setLight i r).now = s.now := rfl
@[simp] theorem State.setLight_label (i : Fin 8) (r : Channel) : (s.setLight i r).label = s.label := rfl
@[simp] theorem State.setLight_timeValid (i : Fin 8) (r : Channel) : (s.setLight i r).timeValid = s.timeValid := rfl
@[simp] theorem State.setLight_civilNow (i : Fin 8) (r : Channel) : (s.setLight i r).civilNow = s.civilNow := rfl
@[simp] theorem State.setLight_isHeld (i : Fin 8) (r : Channel) : (s.setLight i r).isHeld = s.isHeld := rfl
@[simp] theorem State.setLight_onMains (i : Fin 8) (r : Channel) : (s.setLight i r).onMains = s.onMains := rfl

/-! ### setPort -/

@[simp] theorem State.setPort_tb (i : Port) (r : LinkPort) : (s.setPort i r).tb = s.tb := rfl
@[simp] theorem State.setPort_ref (i : Port) (r : LinkPort) : (s.setPort i r).ref = s.ref := rfl
@[simp] theorem State.setPort_civil (i : Port) (r : LinkPort) : (s.setPort i r).civil = s.civil := rfl
@[simp] theorem State.setPort_days (i : Port) (r : LinkPort) : (s.setPort i r).days = s.days := rfl
@[simp] theorem State.setPort_sun (i : Port) (r : LinkPort) : (s.setPort i r).sun = s.sun := rfl
@[simp] theorem State.setPort_dials (i : Port) (r : LinkPort) : (s.setPort i r).dials = s.dials := rfl
@[simp] theorem State.setPort_bells (i : Port) (r : LinkPort) : (s.setPort i r).bells = s.bells := rfl
@[simp] theorem State.setPort_swings (i : Port) (r : LinkPort) : (s.setPort i r).swings = s.swings := rfl
@[simp] theorem State.setPort_sessions (i : Port) (r : LinkPort) : (s.setPort i r).sessions = s.sessions := rfl
@[simp] theorem State.setPort_tunes (i : Port) (r : LinkPort) : (s.setPort i r).tunes = s.tunes := rfl
@[simp] theorem State.setPort_ordinary (i : Port) (r : LinkPort) : (s.setPort i r).ordinary = s.ordinary := rfl
@[simp] theorem State.setPort_festal (i : Port) (r : LinkPort) : (s.setPort i r).festal = s.festal := rfl
@[simp] theorem State.setPort_strike (i : Port) (r : LinkPort) : (s.setPort i r).strike = s.strike := rfl
@[simp] theorem State.setPort_cal (i : Port) (r : LinkPort) : (s.setPort i r).cal = s.cal := rfl
@[simp] theorem State.setPort_lights (i : Port) (r : LinkPort) : (s.setPort i r).lights = s.lights := rfl
@[simp] theorem State.setPort_supply (i : Port) (r : LinkPort) : (s.setPort i r).supply = s.supply := rfl
@[simp] theorem State.setPort_warm (i : Port) (r : LinkPort) : (s.setPort i r).warm = s.warm := rfl
@[simp] theorem State.setPort_lines (i : Port) (r : LinkPort) : (s.setPort i r).lines = s.lines := rfl
@[simp] theorem State.setPort_pending (i : Port) (r : LinkPort) : (s.setPort i r).pending = s.pending := rfl
@[simp] theorem State.setPort_dial (i : Port) (r : LinkPort) (d : Fin 4) : (s.setPort i r).dial d = s.dial d := rfl
@[simp] theorem State.setPort_bell (i : Port) (r : LinkPort) (b : Fin 16) : (s.setPort i r).bell b = s.bell b := rfl
@[simp] theorem State.setPort_swing (i : Port) (r : LinkPort) (b : Fin 16) : (s.setPort i r).swing b = s.swing b := rfl
@[simp] theorem State.setPort_session (i : Port) (r : LinkPort) (n : Fin 4) : (s.setPort i r).session n = s.session n := rfl
@[simp] theorem State.setPort_tune (i : Port) (r : LinkPort) (t : Fin 24) : (s.setPort i r).tune t = s.tune t := rfl
@[simp] theorem State.setPort_event (i : Port) (r : LinkPort) (e : Fin 96) : (s.setPort i r).event e = s.event e := rfl
@[simp] theorem State.setPort_light (i : Port) (r : LinkPort) (c : Fin 8) : (s.setPort i r).light c = s.light c := rfl
@[simp] theorem State.setPort_toll (i : Port) (r : LinkPort) (t : Fin 4) : (s.setPort i r).toll t = s.toll t := rfl
@[simp] theorem State.setPort_now (i : Port) (r : LinkPort) : (s.setPort i r).now = s.now := rfl
@[simp] theorem State.setPort_label (i : Port) (r : LinkPort) : (s.setPort i r).label = s.label := rfl
@[simp] theorem State.setPort_timeValid (i : Port) (r : LinkPort) : (s.setPort i r).timeValid = s.timeValid := rfl
@[simp] theorem State.setPort_civilNow (i : Port) (r : LinkPort) : (s.setPort i r).civilNow = s.civilNow := rfl
@[simp] theorem State.setPort_isHeld (i : Port) (r : LinkPort) : (s.setPort i r).isHeld = s.isHeld := rfl
@[simp] theorem State.setPort_onMains (i : Port) (r : LinkPort) : (s.setPort i r).onMains = s.onMains := rfl

/-! ### setToll -/

@[simp] theorem State.setToll_tb (i : Fin 4) (r : Option Toll) : (s.setToll i r).tb = s.tb := rfl
@[simp] theorem State.setToll_ref (i : Fin 4) (r : Option Toll) : (s.setToll i r).ref = s.ref := rfl
@[simp] theorem State.setToll_civil (i : Fin 4) (r : Option Toll) : (s.setToll i r).civil = s.civil := rfl
@[simp] theorem State.setToll_days (i : Fin 4) (r : Option Toll) : (s.setToll i r).days = s.days := rfl
@[simp] theorem State.setToll_sun (i : Fin 4) (r : Option Toll) : (s.setToll i r).sun = s.sun := rfl
@[simp] theorem State.setToll_dials (i : Fin 4) (r : Option Toll) : (s.setToll i r).dials = s.dials := rfl
@[simp] theorem State.setToll_bells (i : Fin 4) (r : Option Toll) : (s.setToll i r).bells = s.bells := rfl
@[simp] theorem State.setToll_swings (i : Fin 4) (r : Option Toll) : (s.setToll i r).swings = s.swings := rfl
@[simp] theorem State.setToll_sessions (i : Fin 4) (r : Option Toll) : (s.setToll i r).sessions = s.sessions := rfl
@[simp] theorem State.setToll_tunes (i : Fin 4) (r : Option Toll) : (s.setToll i r).tunes = s.tunes := rfl
@[simp] theorem State.setToll_ordinary (i : Fin 4) (r : Option Toll) : (s.setToll i r).ordinary = s.ordinary := rfl
@[simp] theorem State.setToll_festal (i : Fin 4) (r : Option Toll) : (s.setToll i r).festal = s.festal := rfl
@[simp] theorem State.setToll_cal (i : Fin 4) (r : Option Toll) : (s.setToll i r).cal = s.cal := rfl
@[simp] theorem State.setToll_lights (i : Fin 4) (r : Option Toll) : (s.setToll i r).lights = s.lights := rfl
@[simp] theorem State.setToll_supply (i : Fin 4) (r : Option Toll) : (s.setToll i r).supply = s.supply := rfl
@[simp] theorem State.setToll_warm (i : Fin 4) (r : Option Toll) : (s.setToll i r).warm = s.warm := rfl
@[simp] theorem State.setToll_ports (i : Fin 4) (r : Option Toll) : (s.setToll i r).ports = s.ports := rfl
@[simp] theorem State.setToll_lines (i : Fin 4) (r : Option Toll) : (s.setToll i r).lines = s.lines := rfl
@[simp] theorem State.setToll_pending (i : Fin 4) (r : Option Toll) : (s.setToll i r).pending = s.pending := rfl
@[simp] theorem State.setToll_dial (i : Fin 4) (r : Option Toll) (d : Fin 4) : (s.setToll i r).dial d = s.dial d := rfl
@[simp] theorem State.setToll_bell (i : Fin 4) (r : Option Toll) (b : Fin 16) : (s.setToll i r).bell b = s.bell b := rfl
@[simp] theorem State.setToll_swing (i : Fin 4) (r : Option Toll) (b : Fin 16) : (s.setToll i r).swing b = s.swing b := rfl
@[simp] theorem State.setToll_session (i : Fin 4) (r : Option Toll) (n : Fin 4) : (s.setToll i r).session n = s.session n := rfl
@[simp] theorem State.setToll_tune (i : Fin 4) (r : Option Toll) (t : Fin 24) : (s.setToll i r).tune t = s.tune t := rfl
@[simp] theorem State.setToll_event (i : Fin 4) (r : Option Toll) (e : Fin 96) : (s.setToll i r).event e = s.event e := rfl
@[simp] theorem State.setToll_light (i : Fin 4) (r : Option Toll) (c : Fin 8) : (s.setToll i r).light c = s.light c := rfl
@[simp] theorem State.setToll_port (i : Fin 4) (r : Option Toll) (p : Port) : (s.setToll i r).port p = s.port p := rfl
@[simp] theorem State.setToll_now (i : Fin 4) (r : Option Toll) : (s.setToll i r).now = s.now := rfl
@[simp] theorem State.setToll_label (i : Fin 4) (r : Option Toll) : (s.setToll i r).label = s.label := rfl
@[simp] theorem State.setToll_timeValid (i : Fin 4) (r : Option Toll) : (s.setToll i r).timeValid = s.timeValid := rfl
@[simp] theorem State.setToll_civilNow (i : Fin 4) (r : Option Toll) : (s.setToll i r).civilNow = s.civilNow := rfl
@[simp] theorem State.setToll_isHeld (i : Fin 4) (r : Option Toll) : (s.setToll i r).isHeld = s.isHeld := rfl
@[simp] theorem State.setToll_onMains (i : Fin 4) (r : Option Toll) : (s.setToll i r).onMains = s.onMains := rfl

/-! ### setQueue -/

@[simp] theorem State.setQueue_tb (r : List Entry) : (s.setQueue r).tb = s.tb := rfl
@[simp] theorem State.setQueue_ref (r : List Entry) : (s.setQueue r).ref = s.ref := rfl
@[simp] theorem State.setQueue_civil (r : List Entry) : (s.setQueue r).civil = s.civil := rfl
@[simp] theorem State.setQueue_days (r : List Entry) : (s.setQueue r).days = s.days := rfl
@[simp] theorem State.setQueue_sun (r : List Entry) : (s.setQueue r).sun = s.sun := rfl
@[simp] theorem State.setQueue_dials (r : List Entry) : (s.setQueue r).dials = s.dials := rfl
@[simp] theorem State.setQueue_bells (r : List Entry) : (s.setQueue r).bells = s.bells := rfl
@[simp] theorem State.setQueue_swings (r : List Entry) : (s.setQueue r).swings = s.swings := rfl
@[simp] theorem State.setQueue_sessions (r : List Entry) : (s.setQueue r).sessions = s.sessions := rfl
@[simp] theorem State.setQueue_tunes (r : List Entry) : (s.setQueue r).tunes = s.tunes := rfl
@[simp] theorem State.setQueue_ordinary (r : List Entry) : (s.setQueue r).ordinary = s.ordinary := rfl
@[simp] theorem State.setQueue_festal (r : List Entry) : (s.setQueue r).festal = s.festal := rfl
@[simp] theorem State.setQueue_cal (r : List Entry) : (s.setQueue r).cal = s.cal := rfl
@[simp] theorem State.setQueue_lights (r : List Entry) : (s.setQueue r).lights = s.lights := rfl
@[simp] theorem State.setQueue_supply (r : List Entry) : (s.setQueue r).supply = s.supply := rfl
@[simp] theorem State.setQueue_warm (r : List Entry) : (s.setQueue r).warm = s.warm := rfl
@[simp] theorem State.setQueue_ports (r : List Entry) : (s.setQueue r).ports = s.ports := rfl
@[simp] theorem State.setQueue_lines (r : List Entry) : (s.setQueue r).lines = s.lines := rfl
@[simp] theorem State.setQueue_pending (r : List Entry) : (s.setQueue r).pending = s.pending := rfl
@[simp] theorem State.setQueue_dial (r : List Entry) (d : Fin 4) : (s.setQueue r).dial d = s.dial d := rfl
@[simp] theorem State.setQueue_bell (r : List Entry) (b : Fin 16) : (s.setQueue r).bell b = s.bell b := rfl
@[simp] theorem State.setQueue_swing (r : List Entry) (b : Fin 16) : (s.setQueue r).swing b = s.swing b := rfl
@[simp] theorem State.setQueue_session (r : List Entry) (n : Fin 4) : (s.setQueue r).session n = s.session n := rfl
@[simp] theorem State.setQueue_tune (r : List Entry) (t : Fin 24) : (s.setQueue r).tune t = s.tune t := rfl
@[simp] theorem State.setQueue_event (r : List Entry) (e : Fin 96) : (s.setQueue r).event e = s.event e := rfl
@[simp] theorem State.setQueue_light (r : List Entry) (c : Fin 8) : (s.setQueue r).light c = s.light c := rfl
@[simp] theorem State.setQueue_port (r : List Entry) (p : Port) : (s.setQueue r).port p = s.port p := rfl
@[simp] theorem State.setQueue_now (r : List Entry) : (s.setQueue r).now = s.now := rfl
@[simp] theorem State.setQueue_label (r : List Entry) : (s.setQueue r).label = s.label := rfl
@[simp] theorem State.setQueue_timeValid (r : List Entry) : (s.setQueue r).timeValid = s.timeValid := rfl
@[simp] theorem State.setQueue_civilNow (r : List Entry) : (s.setQueue r).civilNow = s.civilNow := rfl
@[simp] theorem State.setQueue_isHeld (r : List Entry) : (s.setQueue r).isHeld = s.isHeld := rfl
@[simp] theorem State.setQueue_onMains (r : List Entry) : (s.setQueue r).onMains = s.onMains := rfl

/-! ### setLines -/

@[simp] theorem State.setLines_tb (r : Lines) : (s.setLines r).tb = s.tb := rfl
@[simp] theorem State.setLines_ref (r : Lines) : (s.setLines r).ref = s.ref := rfl
@[simp] theorem State.setLines_civil (r : Lines) : (s.setLines r).civil = s.civil := rfl
@[simp] theorem State.setLines_days (r : Lines) : (s.setLines r).days = s.days := rfl
@[simp] theorem State.setLines_sun (r : Lines) : (s.setLines r).sun = s.sun := rfl
@[simp] theorem State.setLines_dials (r : Lines) : (s.setLines r).dials = s.dials := rfl
@[simp] theorem State.setLines_bells (r : Lines) : (s.setLines r).bells = s.bells := rfl
@[simp] theorem State.setLines_swings (r : Lines) : (s.setLines r).swings = s.swings := rfl
@[simp] theorem State.setLines_sessions (r : Lines) : (s.setLines r).sessions = s.sessions := rfl
@[simp] theorem State.setLines_tunes (r : Lines) : (s.setLines r).tunes = s.tunes := rfl
@[simp] theorem State.setLines_ordinary (r : Lines) : (s.setLines r).ordinary = s.ordinary := rfl
@[simp] theorem State.setLines_festal (r : Lines) : (s.setLines r).festal = s.festal := rfl
@[simp] theorem State.setLines_strike (r : Lines) : (s.setLines r).strike = s.strike := rfl
@[simp] theorem State.setLines_cal (r : Lines) : (s.setLines r).cal = s.cal := rfl
@[simp] theorem State.setLines_lights (r : Lines) : (s.setLines r).lights = s.lights := rfl
@[simp] theorem State.setLines_supply (r : Lines) : (s.setLines r).supply = s.supply := rfl
@[simp] theorem State.setLines_warm (r : Lines) : (s.setLines r).warm = s.warm := rfl
@[simp] theorem State.setLines_ports (r : Lines) : (s.setLines r).ports = s.ports := rfl
@[simp] theorem State.setLines_pending (r : Lines) : (s.setLines r).pending = s.pending := rfl
@[simp] theorem State.setLines_dial (r : Lines) (d : Fin 4) : (s.setLines r).dial d = s.dial d := rfl
@[simp] theorem State.setLines_bell (r : Lines) (b : Fin 16) : (s.setLines r).bell b = s.bell b := rfl
@[simp] theorem State.setLines_swing (r : Lines) (b : Fin 16) : (s.setLines r).swing b = s.swing b := rfl
@[simp] theorem State.setLines_session (r : Lines) (n : Fin 4) : (s.setLines r).session n = s.session n := rfl
@[simp] theorem State.setLines_tune (r : Lines) (t : Fin 24) : (s.setLines r).tune t = s.tune t := rfl
@[simp] theorem State.setLines_event (r : Lines) (e : Fin 96) : (s.setLines r).event e = s.event e := rfl
@[simp] theorem State.setLines_light (r : Lines) (c : Fin 8) : (s.setLines r).light c = s.light c := rfl
@[simp] theorem State.setLines_port (r : Lines) (p : Port) : (s.setLines r).port p = s.port p := rfl
@[simp] theorem State.setLines_toll (r : Lines) (t : Fin 4) : (s.setLines r).toll t = s.toll t := rfl
@[simp] theorem State.setLines_now (r : Lines) : (s.setLines r).now = s.now := rfl
@[simp] theorem State.setLines_label (r : Lines) : (s.setLines r).label = s.label := rfl
@[simp] theorem State.setLines_timeValid (r : Lines) : (s.setLines r).timeValid = s.timeValid := rfl
@[simp] theorem State.setLines_civilNow (r : Lines) : (s.setLines r).civilNow = s.civilNow := rfl
@[simp] theorem State.setLines_isHeld (r : Lines) : (s.setLines r).isHeld = s.isHeld := rfl
@[simp] theorem State.setLines_onMains (r : Lines) : (s.setLines r).onMains = s.onMains := rfl

/-! ### setTb -/

@[simp] theorem State.setTb_ref (r : TimeBase) : (s.setTb r).ref = s.ref := rfl
@[simp] theorem State.setTb_civil (r : TimeBase) : (s.setTb r).civil = s.civil := rfl
@[simp] theorem State.setTb_days (r : TimeBase) : (s.setTb r).days = s.days := rfl
@[simp] theorem State.setTb_sun (r : TimeBase) : (s.setTb r).sun = s.sun := rfl
@[simp] theorem State.setTb_dials (r : TimeBase) : (s.setTb r).dials = s.dials := rfl
@[simp] theorem State.setTb_bells (r : TimeBase) : (s.setTb r).bells = s.bells := rfl
@[simp] theorem State.setTb_swings (r : TimeBase) : (s.setTb r).swings = s.swings := rfl
@[simp] theorem State.setTb_sessions (r : TimeBase) : (s.setTb r).sessions = s.sessions := rfl
@[simp] theorem State.setTb_tunes (r : TimeBase) : (s.setTb r).tunes = s.tunes := rfl
@[simp] theorem State.setTb_ordinary (r : TimeBase) : (s.setTb r).ordinary = s.ordinary := rfl
@[simp] theorem State.setTb_festal (r : TimeBase) : (s.setTb r).festal = s.festal := rfl
@[simp] theorem State.setTb_strike (r : TimeBase) : (s.setTb r).strike = s.strike := rfl
@[simp] theorem State.setTb_cal (r : TimeBase) : (s.setTb r).cal = s.cal := rfl
@[simp] theorem State.setTb_lights (r : TimeBase) : (s.setTb r).lights = s.lights := rfl
@[simp] theorem State.setTb_supply (r : TimeBase) : (s.setTb r).supply = s.supply := rfl
@[simp] theorem State.setTb_warm (r : TimeBase) : (s.setTb r).warm = s.warm := rfl
@[simp] theorem State.setTb_ports (r : TimeBase) : (s.setTb r).ports = s.ports := rfl
@[simp] theorem State.setTb_lines (r : TimeBase) : (s.setTb r).lines = s.lines := rfl
@[simp] theorem State.setTb_pending (r : TimeBase) : (s.setTb r).pending = s.pending := rfl
@[simp] theorem State.setTb_dial (r : TimeBase) (d : Fin 4) : (s.setTb r).dial d = s.dial d := rfl
@[simp] theorem State.setTb_bell (r : TimeBase) (b : Fin 16) : (s.setTb r).bell b = s.bell b := rfl
@[simp] theorem State.setTb_swing (r : TimeBase) (b : Fin 16) : (s.setTb r).swing b = s.swing b := rfl
@[simp] theorem State.setTb_session (r : TimeBase) (n : Fin 4) : (s.setTb r).session n = s.session n := rfl
@[simp] theorem State.setTb_tune (r : TimeBase) (t : Fin 24) : (s.setTb r).tune t = s.tune t := rfl
@[simp] theorem State.setTb_event (r : TimeBase) (e : Fin 96) : (s.setTb r).event e = s.event e := rfl
@[simp] theorem State.setTb_light (r : TimeBase) (c : Fin 8) : (s.setTb r).light c = s.light c := rfl
@[simp] theorem State.setTb_port (r : TimeBase) (p : Port) : (s.setTb r).port p = s.port p := rfl
@[simp] theorem State.setTb_toll (r : TimeBase) (t : Fin 4) : (s.setTb r).toll t = s.toll t := rfl
@[simp] theorem State.setTb_isHeld (r : TimeBase) : (s.setTb r).isHeld = s.isHeld := rfl
@[simp] theorem State.setTb_onMains (r : TimeBase) : (s.setTb r).onMains = s.onMains := rfl

/-! ### setRef -/

@[simp] theorem State.setRef_tb (r : RefRx) : (s.setRef r).tb = s.tb := rfl
@[simp] theorem State.setRef_civil (r : RefRx) : (s.setRef r).civil = s.civil := rfl
@[simp] theorem State.setRef_days (r : RefRx) : (s.setRef r).days = s.days := rfl
@[simp] theorem State.setRef_sun (r : RefRx) : (s.setRef r).sun = s.sun := rfl
@[simp] theorem State.setRef_dials (r : RefRx) : (s.setRef r).dials = s.dials := rfl
@[simp] theorem State.setRef_bells (r : RefRx) : (s.setRef r).bells = s.bells := rfl
@[simp] theorem State.setRef_swings (r : RefRx) : (s.setRef r).swings = s.swings := rfl
@[simp] theorem State.setRef_sessions (r : RefRx) : (s.setRef r).sessions = s.sessions := rfl
@[simp] theorem State.setRef_tunes (r : RefRx) : (s.setRef r).tunes = s.tunes := rfl
@[simp] theorem State.setRef_ordinary (r : RefRx) : (s.setRef r).ordinary = s.ordinary := rfl
@[simp] theorem State.setRef_festal (r : RefRx) : (s.setRef r).festal = s.festal := rfl
@[simp] theorem State.setRef_strike (r : RefRx) : (s.setRef r).strike = s.strike := rfl
@[simp] theorem State.setRef_cal (r : RefRx) : (s.setRef r).cal = s.cal := rfl
@[simp] theorem State.setRef_lights (r : RefRx) : (s.setRef r).lights = s.lights := rfl
@[simp] theorem State.setRef_supply (r : RefRx) : (s.setRef r).supply = s.supply := rfl
@[simp] theorem State.setRef_warm (r : RefRx) : (s.setRef r).warm = s.warm := rfl
@[simp] theorem State.setRef_ports (r : RefRx) : (s.setRef r).ports = s.ports := rfl
@[simp] theorem State.setRef_lines (r : RefRx) : (s.setRef r).lines = s.lines := rfl
@[simp] theorem State.setRef_pending (r : RefRx) : (s.setRef r).pending = s.pending := rfl
@[simp] theorem State.setRef_dial (r : RefRx) (d : Fin 4) : (s.setRef r).dial d = s.dial d := rfl
@[simp] theorem State.setRef_bell (r : RefRx) (b : Fin 16) : (s.setRef r).bell b = s.bell b := rfl
@[simp] theorem State.setRef_swing (r : RefRx) (b : Fin 16) : (s.setRef r).swing b = s.swing b := rfl
@[simp] theorem State.setRef_session (r : RefRx) (n : Fin 4) : (s.setRef r).session n = s.session n := rfl
@[simp] theorem State.setRef_tune (r : RefRx) (t : Fin 24) : (s.setRef r).tune t = s.tune t := rfl
@[simp] theorem State.setRef_event (r : RefRx) (e : Fin 96) : (s.setRef r).event e = s.event e := rfl
@[simp] theorem State.setRef_light (r : RefRx) (c : Fin 8) : (s.setRef r).light c = s.light c := rfl
@[simp] theorem State.setRef_port (r : RefRx) (p : Port) : (s.setRef r).port p = s.port p := rfl
@[simp] theorem State.setRef_toll (r : RefRx) (t : Fin 4) : (s.setRef r).toll t = s.toll t := rfl
@[simp] theorem State.setRef_now (r : RefRx) : (s.setRef r).now = s.now := rfl
@[simp] theorem State.setRef_label (r : RefRx) : (s.setRef r).label = s.label := rfl
@[simp] theorem State.setRef_timeValid (r : RefRx) : (s.setRef r).timeValid = s.timeValid := rfl
@[simp] theorem State.setRef_civilNow (r : RefRx) : (s.setRef r).civilNow = s.civilNow := rfl
@[simp] theorem State.setRef_isHeld (r : RefRx) : (s.setRef r).isHeld = s.isHeld := rfl
@[simp] theorem State.setRef_onMains (r : RefRx) : (s.setRef r).onMains = s.onMains := rfl

/-! ### Reading back what was written -/

@[simp] theorem State.setTb_tb (r : TimeBase) : (s.setTb r).tb = r := rfl
@[simp] theorem State.setRef_ref (r : RefRx) : (s.setRef r).ref = r := rfl
@[simp] theorem State.setLines_lines (r : Lines) : (s.setLines r).lines = r := rfl
@[simp] theorem State.setQueue_queue (r : List Entry) : (s.setQueue r).strike.queue = r := rfl

@[simp] theorem State.setDial_dial_self (i : Fin 4) (r : Dial) : (s.setDial i r).dial i = r := by
  simp [State.setDial, State.dial]
theorem State.setDial_dial_ne {i j : Fin 4} (h : i ≠ j) (r : Dial) : (s.setDial i r).dial j = s.dial j := by
  have h' : (i : Nat) ≠ (j : Nat) := fun e => h (Fin.ext e)
  simp [State.setDial, State.dial, Vector.getElem_set_ne, h']
@[simp] theorem State.setBell_bell_self (i : Fin 16) (r : Bell) : (s.setBell i r).bell i = r := by
  simp [State.setBell, State.bell]
theorem State.setBell_bell_ne {i j : Fin 16} (h : i ≠ j) (r : Bell) : (s.setBell i r).bell j = s.bell j := by
  have h' : (i : Nat) ≠ (j : Nat) := fun e => h (Fin.ext e)
  simp [State.setBell, State.bell, Vector.getElem_set_ne, h']
@[simp] theorem State.setSwing_swing_self (i : Fin 16) (r : Swing) : (s.setSwing i r).swing i = r := by
  simp [State.setSwing, State.swing]
theorem State.setSwing_swing_ne {i j : Fin 16} (h : i ≠ j) (r : Swing) : (s.setSwing i r).swing j = s.swing j := by
  have h' : (i : Nat) ≠ (j : Nat) := fun e => h (Fin.ext e)
  simp [State.setSwing, State.swing, Vector.getElem_set_ne, h']
@[simp] theorem State.setSession_session_self (i : Fin 4) (r : Session) : (s.setSession i r).session i = r := by
  simp [State.setSession, State.session]
theorem State.setSession_session_ne {i j : Fin 4} (h : i ≠ j) (r : Session) : (s.setSession i r).session j = s.session j := by
  have h' : (i : Nat) ≠ (j : Nat) := fun e => h (Fin.ext e)
  simp [State.setSession, State.session, Vector.getElem_set_ne, h']
@[simp] theorem State.setTune_tune_self (i : Fin 24) (r : Tune) : (s.setTune i r).tune i = r := by
  simp [State.setTune, State.tune]
theorem State.setTune_tune_ne {i j : Fin 24} (h : i ≠ j) (r : Tune) : (s.setTune i r).tune j = s.tune j := by
  have h' : (i : Nat) ≠ (j : Nat) := fun e => h (Fin.ext e)
  simp [State.setTune, State.tune, Vector.getElem_set_ne, h']
@[simp] theorem State.setEvent_event_self (i : Fin 96) (r : Event) : (s.setEvent i r).event i = r := by
  simp [State.setEvent, State.event]
theorem State.setEvent_event_ne {i j : Fin 96} (h : i ≠ j) (r : Event) : (s.setEvent i r).event j = s.event j := by
  have h' : (i : Nat) ≠ (j : Nat) := fun e => h (Fin.ext e)
  simp [State.setEvent, State.event, Vector.getElem_set_ne, h']
@[simp] theorem State.setLight_light_self (i : Fin 8) (r : Channel) : (s.setLight i r).light i = r := by
  simp [State.setLight, State.light]
theorem State.setLight_light_ne {i j : Fin 8} (h : i ≠ j) (r : Channel) : (s.setLight i r).light j = s.light j := by
  have h' : (i : Nat) ≠ (j : Nat) := fun e => h (Fin.ext e)
  simp [State.setLight, State.light, Vector.getElem_set_ne, h']
@[simp] theorem State.setToll_toll_self (i : Fin 4) (r : Option Toll) : (s.setToll i r).toll i = r := by
  simp [State.setToll, State.toll]
theorem State.setToll_toll_ne {i j : Fin 4} (h : i ≠ j) (r : Option Toll) : (s.setToll i r).toll j = s.toll j := by
  have h' : (i : Nat) ≠ (j : Nat) := fun e => h (Fin.ext e)
  simp [State.setToll, State.toll, Vector.getElem_set_ne, h']

theorem portIndex_injective {p q : Port} (h : portIndex p = portIndex q) : p = q := by
  cases p <;> cases q <;> first | rfl | (exact absurd h (by decide))
@[simp] theorem State.setPort_port_self (p : Port) (r : LinkPort) : (s.setPort p r).port p = r := by
  simp [State.setPort, State.port]
theorem State.setPort_port_ne {p q : Port} (h : p ≠ q) (r : LinkPort) : (s.setPort p r).port q = s.port q := by
  have h' : (portIndex p : Nat) ≠ (portIndex q : Nat) := fun e => h (portIndex_injective (Fin.ext e))
  simp [State.setPort, State.port, Vector.getElem_set_ne, h']
@[simp] theorem State.setGuard_guard (b : Fin 16) (g : Guard) : ((s.setGuard b g).bell b).guard = g := by
  simp [State.setGuard]
@[simp] theorem State.setGuard_config (b : Fin 16) (g : Guard) : ((s.setGuard b g).bell b).config = (s.bell b).config := by
  simp [State.setGuard]
@[simp] theorem State.setGuard_holder (b : Fin 16) (g : Guard) : ((s.setGuard b g).bell b).holder = (s.bell b).holder := by
  simp [State.setGuard]

/-! ### A record written twice, and written as it stands -/

@[simp] theorem State.setDial_setDial (i : Fin 4) (r r' : Dial) : (s.setDial i r).setDial i r' = s.setDial i r' := by
  simp [State.setDial]
@[simp] theorem State.setDial_asItStands (i : Fin 4) : s.setDial i (s.dial i) = s := by
  simp [State.setDial, State.dial]
@[simp] theorem State.setBell_setBell (i : Fin 16) (r r' : Bell) : (s.setBell i r).setBell i r' = s.setBell i r' := by
  simp [State.setBell]
@[simp] theorem State.setBell_asItStands (i : Fin 16) : s.setBell i (s.bell i) = s := by
  simp [State.setBell, State.bell]
@[simp] theorem State.setSwing_setSwing (i : Fin 16) (r r' : Swing) : (s.setSwing i r).setSwing i r' = s.setSwing i r' := by
  simp [State.setSwing]
@[simp] theorem State.setSwing_asItStands (i : Fin 16) : s.setSwing i (s.swing i) = s := by
  simp [State.setSwing, State.swing]
@[simp] theorem State.setSession_setSession (i : Fin 4) (r r' : Session) : (s.setSession i r).setSession i r' = s.setSession i r' := by
  simp [State.setSession]
@[simp] theorem State.setSession_asItStands (i : Fin 4) : s.setSession i (s.session i) = s := by
  simp [State.setSession, State.session]
@[simp] theorem State.setTune_setTune (i : Fin 24) (r r' : Tune) : (s.setTune i r).setTune i r' = s.setTune i r' := by
  simp [State.setTune]
@[simp] theorem State.setTune_asItStands (i : Fin 24) : s.setTune i (s.tune i) = s := by
  simp [State.setTune, State.tune]
@[simp] theorem State.setEvent_setEvent (i : Fin 96) (r r' : Event) : (s.setEvent i r).setEvent i r' = s.setEvent i r' := by
  simp [State.setEvent]
@[simp] theorem State.setEvent_asItStands (i : Fin 96) : s.setEvent i (s.event i) = s := by
  simp [State.setEvent, State.event]
@[simp] theorem State.setLight_setLight (i : Fin 8) (r r' : Channel) : (s.setLight i r).setLight i r' = s.setLight i r' := by
  simp [State.setLight]
@[simp] theorem State.setLight_asItStands (i : Fin 8) : s.setLight i (s.light i) = s := by
  simp [State.setLight, State.light]
@[simp] theorem State.setToll_setToll (i : Fin 4) (r r' : Option Toll) : (s.setToll i r).setToll i r' = s.setToll i r' := by
  simp [State.setToll]
@[simp] theorem State.setToll_asItStands (i : Fin 4) : s.setToll i (s.toll i) = s := by
  simp [State.setToll, State.toll]
@[simp] theorem State.setPort_setPort (p : Port) (r r' : LinkPort) : (s.setPort p r).setPort p r' = s.setPort p r' := by
  simp [State.setPort]
@[simp] theorem State.setPort_asItStands (p : Port) : s.setPort p (s.port p) = s := by
  simp [State.setPort, State.port]

/-! ### Arrays -/

/-- `mapV` applies its function at every place. -/
@[simp] theorem mapV_get {α β : Type} {n : Nat} (f : α → β) (v : Vector α n) (i : Nat) (h : i < n) :
    (mapV f v)[i] = f v[i] := by
  simp [mapV]

end Sys2Proof.Machine
end

