-- ==== Sys2Proof/Laws/Frames.lean ====
section
/-! SUPPORT. What each operation leaves unchanged: one frame per operation, composed from its callees'. -/

namespace Sys2Proof.Machine

/-! ### Frames compose -/

theorem Part.same_refl (q : Part) (s : State) : q.same s s := by
  cases q <;> simp [Part.same]

theorem Part.same_trans {q : Part} {s t u : State} (h : q.same s t) (k : q.same t u) : q.same s u := by
  cases q <;> simp_all [Part.same]

theorem Frame.refl (ps : List Part) (s : State) : Frame ps s s := fun q _ => q.same_refl s

theorem Frame.trans {ps : List Part} {s t u : State} (h : Frame ps s t) (k : Frame ps t u) : Frame ps s u :=
  fun q hq => Part.same_trans (h q hq) (k q hq)

theorem Frame.mono {ps qs : List Part} {s t : State} (h : Frame ps s t) (k : ps ⊆ qs) : Frame qs s t :=
  fun q hq => h q (fun hp => hq (k hp))

/-- A frame ahead of an operation with a frame of its own. -/
theorem Frame.after {ps qs : List Part} {s t u : State} (k : Frame qs t u) (h : Frame ps s t) (hq : qs ⊆ ps) : Frame ps s u :=
  h.trans (k.mono hq)

/-- The state of an operation that answers a pair. -/
theorem Frame.of_pair {α : Type} {ps : List Part} {s t : State} {x : State × α} {a : α} (h : x = (t, a))
    (k : Frame ps s x.1) : Frame ps s t := by
  subst h
  exact k

/-- A fold keeps what every step keeps. -/
theorem Frame.foldl {α : Type} {ps : List Part} {f : State → α → State} (h : ∀ s x, Frame ps s (f s x)) (xs : List α)
    (s : State) : Frame ps s (xs.foldl f s) := by
  induction xs generalizing s with
  | nil => exact Frame.refl ps s
  | cons x xs ih => exact (h s x).trans (ih (f s x))

/-! ### Setters -/

variable (s : State)

theorem State.setDial_frame (d : Fin 4) (r : Dial) : Frame [.dials] s (s.setDial d r) := by
  intro q hq; cases q <;> first | (exact absurd (by decide) hq) | simp [Part.same, State.setDial, State.bell]
theorem State.setSwing_frame (b : Fin 16) (r : Swing) : Frame [.swings] s (s.setSwing b r) := by
  intro q hq; cases q <;> first | (exact absurd (by decide) hq) | simp [Part.same, State.setSwing, State.bell]
theorem State.setSession_frame (n : Fin 4) (r : Session) : Frame [.sessions] s (s.setSession n r) := by
  intro q hq; cases q <;> first | (exact absurd (by decide) hq) | simp [Part.same, State.setSession, State.bell]
theorem State.setTune_frame (t : Fin 24) (r : Tune) : Frame [.tunes] s (s.setTune t r) := by
  intro q hq; cases q <;> first | (exact absurd (by decide) hq) | simp [Part.same, State.setTune, State.bell]
theorem State.setEvent_frame (e : Fin 96) (r : Event) : Frame [.cal] s (s.setEvent e r) := by
  intro q hq; cases q <;> first | (exact absurd (by decide) hq) | simp [Part.same, State.setEvent, State.bell]
theorem State.setLight_frame (c : Fin 8) (r : Channel) : Frame [.lights] s (s.setLight c r) := by
  intro q hq; cases q <;> first | (exact absurd (by decide) hq) | simp [Part.same, State.setLight, State.bell]
theorem State.setPort_frame (p : Port) (r : LinkPort) : Frame [.ports] s (s.setPort p r) := by
  intro q hq; cases q <;> first | (exact absurd (by decide) hq) | simp [Part.same, State.setPort, State.bell]
theorem State.setToll_frame (t : Fin 4) (r : Option Toll) : Frame [.tolls] s (s.setToll t r) := by
  intro q hq; cases q <;> first | (exact absurd (by decide) hq) | simp [Part.same, State.setToll, State.bell]
theorem State.setTb_frame (r : TimeBase) : Frame [.tb] s (s.setTb r) := by
  intro q hq; cases q <;> first | (exact absurd (by decide) hq) | simp [Part.same, State.setTb, State.bell]
theorem State.setRef_frame (r : RefRx) : Frame [.ref] s (s.setRef r) := by
  intro q hq; cases q <;> first | (exact absurd (by decide) hq) | simp [Part.same, State.setRef, State.bell]
theorem State.setQueue_frame (q : List Entry) : Frame [.queue] s (s.setQueue q) := by
  intro q hq; cases q <;> first | (exact absurd (by decide) hq) | simp [Part.same, State.setQueue, State.bell]
theorem State.setLines_frame (r : Lines) : Frame [.lines] s (s.setLines r) := by
  intro q hq; cases q <;> first | (exact absurd (by decide) hq) | simp [Part.same, State.setLines, State.bell]
theorem State.setPlan_frame (n : PlanName) (r : Plan) : Frame [.plans] s (s.setPlan n r) := by
  intro q hq
  cases n <;> cases q <;> first | (exact absurd (by decide) hq) | simp [Part.same, State.setPlan, State.bell]
/-- A bell written: each part of the record that stays is the same everywhere. -/
theorem State.setBell_bell (b c : Fin 16) (r : Bell) : (s.setBell b r).bell c = if c = b then r else s.bell c := by
  by_cases h : c = b
  · simp [h]
  · simp [h, State.setBell_bell_ne s (Ne.symm h)]
theorem State.setBell_frame (b : Fin 16) (r : Bell) :
    Frame [.bellConfigs, .holders, .guards, .hammers] s (s.setBell b r) := by
  intro q hq; cases q <;> first | (exact absurd (by decide) hq) | simp [Part.same]
theorem State.setGuard_frame (b : Fin 16) (g : Guard) : Frame [.guards] s (s.setGuard b g) := by
  intro q hq
  cases q <;> first | (exact absurd (by decide) hq) | (simp [Part.same, State.setGuard]; try (intro c; rw [State.setBell_bell]; split <;> simp_all))
theorem State.setHolderField_frame (b : Fin 16) (h : Holder) :
    Frame [.holders] s (s.setBell b { s.bell b with holder := h }) := by
  intro q hq
  cases q <;> first | (exact absurd (by decide) hq) | (simp [Part.same]; try (intro c; rw [State.setBell_bell]; split <;> simp_all))
theorem State.setPulse_frame (b : Fin 16) (l e : Option Instant) :
    Frame [.hammers] s (s.setBell b { s.bell b with lastStrike := l, pulseEnd := e }) := by
  intro q hq
  cases q <;> first | (exact absurd (by decide) hq) | (simp [Part.same]; try (intro c; rw [State.setBell_bell]; split <;> simp_all))
theorem State.setConfig_frame (b : Fin 16) (c : BellConfig) :
    Frame [.bellConfigs] s (s.setBell b { s.bell b with config := c }) := by
  intro q hq
  cases q <;> first | (exact absurd (by decide) hq) | (simp [Part.same]; try (intro c; rw [State.setBell_bell]; split <;> simp_all))

/-! ### Replies -/

@[simp] theorem refuse_state (st : Status) : (refuse st s).state = s := rfl
@[simp] theorem refuse_status (st : Status) : (refuse st s).status = st := rfl
@[simp] theorem refuse_payload (st : Status) : (refuse st s).payload = [] := rfl
@[simp] theorem refuseWith_state (st : Status) (pl : List Byte) : (refuseWith st pl s).state = s := rfl
@[simp] theorem refuseWith_status (st : Status) (pl : List Byte) : (refuseWith st pl s).status = st := rfl
@[simp] theorem refuseWith_payload (st : Status) (pl : List Byte) : (refuseWith st pl s).payload = pl := rfl
@[simp] theorem refuseStale_state (r : Nat) : (refuseStale r s).state = s := rfl
@[simp] theorem refuseStale_status (r : Nat) : (refuseStale r s).status = .stale := rfl
@[simp] theorem refuseStale_payload (r : Nat) : (refuseStale r s).payload = be1 r := rfl
@[simp] theorem accept_state (pl : List Byte) : (accept pl s).state = s := rfl
@[simp] theorem accept_status (pl : List Byte) : (accept pl s).status = .ok := rfl
@[simp] theorem accept_payload (pl : List Byte) : (accept pl s).payload = pl := rfl

/-! ### What a frame gives -/

section

variable {ps : List Part} {s t : State}

theorem Frame.tb (h : Frame ps s t) (hq : Part.tb ∉ ps := by decide) : t.tb = s.tb := h .tb hq
theorem Frame.ref (h : Frame ps s t) (hq : Part.ref ∉ ps := by decide) : t.ref = s.ref := h .ref hq
theorem Frame.civil (h : Frame ps s t) (hq : Part.civil ∉ ps := by decide) : t.civil = s.civil := h .civil hq
theorem Frame.days (h : Frame ps s t) (hq : Part.days ∉ ps := by decide) : t.days = s.days := h .days hq
theorem Frame.sun (h : Frame ps s t) (hq : Part.sun ∉ ps := by decide) : t.sun = s.sun := h .sun hq
theorem Frame.dials (h : Frame ps s t) (hq : Part.dials ∉ ps := by decide) : t.dials = s.dials := h .dials hq
theorem Frame.swings (h : Frame ps s t) (hq : Part.swings ∉ ps := by decide) : t.swings = s.swings := h .swings hq
theorem Frame.sessions (h : Frame ps s t) (hq : Part.sessions ∉ ps := by decide) : t.sessions = s.sessions := h .sessions hq
theorem Frame.tunes (h : Frame ps s t) (hq : Part.tunes ∉ ps := by decide) : t.tunes = s.tunes := h .tunes hq
theorem Frame.cal (h : Frame ps s t) (hq : Part.cal ∉ ps := by decide) : t.cal = s.cal := h .cal hq
theorem Frame.lights (h : Frame ps s t) (hq : Part.lights ∉ ps := by decide) : t.lights = s.lights := h .lights hq
theorem Frame.supply (h : Frame ps s t) (hq : Part.supply ∉ ps := by decide) : t.supply = s.supply := h .supply hq
theorem Frame.ports (h : Frame ps s t) (hq : Part.ports ∉ ps := by decide) : t.ports = s.ports := h .ports hq
theorem Frame.lines (h : Frame ps s t) (hq : Part.lines ∉ ps := by decide) : t.lines = s.lines := h .lines hq
theorem Frame.pending (h : Frame ps s t) (hq : Part.pending ∉ ps := by decide) : t.pending = s.pending := h .pending hq
theorem Frame.config (h : Frame ps s t) (b : Fin 16) (hq : Part.bellConfigs ∉ ps := by decide) :
    (t.bell b).config = (s.bell b).config := h .bellConfigs hq b
theorem Frame.holder (h : Frame ps s t) (b : Fin 16) (hq : Part.holders ∉ ps := by decide) :
    (t.bell b).holder = (s.bell b).holder := h .holders hq b
theorem Frame.guard (h : Frame ps s t) (b : Fin 16) (hq : Part.guards ∉ ps := by decide) :
    (t.bell b).guard = (s.bell b).guard := h .guards hq b
theorem Frame.lastStrike (h : Frame ps s t) (b : Fin 16) (hq : Part.hammers ∉ ps := by decide) :
    (t.bell b).lastStrike = (s.bell b).lastStrike := (h .hammers hq b).1
theorem Frame.pulseEnd (h : Frame ps s t) (b : Fin 16) (hq : Part.hammers ∉ ps := by decide) :
    (t.bell b).pulseEnd = (s.bell b).pulseEnd := (h .hammers hq b).2
theorem Frame.plans (h : Frame ps s t) (hq : Part.plans ∉ ps := by decide) :
    t.ordinary = s.ordinary ∧ t.festal = s.festal := h .plans hq
theorem Frame.queue (h : Frame ps s t) (hq : Part.queue ∉ ps := by decide) : t.strike.queue = s.strike.queue :=
  (h .queue hq).1
theorem Frame.nextSeq (h : Frame ps s t) (hq : Part.queue ∉ ps := by decide) : t.strike.nextSeq = s.strike.nextSeq :=
  (h .queue hq).2
theorem Frame.marker (h : Frame ps s t) (hq : Part.quarters ∉ ps := by decide) : t.strike.marker = s.strike.marker :=
  (h .quarters hq).1
theorem Frame.heldQuarter (h : Frame ps s t) (hq : Part.held ∉ ps := by decide) : t.strike.held = s.strike.held :=
  h .held hq
theorem Frame.tolls (h : Frame ps s t) (hq : Part.tolls ∉ ps := by decide) : t.strike.tolls = s.strike.tolls :=
  h .tolls hq
theorem Frame.silence (h : Frame ps s t) (hq : Part.silence ∉ ps := by decide) : t.strike.silence = s.strike.silence :=
  h .silence hq
theorem Frame.share (h : Frame ps s t) (hq : Part.share ∉ ps := by decide) : t.strike.share = s.strike.share :=
  h .share hq
theorem Frame.warmHeld (h : Frame ps s t) (hq : Part.hold ∉ ps := by decide) : t.warm.held = s.warm.held :=
  (h .hold hq).2
theorem Frame.now (h : Frame ps s t) (hq : Part.tb ∉ ps := by decide) : t.now = s.now := by
  simp only [State.now, h.tb hq]

end

/-! ### Notices and ports -/

/-- The parts a notice may touch. -/
abbrev noticeParts : List Part := [.notices, .ports]

theorem postNotice_frame (n : Notice) : Frame noticeParts s (postNotice n s) := by
  intro q hq
  cases q <;> first
    | (exact absurd (by decide) hq)
    | (simp only [Part.same, postNotice, State.bell]; split <;> (try split) <;> simp)
theorem postAt_frame (k : NoticeKind) (i : Nat) (d : BitVec 16) (l : Option Label) : Frame noticeParts s (postAt k i d l s) :=
  postNotice_frame s _
theorem post_frame (k : NoticeKind) (i : Nat) (d : BitVec 16) : Frame noticeParts s (post k i d s) := postNotice_frame s _
theorem respond_frame (p : Port) (tag : Byte) (st : Status) (pl : List Byte) : Frame [.ports] s (respond p tag st pl s) :=
  State.setPort_frame s p _
theorem State.setRx_frame (p : Port) (rx : List Byte) : Frame [.ports] s (s.setRx p rx) := State.setPort_frame s p _
theorem discardFrame_frame (p : Port) : Frame [.ports] s (discardFrame p s) := State.setPort_frame s p _
theorem oweBusy_frame (p : Port) (tag : Byte) : Frame [.ports] s (oweBusy p tag s) := by
  unfold oweBusy
  dsimp only
  split <;> exact State.setPort_frame s p _

/-- A request changes its port and what its owner changes. -/
theorem takeRequest_frame {ps : List Part} (p : Port) (tag : Byte) (act : State → Reply) (hp : .ports ∈ ps)
    (h : Frame ps s (act s).state) : Frame ps s (takeRequest p tag act s) := by
  have hs : [Part.ports] ⊆ ps := by simpa using hp
  unfold takeRequest
  split
  · exact (discardFrame_frame s p).mono hs
  · split
    · exact (oweBusy_frame s p tag).mono hs
    · exact h.trans ((respond_frame _ p tag _ _).mono hs)
theorem request_frame {ps : List Part} (r : Req) (p : Port) (tag : Byte) (act : State → Reply) (hp : .ports ∈ ps)
    (h : Frame ps s (act s).state) : Frame ps s (request r p tag act s) := by
  refine takeRequest_frame s p tag _ hp ?_
  split
  · exact h
  · exact Frame.refl ps s

end Sys2Proof.Machine
end

