-- ==== Sys2Proof/Laws/BellFrames.lean ====
section
/-! SUPPORT. What each operation leaves unchanged: the bells, guards, swings and sessions. -/

namespace Sys2Proof.Machine

variable (s : State)

/-! ### Raw updates -/

theorem withDays_frame (x : DayList) : Frame [.days] s { s with days := x } := by
  intro q hq; cases q <;> first | (exact absurd (by decide) hq) | simp [Part.same, State.bell]
theorem withCivil_frame (x : Civil) : Frame [.civil] s { s with civil := x } := by
  intro q hq; cases q <;> first | (exact absurd (by decide) hq) | simp [Part.same, State.bell]
theorem withSun_frame (x : SunTable) : Frame [.sun] s { s with sun := x } := by
  intro q hq; cases q <;> first | (exact absurd (by decide) hq) | simp [Part.same, State.bell]
theorem withCal_frame (x : Calendar) : Frame [.cal] s { s with cal := x } := by
  intro q hq; cases q <;> first | (exact absurd (by decide) hq) | simp [Part.same, State.bell]
theorem withSupply_frame (x : Supply) : Frame [.supply] s { s with supply := x } := by
  intro q hq; cases q <;> first | (exact absurd (by decide) hq) | simp [Part.same, State.bell]
theorem withPorts_frame (x : Vector LinkPort 3) : Frame [.ports] s { s with ports := x } := by
  intro q hq; cases q <;> first | (exact absurd (by decide) hq) | simp [Part.same, State.bell]
theorem withWarm_frame (x : WarmReset) : Frame [.hold, .notices] s { s with warm := x } := by
  intro q hq; cases q <;> first | (exact absurd (by decide) hq) | simp [Part.same, State.bell]
theorem withQueue_frame (q : List Entry) (n : Nat) : Frame [.queue] s { s with strike := { s.strike with queue := q, nextSeq := n } } := by
  intro q hq; cases q <;> first | (exact absurd (by decide) hq) | simp [Part.same, State.bell]
theorem withOutcome_frame (o : Option (QuarterOutcome × Nat)) : Frame [.quarters] s { s with strike := { s.strike with lastOutcome := o } } := by
  intro q hq; cases q <;> first | (exact absurd (by decide) hq) | simp [Part.same, State.bell]
theorem withHeld_frame (h : Option Held) : Frame [.held] s { s with strike := { s.strike with held := h } } := by
  intro q hq; cases q <;> first | (exact absurd (by decide) hq) | simp [Part.same, State.bell]
theorem withMarker_frame (m : Option Nat) : Frame [.quarters] s { s with strike := { s.strike with marker := m } } := by
  intro q hq; cases q <;> first | (exact absurd (by decide) hq) | simp [Part.same, State.bell]
theorem withShare_frame (k : Nat) : Frame [.share] s { s with strike := { s.strike with share := k } } := by
  intro q hq; cases q <;> first | (exact absurd (by decide) hq) | simp [Part.same, State.bell]
theorem withSilence_frame (f : Bool) : Frame [.silence] s { s with strike := { s.strike with silence := f } } := by
  intro q hq; cases q <;> first | (exact absurd (by decide) hq) | simp [Part.same, State.bell]

/-- Deciding bells one by one keeps what deciding each keeps. -/
theorem decideBells_frame {ps : List Part} {f : Fin 16 → State → State × Option Status}
    (h : ∀ b s, Frame ps s (f b s).1) (bs : List (Fin 16)) : Frame ps s (decideBells f bs s).1 := by
  induction bs generalizing s with
  | nil => exact Frame.refl ps s
  | cons b bs ih => exact (h b s).trans (ih (f b s).1)

/-! ### Machine/Bells -/

theorem startBell_frame (n : Fin 4) (b : Fin 16) :
    Frame [.swings, .sessions] s (startBell n b s) := by
  unfold startBell
  repeat' (with_reducible first
    | exact Frame.refl _ _
    | decide
    | split
    | apply Frame.after (State.setSwing_frame ..)
    | apply Frame.after (State.setSession_frame ..))

theorem tryStart_frame (n : Fin 4) :
    Frame [.swings, .sessions] s (tryStart n s) := by
  unfold tryStart
  repeat' (with_reducible first
    | exact Frame.refl _ _
    | decide
    | split
    | apply Frame.after (startBell_frame ..))

theorem tryStartOf_frame (b : Fin 16) :
    Frame [.swings, .sessions] s (tryStartOf b s) := by
  unfold tryStartOf
  repeat' (with_reducible first
    | exact Frame.refl _ _
    | decide
    | split
    | apply Frame.after (tryStart_frame ..))

theorem guardComplete_frame (b : Fin 16) :
    Frame [.guards, .swings, .sessions, .notices, .ports] s (guardComplete b s) := by
  unfold guardComplete
  repeat' (with_reducible first
    | exact Frame.refl _ _
    | decide
    | split
    | apply Frame.after (State.setGuard_frame ..)
    | apply Frame.after (post_frame ..)
    | apply Frame.after (tryStartOf_frame ..))

theorem guardBegin_frame (b : Fin 16) :
    Frame [.guards, .swings, .sessions, .notices, .ports] s (guardBegin b s) := by
  unfold guardBegin
  repeat' (with_reducible first
    | exact Frame.refl _ _
    | decide
    | split
    | apply Frame.after (State.setGuard_frame ..)
    | apply Frame.after (guardComplete_frame ..)
    | dsimp only)

theorem guardEngage_frame (b : Fin 16) :
    Frame [.guards, .swings, .sessions, .notices, .ports] s (guardEngage b s) := by
  unfold guardEngage
  repeat' (with_reducible first
    | exact Frame.refl _ _
    | decide
    | split
    | apply Frame.after (State.setGuard_frame ..)
    | apply Frame.after (guardBegin_frame ..)
    | dsimp only)

theorem guardRelease_frame (b : Fin 16) :
    Frame [.guards, .swings, .sessions, .notices, .ports] s (guardRelease b s) := by
  unfold guardRelease
  repeat' (with_reducible first
    | exact Frame.refl _ _
    | decide
    | split
    | apply Frame.after (State.setGuard_frame ..)
    | apply Frame.after (guardBegin_frame ..)
    | dsimp only)

theorem changeHolder_frame (b : Fin 16) (h : Holder) :
    Frame [.holders, .notices, .ports] s (changeHolder b h s) := by
  unfold changeHolder
  repeat' (with_reducible first
    | exact Frame.refl _ _
    | decide
    | apply Frame.after (post_frame ..)
    | apply Frame.after (State.setHolderField_frame ..))

theorem setHolder_frame (b : Fin 16) (h : Holder) :
    Frame [.holders, .guards, .swings, .sessions, .notices, .ports] s (setHolder b h s) := by
  unfold setHolder
  repeat' (with_reducible first
    | exact Frame.refl _ _
    | decide
    | split
    | apply Frame.after (guardEngage_frame ..)
    | apply Frame.after (guardRelease_frame ..)
    | apply Frame.after (changeHolder_frame ..)
    | dsimp only)

theorem motorOff_frame (b : Fin 16) :
    Frame [.swings] s (motorOff b s) := by
  unfold motorOff
  repeat' (with_reducible first
    | exact Frame.refl _ _
    | decide
    | split
    | apply Frame.after (State.setSwing_frame ..)
    | dsimp only)

theorem settleStopSlot_frame (n : Fin 4) :
    Frame [.sessions] s (settleStopSlot n s) := by
  unfold settleStopSlot
  repeat' (with_reducible first
    | exact Frame.refl _ _
    | decide
    | split
    | apply Frame.after (State.setSession_frame ..)
    | dsimp only)

theorem endSession_frame (n : Fin 4) :
    Frame [.sessions, .notices, .ports] s (endSession n s) := by
  unfold endSession
  repeat' (with_reducible first
    | exact Frame.refl _ _
    | decide
    | split
    | apply Frame.after (State.setSession_frame ..)
    | apply Frame.after (post_frame ..))

theorem afterLeaving_frame (n : Fin 4) :
    Frame [.swings, .sessions, .notices, .ports] s (afterLeaving n s) := by
  unfold afterLeaving
  repeat' (with_reducible first
    | exact Frame.refl _ _
    | decide
    | split
    | apply Frame.after (State.setSession_frame ..)
    | apply Frame.after (tryStart_frame ..)
    | apply Frame.after (settleStopSlot_frame ..)
    | apply Frame.after (endSession_frame ..)
    | dsimp only)

theorem leaveEarly_frame (b : Fin 16) (h : Holder) :
    Frame [.holders, .guards, .swings, .sessions, .notices, .ports] s (leaveEarly b h s) := by
  unfold leaveEarly
  repeat' (with_reducible first
    | exact Frame.refl _ _
    | decide
    | split
    | apply Frame.after (State.setSession_frame ..)
    | apply Frame.after (post_frame ..)
    | apply Frame.after (setHolder_frame ..)
    | apply Frame.after (motorOff_frame ..)
    | apply Frame.after (afterLeaving_frame ..))

theorem guardFaultState_frame (b : Fin 16) (c : GuardCause) :
    Frame [.guards, .notices, .ports] s (guardFaultState b c s) := by
  unfold guardFaultState
  repeat' (with_reducible first
    | exact Frame.refl _ _
    | decide
    | split
    | apply Frame.after (State.setGuard_frame ..)
    | apply Frame.after (post_frame ..))

theorem guardFault_frame (b : Fin 16) (c : GuardCause) :
    Frame [.holders, .guards, .swings, .sessions, .notices, .ports] s (guardFault b c s) := by
  unfold guardFault
  repeat' (with_reducible first
    | exact Frame.refl _ _
    | decide
    | split
    | apply Frame.after (leaveEarly_frame ..)
    | apply Frame.after (guardFaultState_frame ..))

theorem readGuard_frame (b : Fin 16) :
    Frame [.guards, .swings, .sessions, .notices, .ports] s (readGuard b s) := by
  unfold readGuard
  repeat' (with_reducible first
    | exact Frame.refl _ _
    | decide
    | split
    | apply Frame.after (State.setGuard_frame ..)
    | apply Frame.after (post_frame ..)
    | apply Frame.after (guardEngage_frame ..)
    | apply Frame.after (guardRelease_frame ..)
    | apply Frame.after (guardFault_frame ..)
    | dsimp only)

theorem enterAtRest_frame (b : Fin 16) :
    Frame [.swings] s (enterAtRest b s) := by
  unfold enterAtRest
  repeat' (with_reducible first
    | exact Frame.refl _ _
    | decide
    | split
    | apply Frame.after (State.setSwing_frame ..))

theorem swingFault_frame (b : Fin 16) (c : SwingFault) :
    Frame [.holders, .guards, .swings, .sessions, .notices, .ports] s (swingFault b c s) := by
  unfold swingFault
  repeat' (with_reducible first
    | exact Frame.refl _ _
    | decide
    | split
    | apply Frame.after (State.setSwing_frame ..)
    | apply Frame.after (post_frame ..)
    | apply Frame.after (leaveEarly_frame ..))

theorem enterStopping_frame (n : Fin 4) (c : EndCause) :
    Frame [.holders, .guards, .swings, .sessions, .notices, .ports] s (enterStopping n c s) := by
  unfold enterStopping
  repeat' (with_reducible first
    | exact Frame.refl _ _
    | decide
    | split
    | apply Frame.after (State.setSession_frame ..)
    | apply Frame.after (setHolder_frame ..)
    | apply Frame.after (settleStopSlot_frame ..)
    | apply Frame.after (endSession_frame ..)
    | apply Frame.after (Frame.foldl (fun _ _ => State.setSession_frame ..) _ _)
    | apply Frame.after (Frame.foldl (fun _ _ => setHolder_frame ..) _ _)
    | apply Frame.after (Frame.foldl (fun _ _ => settleStopSlot_frame ..) _ _)
    | apply Frame.after (Frame.foldl (fun _ _ => endSession_frame ..) _ _)
    | dsimp only)

theorem handFault_frame (b : Fin 16) :
    Frame [.holders, .guards, .swings, .sessions, .notices, .ports] s (handFault b s) := by
  unfold handFault
  repeat' (with_reducible first
    | exact Frame.refl _ _
    | decide
    | split
    | apply Frame.after (leaveEarly_frame ..))

theorem createIn_frame (n : Fin 4) (origin : SessionOrigin) (mask : BitVec 16) (stagger : Nat) (duration : Nat) :
    Frame [.holders, .guards, .swings, .sessions, .notices, .ports] s (createIn n origin mask stagger duration s) := by
  unfold createIn
  repeat' (with_reducible first
    | exact Frame.refl _ _
    | decide
    | split
    | apply Frame.after (State.setSession_frame ..)
    | apply Frame.after (post_frame ..)
    | apply Frame.after (tryStart_frame ..)
    | apply Frame.after (setHolder_frame ..)
    | apply Frame.after (handFault_frame ..)
    | apply Frame.after (Frame.foldl (fun _ _ => State.setSession_frame ..) _ _)
    | apply Frame.after (Frame.foldl (fun _ _ => post_frame ..) _ _)
    | apply Frame.after (Frame.foldl (fun _ _ => tryStart_frame ..) _ _)
    | apply Frame.after (Frame.foldl (fun _ _ => setHolder_frame ..) _ _)
    | apply Frame.after (Frame.foldl (fun _ _ => handFault_frame ..) _ _))

theorem createSession_frame (origin : SessionOrigin) (mask : BitVec 16) (stagger : Nat) (duration : Nat) :
    Frame [.holders, .guards, .swings, .sessions, .notices, .ports] s (createSession origin mask stagger duration s).1 := by
  unfold createSession
  repeat' (with_reducible first
    | exact Frame.refl _ _
    | decide
    | split
    | apply Frame.after (createIn_frame ..))

theorem contactTaken_frame (b : Fin 16) (c : Contact) (closed : Bool) :
    Frame [.holders, .guards, .swings, .sessions, .notices, .ports] s (contactTaken b c closed s) := by
  unfold contactTaken
  repeat' (with_reducible first
    | exact Frame.refl _ _
    | decide
    | split
    | apply Frame.after (guardComplete_frame ..)
    | apply Frame.after (guardFault_frame ..)
    | dsimp only)

theorem guardHalt_frame (b : Fin 16) :
    Frame [.guards] s (guardHalt b s) := by
  unfold guardHalt
  repeat' (with_reducible first
    | exact Frame.refl _ _
    | decide
    | split
    | apply Frame.after (State.setGuard_frame ..)
    | dsimp only)

theorem guardResume_frame (b : Fin 16) :
    Frame [.guards, .swings, .sessions, .notices, .ports] s (guardResume b s) := by
  unfold guardResume
  repeat' (with_reducible first
    | exact Frame.refl _ _
    | decide
    | split
    | apply Frame.after (guardBegin_frame ..))

theorem sessionSupplyLost_frame (n : Fin 4) :
    Frame [.holders, .guards, .swings, .sessions, .notices, .ports] s (sessionSupplyLost n s) := by
  unfold sessionSupplyLost
  repeat' (with_reducible first
    | exact Frame.refl _ _
    | decide
    | split
    | apply Frame.after (settleStopSlot_frame ..)
    | apply Frame.after (enterStopping_frame ..))

theorem swingsSupplyLost_frame  :
    Frame [.holders, .guards, .swings, .sessions, .notices, .ports] s (swingsSupplyLost s) := by
  unfold swingsSupplyLost
  repeat' (with_reducible first
    | exact Frame.refl _ _
    | decide
    | split
    | apply Frame.after (motorOff_frame ..)
    | apply Frame.after (sessionSupplyLost_frame ..)
    | apply Frame.after (Frame.foldl (fun _ _ => motorOff_frame ..) _ _)
    | apply Frame.after (Frame.foldl (fun _ _ => sessionSupplyLost_frame ..) _ _))

theorem bellCompletion_frame (b : Fin 16) :
    Frame [.guards, .swings, .sessions, .notices, .ports] s (bellCompletion b s) := by
  unfold bellCompletion
  repeat' (with_reducible first
    | exact Frame.refl _ _
    | decide
    | split
    | apply Frame.after (State.setGuard_frame ..)
    | apply Frame.after (readGuard_frame ..)
    | dsimp only)

theorem swingCompletion_frame (b : Fin 16) :
    Frame [.swings] s (swingCompletion b s) := by
  unfold swingCompletion
  repeat' (with_reducible first
    | exact Frame.refl _ _
    | decide
    | split
    | apply Frame.after (State.setSwing_frame ..))

theorem guardContactChange_frame (b : Fin 16) (c : Contact) (closed : Bool) :
    Frame [.guards, .lines] s (guardContactChange b c closed s) := by
  unfold guardContactChange
  repeat' (with_reducible first
    | exact Frame.refl _ _
    | decide
    | split
    | apply Frame.after (State.setLines_frame ..)
    | apply Frame.after (State.setGuard_frame ..))

theorem guardContactSettled_frame (b : Fin 16) (c : Contact) :
    Frame [.holders, .guards, .swings, .sessions, .notices, .ports] s (guardContactSettled b c s) := by
  unfold guardContactSettled
  repeat' (with_reducible first
    | exact Frame.refl _ _
    | decide
    | split
    | apply Frame.after (State.setGuard_frame ..)
    | apply Frame.after (contactTaken_frame ..)
    | dsimp only)

theorem guardTravelTimeout_frame (b : Fin 16) :
    Frame [.holders, .guards, .swings, .sessions, .notices, .ports] s (guardTravelTimeout b s) := by
  unfold guardTravelTimeout
  repeat' (with_reducible first
    | exact Frame.refl _ _
    | decide
    | split
    | apply Frame.after (guardFault_frame ..)
    | dsimp only)

theorem pulseTaken_frame (b : Fin 16) (interval : Option Nat) :
    Frame [.swings, .notices, .ports] s (pulseTaken b interval s) := by
  unfold pulseTaken
  repeat' (with_reducible first
    | exact Frame.refl _ _
    | decide
    | split
    | apply Frame.after (State.setSwing_frame ..)
    | apply Frame.after (post_frame ..)
    | dsimp only)

theorem sensorPulse_frame (b : Fin 16) :
    Frame [.swings, .notices, .ports] s (sensorPulse b s) := by
  unfold sensorPulse
  repeat' (with_reducible first
    | exact Frame.refl _ _
    | decide
    | split
    | apply Frame.after (State.setSwing_frame ..)
    | apply Frame.after (pulseTaken_frame ..)
    | dsimp only)

theorem driftSettled_frame (b : Fin 16) :
    Frame [.guards, .swings, .sessions, .notices, .ports] s (driftSettled b s) := by
  unfold driftSettled
  repeat' (with_reducible first
    | exact Frame.refl _ _
    | decide
    | split
    | apply Frame.after (post_frame ..)
    | apply Frame.after (tryStartOf_frame ..)
    | apply Frame.after (guardRelease_frame ..)
    | apply Frame.after (enterAtRest_frame ..)
    | dsimp only)

theorem leaveSettled_frame (n : Fin 4) (b : Fin 16) :
    Frame [.holders, .guards, .swings, .sessions, .notices, .ports] s (leaveSettled n b s) := by
  unfold leaveSettled
  repeat' (with_reducible first
    | exact Frame.refl _ _
    | decide
    | split
    | apply Frame.after (State.setSession_frame ..)
    | apply Frame.after (guardRelease_frame ..)
    | apply Frame.after (changeHolder_frame ..)
    | apply Frame.after (afterLeaving_frame ..))

theorem stopSettled_frame (b : Fin 16) :
    Frame [.holders, .guards, .swings, .sessions, .notices, .ports] s (stopSettled b s) := by
  unfold stopSettled
  repeat' (with_reducible first
    | exact Frame.refl _ _
    | decide
    | split
    | apply Frame.after (post_frame ..)
    | apply Frame.after (guardRelease_frame ..)
    | apply Frame.after (tryStart_frame ..)
    | apply Frame.after (leaveSettled_frame ..)
    | apply Frame.after (enterAtRest_frame ..)
    | dsimp only)

theorem startTimeout_frame (b : Fin 16) :
    Frame [.holders, .guards, .swings, .sessions, .notices, .ports] s (startTimeout b s) := by
  unfold startTimeout
  repeat' (with_reducible first
    | exact Frame.refl _ _
    | decide
    | split
    | apply Frame.after (swingFault_frame ..)
    | dsimp only)

theorem swingLost_frame (b : Fin 16) :
    Frame [.holders, .guards, .swings, .sessions, .notices, .ports] s (swingLost b s) := by
  unfold swingLost
  repeat' (with_reducible first
    | exact Frame.refl _ _
    | decide
    | split
    | apply Frame.after (swingFault_frame ..))

theorem sessionStartSlot_frame (n : Fin 4) :
    Frame [.swings, .sessions] s (sessionStartSlot n s) := by
  unfold sessionStartSlot
  repeat' (with_reducible first
    | exact Frame.refl _ _
    | decide
    | split
    | apply Frame.after (tryStart_frame ..))

theorem sessionEndTime_frame (n : Fin 4) :
    Frame [.holders, .guards, .swings, .sessions, .notices, .ports] s (sessionEndTime n s) := by
  unfold sessionEndTime
  repeat' (with_reducible first
    | exact Frame.refl _ _
    | decide
    | split
    | apply Frame.after (enterStopping_frame ..)
    | dsimp only)

theorem sessionStopSlot_frame (n : Fin 4) :
    Frame [.swings, .sessions] s (sessionStopSlot n s) := by
  unfold sessionStopSlot
  repeat' (with_reducible first
    | exact Frame.refl _ _
    | decide
    | split
    | apply Frame.after (State.setSession_frame ..)
    | apply Frame.after (motorOff_frame ..)
    | apply Frame.after (settleStopSlot_frame ..)
    | dsimp only)

theorem claimBell_frame (p : Port) (ropes : Bool) (b : Fin 16) :
    Frame [.holders, .guards, .swings, .sessions, .notices, .ports] s (claimBell p ropes b s).1 := by
  unfold claimBell
  repeat' (with_reducible first
    | exact Frame.refl _ _
    | decide
    | split
    | apply Frame.after (setHolder_frame ..)
    | apply Frame.after (leaveEarly_frame ..)
    | dsimp only)

theorem actClaim_frame (p : Port) (kind : Nat) (mask : Nat) :
    Frame [.holders, .guards, .swings, .sessions, .notices, .ports] s (actClaim p kind mask s).state := by
  unfold actClaim
  repeat' (with_reducible first
    | exact Frame.refl _ _
    | decide
    | split
    | simp only [refuse_state, accept_state]
    | apply Frame.after (claimBell_frame ..)
    | exact decideBells_frame _ (fun _ _ => claimBell_frame ..) _)

theorem claim_frame (p : Port) (tag : Byte) (kind : Nat) (mask : Nat) :
    Frame [.holders, .guards, .swings, .sessions, .notices, .ports] s (claim p tag kind mask s) :=
  request_frame s _ _ _ _ (by decide) (Frame.mono (actClaim_frame s p kind mask) (by decide))

theorem releaseBell_frame (p : Port) (b : Fin 16) :
    Frame [.holders, .guards, .swings, .sessions, .notices, .ports] s (releaseBell p b s).1 := by
  unfold releaseBell
  repeat' (with_reducible first
    | exact Frame.refl _ _
    | decide
    | split
    | apply Frame.after (setHolder_frame ..))

theorem actRelease_frame (p : Port) (mask : Nat) :
    Frame [.holders, .guards, .swings, .sessions, .notices, .ports] s (actRelease p mask s).state := by
  unfold actRelease
  repeat' (with_reducible first
    | exact Frame.refl _ _
    | decide
    | split
    | simp only [refuse_state, accept_state]
    | apply Frame.after (releaseBell_frame ..)
    | exact decideBells_frame _ (fun _ _ => releaseBell_frame ..) _)

theorem release_frame (p : Port) (tag : Byte) (mask : Nat) :
    Frame [.holders, .guards, .swings, .sessions, .notices, .ports] s (release p tag mask s) :=
  request_frame s _ _ _ _ (by decide) (Frame.mono (actRelease_frame s p mask) (by decide))

theorem writeBell_frame (b : Fin 16) (c : BellConfig) :
    Frame [.bellConfigs, .holders, .guards, .swings, .sessions, .notices, .ports] s (writeBell b c s) := by
  unfold writeBell
  repeat' (with_reducible first
    | exact Frame.refl _ _
    | decide
    | split
    | apply Frame.after (State.setSwing_frame ..)
    | apply Frame.after (State.setGuard_frame ..)
    | apply Frame.after (readGuard_frame ..)
    | apply Frame.after (State.setConfig_frame ..)
    | dsimp only)

theorem actBellConfig_frame (a : BellArgs) :
    Frame [.bellConfigs, .holders, .guards, .swings, .sessions, .notices, .ports] s (actBellConfig a s).state := by
  unfold actBellConfig
  repeat' (with_reducible first
    | exact Frame.refl _ _
    | decide
    | split
    | simp only [refuse_state, refuseStale_state, accept_state]
    | apply Frame.after (writeBell_frame ..))

theorem bellConfig_frame (p : Port) (tag : Byte) (a : BellArgs) :
    Frame [.bellConfigs, .holders, .guards, .swings, .sessions, .notices, .ports] s (bellConfig p tag a s) :=
  request_frame s _ _ _ _ (by decide) (Frame.mono (actBellConfig_frame s a) (by decide))

theorem clearSwing_frame (b : Fin 16) :
    Frame [.swings] s (clearSwing b s).1 := by
  unfold clearSwing
  repeat' (with_reducible first
    | exact Frame.refl _ _
    | decide
    | split
    | apply Frame.after (State.setSwing_frame ..)
    | dsimp only)

theorem clearGuard_frame (b : Fin 16) :
    Frame [.guards, .swings, .sessions, .notices, .ports] s (clearGuard b s).1 := by
  unfold clearGuard
  repeat' (with_reducible first
    | exact Frame.refl _ _
    | decide
    | split
    | apply Frame.after (State.setGuard_frame ..)
    | apply Frame.after (guardBegin_frame ..)
    | dsimp only)

theorem actBellFaultClear_frame (bell : Nat) :
    Frame [.guards, .swings, .sessions, .notices, .ports] s (actBellFaultClear bell s).state := by
  unfold actBellFaultClear
  repeat' (with_reducible first
    | exact Frame.refl _ _
    | decide
    | split
    | simp only [refuse_state, refuseWith_state, accept_state]
    | apply Frame.after (clearSwing_frame ..)
    | apply Frame.after (clearGuard_frame ..))

theorem bellFaultClear_frame (p : Port) (tag : Byte) (bell : Nat) :
    Frame [.guards, .swings, .sessions, .notices, .ports] s (bellFaultClear p tag bell s) :=
  request_frame s _ _ _ _ (by decide) (Frame.mono (actBellFaultClear_frame s bell) (by decide))

theorem actRingStart_frame (mask : Nat) (stagger : Nat) (duration : Nat) :
    Frame [.holders, .guards, .swings, .sessions, .notices, .ports] s (actRingStart mask stagger duration s).state := by
  unfold actRingStart
  repeat' (with_reducible first
    | exact Frame.refl _ _
    | decide
    | split
    | simp only [refuse_state, refuseWith_state, accept_state]
    | apply Frame.after (createSession_frame ..)
    | exact Frame.of_pair (by assumption) (Frame.mono (createSession_frame ..) (by decide)))

theorem ringStart_frame (p : Port) (tag : Byte) (mask : Nat) (stagger : Nat) (duration : Nat) :
    Frame [.holders, .guards, .swings, .sessions, .notices, .ports] s (ringStart p tag mask stagger duration s) :=
  request_frame s _ _ _ _ (by decide) (Frame.mono (actRingStart_frame s mask stagger duration) (by decide))

theorem actRingCancel_frame (session : Nat) :
    Frame [.holders, .guards, .swings, .sessions, .notices, .ports] s (actRingCancel session s).state := by
  unfold actRingCancel
  repeat' (with_reducible first
    | exact Frame.refl _ _
    | decide
    | split
    | simp only [refuse_state, accept_state]
    | apply Frame.after (enterStopping_frame ..))

theorem ringCancel_frame (p : Port) (tag : Byte) (session : Nat) :
    Frame [.holders, .guards, .swings, .sessions, .notices, .ports] s (ringCancel p tag session s) :=
  request_frame s _ _ _ _ (by decide) (Frame.mono (actRingCancel_frame s session) (by decide))

theorem actRingRead_frame (session : Nat) :
    Frame [] s (actRingRead session s).state := by
  unfold actRingRead
  repeat' (with_reducible first
    | exact Frame.refl _ _
    | decide
    | split
    | simp only [refuse_state, accept_state])

theorem ringRead_frame (p : Port) (tag : Byte) (session : Nat) :
    Frame [.ports] s (ringRead p tag session s) :=
  request_frame s _ _ _ _ (by decide) (Frame.mono (actRingRead_frame s session) (by decide))

end Sys2Proof.Machine
end

