-- ==== Sys2Proof/Laws/StrikeFrames.lean ====
section
/-! SUPPORT. What each operation leaves unchanged: the Strike Unit, the tunes and the plans. -/

namespace Sys2Proof.Machine

variable (s : State)

/-! ### Machine/Strike -/

theorem enqueue_frame (due : Instant) (b : Fin 16) (o : Origin) (number : Nat) :
    Frame [.queue] s (enqueue due b o number s) := by
  unfold enqueue
  repeat' (with_reducible first
    | exact Frame.refl _ _
    | decide
    | split
    | apply Frame.after (withQueue_frame ..))

theorem removeEntry_frame (seq : Nat) :
    Frame [.queue] s (removeEntry seq s) := by
  unfold removeEntry
  repeat' (with_reducible first
    | exact Frame.refl _ _
    | decide
    | split
    | apply Frame.after (State.setQueue_frame ..))

theorem replaceEntry_frame (e : Entry) :
    Frame [.queue] s (replaceEntry e s) := by
  unfold replaceEntry
  repeat' (with_reducible first
    | exact Frame.refl _ _
    | decide
    | split
    | apply Frame.after (State.setQueue_frame ..))

theorem endToll_frame (n : Fin 4) (c : TollCause) :
    Frame [.queue, .tolls, .notices, .ports] s (endToll n c s) := by
  unfold endToll
  repeat' (with_reducible first
    | exact Frame.refl _ _
    | decide
    | split
    | apply Frame.after (State.setToll_frame ..)
    | apply Frame.after (State.setQueue_frame ..)
    | apply Frame.after (post_frame ..))

theorem tollServed_frame (n : Fin 4) (begun : Bool) (due : Instant) :
    Frame [.queue, .tolls, .notices, .ports] s (tollServed n begun due s) := by
  unfold tollServed
  repeat' (with_reducible first
    | exact Frame.refl _ _
    | decide
    | split
    | apply Frame.after (State.setToll_frame ..)
    | apply Frame.after (enqueue_frame ..)
    | apply Frame.after (endToll_frame ..)
    | dsimp only)

theorem entryLeft_frame (e : Entry) (begun : Bool) :
    Frame [.queue, .tolls, .notices, .ports] s (entryLeft e begun s) := by
  unfold entryLeft
  repeat' (with_reducible first
    | exact Frame.refl _ _
    | decide
    | split
    | apply Frame.after (tollServed_frame ..))

theorem skipEntry_frame (e : Entry) (f : StrikeFail) :
    Frame [.queue, .tolls, .notices, .ports] s (skipEntry e f s) := by
  unfold skipEntry
  repeat' (with_reducible first
    | exact Frame.refl _ _
    | decide
    | split
    | apply Frame.after (post_frame ..)
    | apply Frame.after (removeEntry_frame ..)
    | apply Frame.after (entryLeft_frame ..))

theorem beginPulse_frame (e : Entry) :
    Frame [.hammers, .queue, .tolls, .notices, .ports] s (beginPulse e s) := by
  unfold beginPulse
  repeat' (with_reducible first
    | exact Frame.refl _ _
    | decide
    | split
    | apply Frame.after (removeEntry_frame ..)
    | apply Frame.after (entryLeft_frame ..)
    | apply Frame.after (State.setPulse_frame ..))

theorem serveEntry_frame (e : Entry) :
    Frame [.hammers, .queue, .tolls, .notices, .ports] s (serveEntry e s) := by
  unfold serveEntry
  repeat' (with_reducible first
    | exact Frame.refl _ _
    | decide
    | split
    | apply Frame.after (replaceEntry_frame ..)
    | apply Frame.after (beginPulse_frame ..))

theorem takeUp_frame (e : Entry) :
    Frame [.hammers, .queue, .tolls, .notices, .ports] s (takeUp e s) := by
  unfold takeUp
  repeat' (with_reducible first
    | exact Frame.refl _ _
    | decide
    | split
    | apply Frame.after (post_frame ..)
    | apply Frame.after (replaceEntry_frame ..)
    | apply Frame.after (skipEntry_frame ..)
    | apply Frame.after (serveEntry_frame ..)
    | dsimp only)

theorem takeUpEach_frame (pick : Entry → State → Bool) :
    Frame [.hammers, .queue, .tolls, .notices, .ports] s (takeUpEach pick s) := by
  refine Frame.foldl (fun s e => ?_) _ s
  split
  · split
    · exact (takeUp_frame s _).mono (by decide)
    · exact Frame.refl _ _
  · exact Frame.refl _ _

theorem grantShares_frame  :
    Frame [.hammers, .queue, .tolls, .notices, .ports] s (grantShares s) := by
  unfold grantShares
  repeat' (with_reducible first
    | exact Frame.refl _ _
    | decide
    | split
    | apply Frame.after (takeUpEach_frame ..))

theorem serveQueue_frame :
    Frame [.hammers, .queue, .tolls, .notices, .ports] s (serveQueue s) := takeUpEach_frame s comesUp

theorem releaseHammer_frame (b : Fin 16) :
    Frame [.guards, .hammers, .swings, .sessions, .notices, .ports] s (releaseHammer b s) := by
  unfold releaseHammer
  repeat' (with_reducible first
    | exact Frame.refl _ _
    | decide
    | split
    | apply Frame.after (guardBegin_frame ..)
    | apply Frame.after (State.setPulse_frame ..)
    | dsimp only)

theorem setOutcome_frame (o : QuarterOutcome) (index : Nat) :
    Frame [.quarters] s (setOutcome o index s) := by
  unfold setOutcome
  repeat' (with_reducible first
    | exact Frame.refl _ _
    | decide
    | split
    | apply Frame.after (withOutcome_frame ..))

theorem setHeld_frame (h : Option Held) :
    Frame [.held] s (setHeld h s) := by
  unfold setHeld
  repeat' (with_reducible first
    | exact Frame.refl _ _
    | decide
    | split
    | apply Frame.after (withHeld_frame ..))

theorem setMarker_frame (index : Nat) :
    Frame [.quarters] s (setMarker index s) := by
  unfold setMarker
  repeat' (with_reducible first
    | exact Frame.refl _ _
    | decide
    | split
    | apply Frame.after (withMarker_frame ..))

theorem quarterSkipped_frame (r : SkipReason) (needed : Nat) :
    Frame [.notices, .ports] s (quarterSkipped r needed s) := by
  unfold quarterSkipped
  repeat' (with_reducible first
    | exact Frame.refl _ _
    | decide
    | split
    | apply Frame.after (post_frame ..))

theorem enqueueNotes_frame (base : Instant) (o : Origin) (number : Nat) (ns : List (Fin 16 × Nat)) :
    Frame [.queue] s (enqueueNotes base o number ns s) := by
  unfold enqueueNotes
  repeat' (with_reducible first
    | exact Frame.refl _ _
    | decide
    | split
    | apply Frame.after (enqueue_frame ..)
    | apply Frame.after (Frame.foldl (fun _ _ => enqueue_frame ..) _ _))

theorem enqueueStrokes_frame (start : Instant) (pace : Nat) (b : Fin 16) (count : Nat) :
    Frame [.queue] s (enqueueStrokes start pace b count s) := by
  unfold enqueueStrokes
  repeat' (with_reducible first
    | exact Frame.refl _ _
    | decide
    | split
    | apply Frame.after (enqueue_frame ..)
    | apply Frame.after (Frame.foldl (fun _ _ => enqueue_frame ..) _ _))

theorem insertChime_frame (c : Chime) (base : Instant) (done : QuarterOutcome) :
    Frame [.queue, .quarters, .notices, .ports] s (insertChime c base done s) := by
  unfold insertChime
  repeat' (with_reducible first
    | exact Frame.refl _ _
    | decide
    | split
    | apply Frame.after (setOutcome_frame ..)
    | apply Frame.after (quarterSkipped_frame ..)
    | apply Frame.after (enqueueNotes_frame ..)
    | apply Frame.after (enqueueStrokes_frame ..)
    | dsimp only)

theorem endHeldFallback_frame (base : Instant) :
    Frame [.queue, .quarters, .held, .notices, .ports] s (endHeldFallback base s) := by
  unfold endHeldFallback
  repeat' (with_reducible first
    | exact Frame.refl _ _
    | decide
    | split
    | apply Frame.after (setHeld_frame ..)
    | apply Frame.after (insertChime_frame ..))

theorem endHeldTune_frame (base : Instant) :
    Frame [.queue, .quarters, .held, .notices, .ports] s (endHeldTune base s) := by
  unfold endHeldTune
  repeat' (with_reducible first
    | exact Frame.refl _ _
    | decide
    | split
    | apply Frame.after (setHeld_frame ..)
    | apply Frame.after (insertChime_frame ..))

theorem dropHeld_frame  :
    Frame [.quarters, .held, .notices, .ports] s (dropHeld s) := by
  unfold dropHeld
  repeat' (with_reducible first
    | exact Frame.refl _ _
    | decide
    | split
    | apply Frame.after (setOutcome_frame ..)
    | apply Frame.after (setHeld_frame ..)
    | apply Frame.after (quarterSkipped_frame ..))

theorem tuneHandoff_frame (t : Fin 24) :
    Frame [.queue, .quarters, .held, .notices, .ports] s (tuneHandoff t s) := by
  unfold tuneHandoff
  repeat' (with_reducible first
    | exact Frame.refl _ _
    | decide
    | split
    | apply Frame.after (endHeldFallback_frame ..)
    | apply Frame.after (endHeldTune_frame ..))

theorem holdQuarter_frame (h : Held) :
    Frame [.queue, .quarters, .held, .notices, .ports] s (holdQuarter h s) := by
  unfold holdQuarter
  repeat' (with_reducible first
    | exact Frame.refl _ _
    | decide
    | split
    | apply Frame.after (post_frame ..)
    | apply Frame.after (setOutcome_frame ..)
    | apply Frame.after (setHeld_frame ..)
    | apply Frame.after (endHeldFallback_frame ..))

theorem buildQuarter_frame (index : Nat) (c : Label) (plan : PlanName) :
    Frame [.queue, .quarters, .held, .notices, .ports] s (buildQuarter index c plan s) := by
  unfold buildQuarter
  repeat' (with_reducible first
    | exact Frame.refl _ _
    | decide
    | split
    | apply Frame.after (setOutcome_frame ..)
    | apply Frame.after (insertChime_frame ..)
    | apply Frame.after (holdQuarter_frame ..)
    | dsimp only)

theorem decideQuarter_frame (index : Nat) :
    Frame [.queue, .quarters, .held, .notices, .ports] s (decideQuarter index s) := by
  unfold decideQuarter
  repeat' (with_reducible first
    | exact Frame.refl _ _
    | decide
    | split
    | apply Frame.after (setOutcome_frame ..)
    | apply Frame.after (quarterSkipped_frame ..)
    | apply Frame.after (buildQuarter_frame ..)
    | dsimp only)

theorem quarterBoundary_frame (l : Label) :
    Frame [.queue, .quarters, .held, .notices, .ports] s (quarterBoundary l s) := by
  unfold quarterBoundary
  repeat' (with_reducible first
    | exact Frame.refl _ _
    | decide
    | split
    | apply Frame.after (setMarker_frame ..)
    | apply Frame.after (decideQuarter_frame ..))

theorem quarterStep_frame (delta : Int) (l : Label) :
    Frame [.queue, .quarters, .held, .notices, .ports] s (quarterStep delta l s) := by
  unfold quarterStep
  repeat' (with_reducible first
    | exact Frame.refl _ _
    | decide
    | split
    | apply Frame.after (setOutcome_frame ..)
    | apply Frame.after (setMarker_frame ..)
    | apply Frame.after (quarterSkipped_frame ..)
    | apply Frame.after (decideQuarter_frame ..)
    | dsimp only)

theorem strikeBoundary_frame (delta : Option Int) (l : Label) :
    Frame [.queue, .quarters, .held, .notices, .ports] s (strikeBoundary delta l s) := by
  unfold strikeBoundary
  repeat' (with_reducible first
    | exact Frame.refl _ _
    | decide
    | split
    | apply Frame.after (quarterBoundary_frame ..)
    | apply Frame.after (quarterStep_frame ..))

theorem startToll_frame (b : Fin 16) (interval : Nat) (count : Nat) (minutes : Nat) (o : TollOrigin) :
    Frame [.queue, .tolls] s (startToll b interval count minutes o s).1 := by
  unfold startToll
  repeat' (with_reducible first
    | exact Frame.refl _ _
    | decide
    | split
    | apply Frame.after (State.setToll_frame ..)
    | apply Frame.after (enqueue_frame ..))

theorem playTune_frame (n : Fin 96) (tune : Nat) :
    Frame [.queue] s (playTune n tune s).1 := by
  unfold playTune
  repeat' (with_reducible first
    | exact Frame.refl _ _
    | decide
    | split
    | apply Frame.after (enqueueNotes_frame ..)
    | dsimp only)

theorem strikeSupplyLost_frame  :
    Frame [.guards, .hammers, .swings, .sessions, .queue, .quarters, .held, .tolls, .notices, .ports] s (strikeSupplyLost s) := by
  unfold strikeSupplyLost
  repeat' (with_reducible first
    | exact Frame.refl _ _
    | decide
    | split
    | apply Frame.after (endToll_frame ..)
    | apply Frame.after (takeUpEach_frame ..)
    | apply Frame.after (releaseHammer_frame ..)
    | apply Frame.after (dropHeld_frame ..)
    | apply Frame.after (Frame.foldl (fun _ _ => endToll_frame ..) _ _)
    | apply Frame.after (Frame.foldl (fun _ _ => takeUpEach_frame ..) _ _)
    | apply Frame.after (Frame.foldl (fun _ _ => releaseHammer_frame ..) _ _))

theorem heldQuarterExpiry_frame  :
    Frame [.queue, .quarters, .held, .notices, .ports] s (heldQuarterExpiry s) := by
  unfold heldQuarterExpiry
  repeat' (with_reducible first
    | exact Frame.refl _ _
    | decide
    | split
    | apply Frame.after (endHeldFallback_frame ..))

theorem strikeEntryDue_frame  :
    Frame [.hammers, .queue, .tolls, .notices, .ports] s (strikeEntryDue s) := by
  unfold strikeEntryDue
  repeat' (with_reducible first
    | exact Frame.refl _ _
    | decide
    | split
    | apply Frame.after (serveQueue_frame ..))

theorem hammerRecoveryEnd_frame (b : Fin 16) :
    Frame [.hammers, .queue, .tolls, .notices, .ports] s (hammerRecoveryEnd b s) := by
  unfold hammerRecoveryEnd
  repeat' (with_reducible first
    | exact Frame.refl _ _
    | decide
    | split
    | apply Frame.after (serveQueue_frame ..))

theorem hammerPulseEnd_frame (b : Fin 16) :
    Frame [.guards, .hammers, .swings, .sessions, .queue, .tolls, .notices, .ports] s (hammerPulseEnd b s) := by
  unfold hammerPulseEnd
  repeat' (with_reducible first
    | exact Frame.refl _ _
    | decide
    | split
    | apply Frame.after (serveQueue_frame ..)
    | apply Frame.after (releaseHammer_frame ..))

theorem tollEndTime_frame (n : Fin 4) :
    Frame [.queue, .tolls, .notices, .ports] s (tollEndTime n s) := by
  unfold tollEndTime
  repeat' (with_reducible first
    | exact Frame.refl _ _
    | decide
    | split
    | apply Frame.after (endToll_frame ..))

theorem actPartConfig_frame (share : Nat) :
    Frame [.hammers, .queue, .tolls, .share, .notices, .ports] s (actPartConfig share s).state := by
  exact ((withShare_frame s _).mono (by decide)).trans ((grantShares_frame _).mono (by decide))

theorem partConfig_frame (p : Port) (tag : Byte) (share : Nat) :
    Frame [.hammers, .queue, .tolls, .share, .notices, .ports] s (partConfig p tag share s) :=
  request_frame s _ _ _ _ (by decide) (Frame.mono (actPartConfig_frame s share) (by decide))

theorem actBellRead_frame (bell : Nat) :
    Frame [] s (actBellRead bell s).state := by
  unfold actBellRead
  repeat' (with_reducible first
    | exact Frame.refl _ _
    | decide
    | split
    | simp only [refuse_state, accept_state])

theorem bellRead_frame (p : Port) (tag : Byte) (bell : Nat) :
    Frame [.ports] s (bellRead p tag bell s) :=
  request_frame s _ _ _ _ (by decide) (Frame.mono (actBellRead_frame s bell) (by decide))

theorem actStrikeStatus_frame (first : Nat) :
    Frame [] s (actStrikeStatus first s).state := by
  unfold actStrikeStatus
  repeat' (with_reducible first
    | exact Frame.refl _ _
    | decide
    | split
    | simp only [refuse_state, accept_state])

theorem strikeStatus_frame (p : Port) (tag : Byte) (first : Nat) :
    Frame [.ports] s (strikeStatus p tag first s) :=
  request_frame s _ _ _ _ (by decide) (Frame.mono (actStrikeStatus_frame s first) (by decide))

theorem enqueuePanel_frame (b : Fin 16) (count : Nat) (interval : Nat) :
    Frame [.queue] s (enqueuePanel b count interval s) := by
  unfold enqueuePanel
  repeat' (with_reducible first
    | exact Frame.refl _ _
    | decide
    | split
    | apply Frame.after (enqueue_frame ..)
    | apply Frame.after (Frame.foldl (fun _ _ => enqueue_frame ..) _ _))

theorem actStrike_frame (bell : Nat) (count : Nat) (interval : Nat) :
    Frame [.queue] s (actStrike bell count interval s).state := by
  unfold actStrike
  repeat' (with_reducible first
    | exact Frame.refl _ _
    | decide
    | split
    | simp only [refuse_state, accept_state]
    | apply Frame.after (enqueuePanel_frame ..))

theorem strike_frame (p : Port) (tag : Byte) (bell : Nat) (count : Nat) (interval : Nat) :
    Frame [.queue, .ports] s (strike p tag bell count interval s) :=
  request_frame s _ _ _ _ (by decide) (Frame.mono (actStrike_frame s bell count interval) (by decide))

theorem actTollStart_frame (p : Port) (bell : Nat) (interval : Nat) (count : Nat) (minutes : Nat) :
    Frame [.queue, .tolls] s (actTollStart p bell interval count minutes s).state := by
  unfold actTollStart
  repeat' (with_reducible first
    | exact Frame.refl _ _
    | decide
    | split
    | simp only [refuse_state, accept_state]
    | apply Frame.after (startToll_frame ..)
    | exact Frame.of_pair (by assumption) (Frame.mono (startToll_frame ..) (by decide)))

theorem tollStart_frame (p : Port) (tag : Byte) (bell : Nat) (interval : Nat) (count : Nat) (minutes : Nat) :
    Frame [.queue, .tolls, .ports] s (tollStart p tag bell interval count minutes s) :=
  request_frame s _ _ _ _ (by decide) (Frame.mono (actTollStart_frame s p bell interval count minutes) (by decide))

theorem actTollStop_frame (bell : Nat) :
    Frame [.queue, .tolls, .notices, .ports] s (actTollStop bell s).state := by
  unfold actTollStop
  repeat' (with_reducible first
    | exact Frame.refl _ _
    | decide
    | split
    | simp only [refuse_state, accept_state]
    | apply Frame.after (endToll_frame ..))

theorem tollStop_frame (p : Port) (tag : Byte) (bell : Nat) :
    Frame [.queue, .tolls, .notices, .ports] s (tollStop p tag bell s) :=
  request_frame s _ _ _ _ (by decide) (Frame.mono (actTollStop_frame s bell) (by decide))

theorem actSilenceSet_frame (value : Nat) :
    Frame [.silence] s (actSilenceSet value s).state := by
  unfold actSilenceSet
  split
  · exact Frame.refl _ _
  · exact withSilence_frame s _

theorem silenceSet_frame (p : Port) (tag : Byte) (value : Nat) :
    Frame [.silence, .ports] s (silenceSet p tag value s) :=
  request_frame s _ _ _ _ (by decide) (Frame.mono (actSilenceSet_frame s value) (by decide))

/-! ### Machine/Tunes -/

theorem changeTune_frame (t : Fin 24) (r : Tune) :
    Frame [.tunes, .queue, .quarters, .held, .notices, .ports] s (changeTune t r s) := by
  unfold changeTune
  repeat' (with_reducible first
    | exact Frame.refl _ _
    | decide
    | split
    | apply Frame.after (State.setTune_frame ..)
    | apply Frame.after (tuneHandoff_frame ..))

theorem restartEdit_frame (t : Fin 24) :
    Frame [.tunes] s (restartEdit t s) := by
  unfold restartEdit
  repeat' (with_reducible first
    | exact Frame.refl _ _
    | decide
    | split
    | apply Frame.after (State.setTune_frame ..))

theorem abortEdit_frame (t : Fin 24) :
    Frame [.tunes, .queue, .quarters, .held, .notices, .ports] s (abortEdit t s) := by
  unfold abortEdit
  repeat' (with_reducible first
    | exact Frame.refl _ _
    | decide
    | split
    | apply Frame.after (changeTune_frame ..))

theorem abortEdits_frame  :
    Frame [.tunes, .queue, .quarters, .held, .notices, .ports] s (abortEdits s) := by
  unfold abortEdits
  repeat' (with_reducible first
    | exact Frame.refl _ _
    | decide
    | split
    | apply Frame.after (abortEdit_frame ..)
    | apply Frame.after (Frame.foldl (fun _ _ => abortEdit_frame ..) _ _))

theorem tuneEditTimeout_frame (t : Fin 24) :
    Frame [.tunes, .queue, .quarters, .held, .notices, .ports] s (tuneEditTimeout t s) := by
  unfold tuneEditTimeout
  repeat' (with_reducible first
    | exact Frame.refl _ _
    | decide
    | split
    | apply Frame.after (abortEdit_frame ..))

theorem actTuneRead_frame (tune : Nat) (first : Nat) (count : Nat) :
    Frame [] s (actTuneRead tune first count s).state := by
  unfold actTuneRead
  repeat' (with_reducible first
    | exact Frame.refl _ _
    | decide
    | split
    | simp only [refuse_state, accept_state])

theorem tuneRead_frame (p : Port) (tag : Byte) (tune : Nat) (first : Nat) (count : Nat) :
    Frame [.ports] s (tuneRead p tag tune first count s) :=
  request_frame s _ _ _ _ (by decide) (Frame.mono (actTuneRead_frame s tune first count) (by decide))

@[simp] theorem editReply_state (st : Status) (pl : List Byte) : (editReply st pl s).state = s := rfl
@[simp] theorem editReply_status (st : Status) (pl : List Byte) : (editReply st pl s).status = st := rfl
@[simp] theorem editReply_payload (st : Status) (pl : List Byte) :
    (editReply st pl s).payload = pl ++ be2 s.freeCount := rfl

theorem actTuneOpen_frame (tune : Nat) (length : Nat) (revision : Nat) :
    Frame [.tunes, .queue, .quarters, .held, .notices, .ports] s (actTuneOpen tune length revision s).state := by
  unfold actTuneOpen
  repeat' (with_reducible first
    | exact Frame.refl _ _
    | decide
    | split
    | simp only [editReply_state]
    | apply Frame.after (changeTune_frame ..)
    | apply Frame.after (restartEdit_frame ..))

theorem tuneOpen_frame (p : Port) (tag : Byte) (tune : Nat) (length : Nat) (revision : Nat) :
    Frame [.tunes, .queue, .quarters, .held, .notices, .ports] s (tuneOpen p tag tune length revision s) :=
  request_frame s _ _ _ _ (by decide) (Frame.mono (actTuneOpen_frame s tune length revision) (by decide))

theorem actTuneWrite_frame (tune : Nat) (first : Nat) (notes : List RawNote) :
    Frame [.tunes] s (actTuneWrite tune first notes s).state := by
  unfold actTuneWrite
  repeat' (with_reducible first
    | exact Frame.refl _ _
    | decide
    | split
    | simp only [editReply_state, accept_state]
    | apply Frame.after (State.setTune_frame ..)
    | apply Frame.after (restartEdit_frame ..))

theorem tuneWrite_frame (p : Port) (tag : Byte) (tune : Nat) (first : Nat) (notes : List RawNote) :
    Frame [.tunes, .ports] s (tuneWrite p tag tune first notes s) :=
  request_frame s _ _ _ _ (by decide) (Frame.mono (actTuneWrite_frame s tune first notes) (by decide))

theorem actTuneClose_frame (tune : Nat) :
    Frame [.tunes, .queue, .quarters, .held, .notices, .ports] s (actTuneClose tune s).state := by
  unfold actTuneClose
  repeat' (with_reducible first
    | exact Frame.refl _ _
    | decide
    | split
    | simp only [editReply_state]
    | apply Frame.after (changeTune_frame ..)
    | apply Frame.after (restartEdit_frame ..))

theorem tuneClose_frame (p : Port) (tag : Byte) (tune : Nat) :
    Frame [.tunes, .queue, .quarters, .held, .notices, .ports] s (tuneClose p tag tune s) :=
  request_frame s _ _ _ _ (by decide) (Frame.mono (actTuneClose_frame s tune) (by decide))

theorem actTuneAbort_frame (tune : Nat) :
    Frame [.tunes, .queue, .quarters, .held, .notices, .ports] s (actTuneAbort tune s).state := by
  unfold actTuneAbort
  repeat' (with_reducible first
    | exact Frame.refl _ _
    | decide
    | split
    | simp only [editReply_state]
    | apply Frame.after (abortEdit_frame ..))

theorem tuneAbort_frame (p : Port) (tag : Byte) (tune : Nat) :
    Frame [.tunes, .queue, .quarters, .held, .notices, .ports] s (tuneAbort p tag tune s) :=
  request_frame s _ _ _ _ (by decide) (Frame.mono (actTuneAbort_frame s tune) (by decide))

theorem actTuneDelete_frame (tune : Nat) (revision : Nat) :
    Frame [.tunes, .queue, .quarters, .held, .notices, .ports] s (actTuneDelete tune revision s).state := by
  unfold actTuneDelete
  repeat' (with_reducible first
    | exact Frame.refl _ _
    | decide
    | split
    | simp only [editReply_state]
    | apply Frame.after (changeTune_frame ..)
    | apply Frame.after (restartEdit_frame ..))

theorem tuneDelete_frame (p : Port) (tag : Byte) (tune : Nat) (revision : Nat) :
    Frame [.tunes, .queue, .quarters, .held, .notices, .ports] s (tuneDelete p tag tune revision s) :=
  request_frame s _ _ _ _ (by decide) (Frame.mono (actTuneDelete_frame s tune revision) (by decide))

theorem actPlanRead_frame (plan : Nat) :
    Frame [] s (actPlanRead plan s).state := by
  unfold actPlanRead
  repeat' (with_reducible first
    | exact Frame.refl _ _
    | decide
    | split
    | simp only [refuse_state, accept_state])

theorem planRead_frame (p : Port) (tag : Byte) (plan : Nat) :
    Frame [.ports] s (planRead p tag plan s) :=
  request_frame s _ _ _ _ (by decide) (Frame.mono (actPlanRead_frame s plan) (by decide))

theorem actPlanWrite_frame (a : PlanArgs) :
    Frame [.plans] s (actPlanWrite a s).state := by
  unfold actPlanWrite
  repeat' (with_reducible first
    | exact Frame.refl _ _
    | decide
    | split
    | simp only [refuse_state, refuseStale_state, accept_state]
    | apply Frame.after (State.setPlan_frame ..))

theorem planWrite_frame (p : Port) (tag : Byte) (a : PlanArgs) :
    Frame [.plans, .ports] s (planWrite p tag a s) :=
  request_frame s _ _ _ _ (by decide) (Frame.mono (actPlanWrite_frame s a) (by decide))

end Sys2Proof.Machine
end

