-- ==== Sys2Proof/Laws/BlockFrames.lean ====
section
/-! SUPPORT. What each operation leaves unchanged: the dials, the lights and the calendar. -/

namespace Sys2Proof.Machine

variable (s : State)

/-! ### Machine/Dials -/

theorem enterDial_frame (d : Fin 4) (st : DialState) :
    Frame [.dials, .notices, .ports] s (enterDial d st s) := by
  unfold enterDial
  repeat' (with_reducible first
    | exact Frame.refl _ _
    | decide
    | split
    | apply Frame.after (State.setDial_frame ..)
    | apply Frame.after (post_frame ..)
    | dsimp only)

theorem fullDecision_frame (d : Fin 4) :
    Frame [.dials, .notices, .ports] s (fullDecision d s) := by
  unfold fullDecision
  repeat' (with_reducible first
    | exact Frame.refl _ _
    | decide
    | split
    | apply Frame.after (enterDial_frame ..))

theorem continuingDecision_frame (d : Fin 4) :
    Frame [.dials, .notices, .ports] s (continuingDecision d s) := by
  unfold continuingDecision
  repeat' (with_reducible first
    | exact Frame.refl _ _
    | decide
    | split
    | apply Frame.after (enterDial_frame ..))

theorem fullCause_frame (d : Fin 4) :
    Frame [.dials, .notices, .ports] s (fullCause d s) := by
  unfold fullCause
  repeat' (with_reducible first
    | exact Frame.refl _ _
    | decide
    | split
    | apply Frame.after (State.setDial_frame ..)
    | apply Frame.after (fullDecision_frame ..)
    | dsimp only)

theorem continuingCause_frame (d : Fin 4) :
    Frame [.dials, .notices, .ports] s (continuingCause d s) := by
  unfold continuingCause
  repeat' (with_reducible first
    | exact Frame.refl _ _
    | decide
    | split
    | apply Frame.after (State.setDial_frame ..)
    | apply Frame.after (continuingDecision_frame ..)
    | dsimp only)

theorem dialsFull_frame  :
    Frame [.dials, .notices, .ports] s (dialsFull s) := by
  unfold dialsFull
  repeat' (with_reducible first
    | exact Frame.refl _ _
    | decide
    | split
    | apply Frame.after (fullCause_frame ..)
    | apply Frame.after (Frame.foldl (fun _ _ => fullCause_frame ..) _ _))

theorem dialsBoundary_frame (full : Bool) :
    Frame [.dials, .notices, .ports] s (dialsBoundary full s) := by
  unfold dialsBoundary
  repeat' (with_reducible first
    | exact Frame.refl _ _
    | decide
    | split
    | apply Frame.after (continuingCause_frame ..)
    | apply Frame.after (dialsFull_frame ..)
    | apply Frame.after (Frame.foldl (fun _ _ => continuingCause_frame ..) _ _))

theorem dialImpulseStart_frame (d : Fin 4) :
    Frame [.dials] s (dialImpulseStart d s) := by
  unfold dialImpulseStart
  repeat' (with_reducible first
    | exact Frame.refl _ _
    | decide
    | split
    | apply Frame.after (State.setDial_frame ..))

theorem dialMissed_frame (d : Fin 4) :
    Frame [.dials, .notices, .ports] s (dialMissed d s) := by
  unfold dialMissed
  repeat' (with_reducible first
    | exact Frame.refl _ _
    | decide
    | split
    | apply Frame.after (State.setDial_frame ..)
    | apply Frame.after (post_frame ..)
    | apply Frame.after (enterDial_frame ..)
    | dsimp only)

theorem endDecision_frame (d : Fin 4) :
    Frame [.dials, .notices, .ports] s (endDecision d s) := by
  unfold endDecision
  repeat' (with_reducible first
    | exact Frame.refl _ _
    | decide
    | split
    | apply Frame.after (State.setDial_frame ..)
    | apply Frame.after (fullDecision_frame ..)
    | apply Frame.after (continuingDecision_frame ..)
    | dsimp only)

theorem judgeImpulse_frame (d : Fin 4) (i : Impulse) :
    Frame [.dials, .notices, .ports] s (judgeImpulse d i s) := by
  unfold judgeImpulse
  repeat' (with_reducible first
    | exact Frame.refl _ _
    | decide
    | split
    | apply Frame.after (State.setDial_frame ..)
    | apply Frame.after (dialMissed_frame ..))

theorem dialImpulseEnd_frame (d : Fin 4) :
    Frame [.dials, .notices, .ports] s (dialImpulseEnd d s) := by
  unfold dialImpulseEnd
  repeat' (with_reducible first
    | exact Frame.refl _ _
    | decide
    | split
    | apply Frame.after (endDecision_frame ..)
    | apply Frame.after (judgeImpulse_frame ..))

theorem dialConfChange_frame (d : Fin 4) (closed : Bool) :
    Frame [.dials, .lines] s (dialConfChange d closed s) := by
  unfold dialConfChange
  repeat' (with_reducible first
    | exact Frame.refl _ _
    | decide
    | split
    | apply Frame.after (State.setDial_frame ..)
    | apply Frame.after (State.setLines_frame ..)
    | dsimp only)

theorem dialSupplyLost_frame (d : Fin 4) :
    Frame [.dials, .notices, .ports] s (dialSupplyLost d s) := by
  unfold dialSupplyLost
  repeat' (with_reducible first
    | exact Frame.refl _ _
    | decide
    | split
    | apply Frame.after (State.setDial_frame ..)
    | apply Frame.after (endDecision_frame ..)
    | dsimp only)

theorem dialsSupplyLost_frame  :
    Frame [.dials, .notices, .ports] s (dialsSupplyLost s) := by
  unfold dialsSupplyLost
  repeat' (with_reducible first
    | exact Frame.refl _ _
    | decide
    | split
    | apply Frame.after (dialSupplyLost_frame ..)
    | apply Frame.after (Frame.foldl (fun _ _ => dialSupplyLost_frame ..) _ _))

theorem actDialSet_frame (dial : Nat) (position : Nat) (polarity : Nat) :
    Frame [.dials, .notices, .ports] s (actDialSet dial position polarity s).state := by
  unfold actDialSet
  repeat' (with_reducible first
    | exact Frame.refl _ _
    | decide
    | split
    | simp only [refuse_state, accept_state]
    | apply Frame.after (State.setDial_frame ..)
    | apply Frame.after (fullDecision_frame ..))

theorem dialSet_frame (p : Port) (tag : Byte) (dial : Nat) (position : Nat) (polarity : Nat) :
    Frame [.dials, .notices, .ports] s (dialSet p tag dial position polarity s) :=
  request_frame s _ _ _ _ (by decide) (Frame.mono (actDialSet_frame s dial position polarity) (by decide))

theorem actDialStop_frame (dial : Nat) :
    Frame [.dials, .notices, .ports] s (actDialStop dial s).state := by
  unfold actDialStop
  repeat' (with_reducible first
    | exact Frame.refl _ _
    | decide
    | split
    | simp only [refuse_state, accept_state]
    | apply Frame.after (State.setDial_frame ..)
    | apply Frame.after (enterDial_frame ..))

theorem dialStop_frame (p : Port) (tag : Byte) (dial : Nat) :
    Frame [.dials, .notices, .ports] s (dialStop p tag dial s) :=
  request_frame s _ _ _ _ (by decide) (Frame.mono (actDialStop_frame s dial) (by decide))

theorem actDialStart_frame (dial : Nat) :
    Frame [.dials, .notices, .ports] s (actDialStart dial s).state := by
  unfold actDialStart
  repeat' (with_reducible first
    | exact Frame.refl _ _
    | decide
    | split
    | simp only [refuse_state, accept_state]
    | apply Frame.after (State.setDial_frame ..)
    | apply Frame.after (enterDial_frame ..)
    | apply Frame.after (fullDecision_frame ..))

theorem dialStart_frame (p : Port) (tag : Byte) (dial : Nat) :
    Frame [.dials, .notices, .ports] s (dialStart p tag dial s) :=
  request_frame s _ _ _ _ (by decide) (Frame.mono (actDialStart_frame s dial) (by decide))

theorem writeDial_frame (d : Fin 4) (fitted : Bool) (confirm : Bool) (width : Nat) (fast : Nat) (hold : Nat) :
    Frame [.dials, .notices, .ports] s (writeDial d fitted confirm width fast hold s) := by
  unfold writeDial
  repeat' (with_reducible first
    | exact Frame.refl _ _
    | decide
    | split
    | apply Frame.after (State.setDial_frame ..)
    | apply Frame.after (enterDial_frame ..)
    | dsimp only)

theorem actDialConfig_frame (a : DialArgs) :
    Frame [.dials, .notices, .ports] s (actDialConfig a s).state := by
  unfold actDialConfig
  repeat' (with_reducible first
    | exact Frame.refl _ _
    | decide
    | split
    | simp only [refuse_state, refuseStale_state, accept_state]
    | apply Frame.after (writeDial_frame ..))

theorem dialConfig_frame (p : Port) (tag : Byte) (a : DialArgs) :
    Frame [.dials, .notices, .ports] s (dialConfig p tag a s) :=
  request_frame s _ _ _ _ (by decide) (Frame.mono (actDialConfig_frame s a) (by decide))

theorem actDialRead_frame (dial : Nat) :
    Frame [] s (actDialRead dial s).state := by
  unfold actDialRead
  repeat' (with_reducible first
    | exact Frame.refl _ _
    | decide
    | split
    | simp only [refuse_state, accept_state])

theorem dialRead_frame (p : Port) (tag : Byte) (dial : Nat) :
    Frame [.ports] s (dialRead p tag dial s) :=
  request_frame s _ _ _ _ (by decide) (Frame.mono (actDialRead_frame s dial) (by decide))

/-! ### Machine/Lights -/

theorem tryWatch_frame (c : Fin 8) :
    Frame [.lights] s (tryWatch c s) := by
  unfold tryWatch
  repeat' (with_reducible first
    | exact Frame.refl _ _
    | decide
    | split
    | apply Frame.after (State.setLight_frame ..))

theorem channelNotice_frame (c : Fin 8) (left : ChannelState) (entered : ChannelState) (cause : LightCause) :
    Frame [.notices, .ports] s (channelNotice c left entered cause s) := by
  unfold channelNotice
  repeat' (with_reducible first
    | exact Frame.refl _ _
    | decide
    | split
    | apply Frame.after (post_frame ..))

theorem switchOn_frame (c : Fin 8) (cause : LightCause) :
    Frame [.lights, .notices, .ports] s (switchOn c cause s) := by
  unfold switchOn
  repeat' (with_reducible first
    | exact Frame.refl _ _
    | decide
    | split
    | apply Frame.after (State.setLight_frame ..)
    | apply Frame.after (tryWatch_frame ..)
    | apply Frame.after (channelNotice_frame ..))

theorem switchOff_frame (c : Fin 8) (off : OffCause) (cause : LightCause) :
    Frame [.lights, .notices, .ports] s (switchOff c off cause s) := by
  unfold switchOff
  repeat' (with_reducible first
    | exact Frame.refl _ _
    | decide
    | split
    | apply Frame.after (State.setLight_frame ..)
    | apply Frame.after (channelNotice_frame ..))

theorem recordDerived_frame (c : Fin 8) :
    Frame [.lights] s (recordDerived c s) := by
  unfold recordDerived
  repeat' (with_reducible first
    | exact Frame.refl _ _
    | decide
    | split
    | apply Frame.after (State.setLight_frame ..))

theorem deriveLight_frame (c : Fin 8) :
    Frame [.lights, .notices, .ports] s (deriveLight c s) := by
  unfold deriveLight
  repeat' (with_reducible first
    | exact Frame.refl _ _
    | decide
    | split
    | apply Frame.after (State.setLight_frame ..)
    | apply Frame.after (switchOn_frame ..)
    | apply Frame.after (switchOff_frame ..)
    | apply Frame.after (recordDerived_frame ..)
    | dsimp only)

theorem deriveLights_frame  :
    Frame [.lights, .notices, .ports] s (deriveLights s) := by
  unfold deriveLights
  repeat' (with_reducible first
    | exact Frame.refl _ _
    | decide
    | split
    | apply Frame.after (deriveLight_frame ..)
    | apply Frame.after (Frame.foldl (fun _ _ => deriveLight_frame ..) _ _))

theorem overrideTest_frame (c : Fin 8) :
    Frame [.lights, .notices, .ports] s (overrideTest c s) := by
  unfold overrideTest
  repeat' (with_reducible first
    | exact Frame.refl _ _
    | decide
    | split
    | apply Frame.after (State.setLight_frame ..)
    | apply Frame.after (deriveLight_frame ..))

theorem overrideTests_frame  :
    Frame [.lights, .notices, .ports] s (overrideTests s) := by
  unfold overrideTests
  repeat' (with_reducible first
    | exact Frame.refl _ _
    | decide
    | split
    | apply Frame.after (overrideTest_frame ..)
    | apply Frame.after (Frame.foldl (fun _ _ => overrideTest_frame ..) _ _))

theorem lightSupplyLost_frame (c : Fin 8) :
    Frame [.lights, .notices, .ports] s (lightSupplyLost c s) := by
  unfold lightSupplyLost
  repeat' (with_reducible first
    | exact Frame.refl _ _
    | decide
    | split
    | apply Frame.after (switchOff_frame ..))

theorem lightsSupplyLost_frame  :
    Frame [.lights, .notices, .ports] s (lightsSupplyLost s) := by
  unfold lightsSupplyLost
  repeat' (with_reducible first
    | exact Frame.refl _ _
    | decide
    | split
    | apply Frame.after (lightSupplyLost_frame ..)
    | apply Frame.after (Frame.foldl (fun _ _ => lightSupplyLost_frame ..) _ _))

theorem resetNotice_frame (c : Fin 8) :
    Frame [.lights, .notices, .ports] s (resetNotice c s) := by
  unfold resetNotice
  repeat' (with_reducible first
    | exact Frame.refl _ _
    | decide
    | split
    | apply Frame.after (State.setLight_frame ..)
    | apply Frame.after (channelNotice_frame ..)
    | dsimp only)

theorem lightsCompletion_frame  :
    Frame [.lights, .notices, .ports] s (lightsCompletion s) := by
  unfold lightsCompletion
  repeat' (with_reducible first
    | exact Frame.refl _ _
    | decide
    | split
    | apply Frame.after (deriveLights_frame ..)
    | apply Frame.after (resetNotice_frame ..)
    | apply Frame.after (Frame.foldl (fun _ _ => deriveLights_frame ..) _ _)
    | apply Frame.after (Frame.foldl (fun _ _ => resetNotice_frame ..) _ _))

theorem overrideExpiry_frame (c : Fin 8) :
    Frame [.lights, .notices, .ports] s (overrideExpiry c s) := by
  unfold overrideExpiry
  repeat' (with_reducible first
    | exact Frame.refl _ _
    | decide
    | split
    | apply Frame.after (overrideTest_frame ..))

theorem warmupEnd_frame (c : Fin 8) :
    Frame [.lights, .notices, .ports] s (warmupEnd c s) := by
  unfold warmupEnd
  repeat' (with_reducible first
    | exact Frame.refl _ _
    | decide
    | split
    | apply Frame.after (State.setLight_frame ..)
    | apply Frame.after (tryWatch_frame ..)
    | apply Frame.after (channelNotice_frame ..)
    | dsimp only)

theorem restrikeExpiry_frame (c : Fin 8) :
    Frame [.lights, .notices, .ports] s (restrikeExpiry c s) := by
  unfold restrikeExpiry
  repeat' (with_reducible first
    | exact Frame.refl _ _
    | decide
    | split
    | apply Frame.after (State.setLight_frame ..)
    | apply Frame.after (channelNotice_frame ..)
    | apply Frame.after (switchOn_frame ..)
    | apply Frame.after (recordDerived_frame ..)
    | dsimp only)

theorem senseWatchStart_frame (c : Fin 8) :
    Frame [.lights] s (senseWatchStart c s) := by
  unfold senseWatchStart
  repeat' (with_reducible first
    | exact Frame.refl _ _
    | decide
    | split
    | apply Frame.after (tryWatch_frame ..))

theorem lampSenseChange_frame (c : Fin 8) (current : Bool) :
    Frame [.lights, .lines] s (lampSenseChange c current s) := by
  unfold lampSenseChange
  repeat' (with_reducible first
    | exact Frame.refl _ _
    | decide
    | split
    | apply Frame.after (State.setLight_frame ..)
    | apply Frame.after (State.setLines_frame ..)
    | dsimp only)

theorem lampFailed_frame (c : Fin 8) :
    Frame [.lights, .notices, .ports] s (lampFailed c s) := by
  unfold lampFailed
  repeat' (with_reducible first
    | exact Frame.refl _ _
    | decide
    | split
    | apply Frame.after (State.setLight_frame ..)
    | apply Frame.after (post_frame ..)
    | apply Frame.after (channelNotice_frame ..))

theorem writeLight_frame (c : Fin 8) (configured : Bool) (kind : LampKind) (follow : Bool) (sense : Bool) (a : LightArgs) :
    Frame [.lights, .notices, .ports] s (writeLight c configured kind follow sense a s) := by
  unfold writeLight
  repeat' (with_reducible first
    | exact Frame.refl _ _
    | decide
    | split
    | apply Frame.after (State.setLight_frame ..)
    | apply Frame.after (tryWatch_frame ..)
    | apply Frame.after (channelNotice_frame ..)
    | apply Frame.after (deriveLight_frame ..))

theorem actLightConfig_frame (a : LightArgs) :
    Frame [.lights, .notices, .ports] s (actLightConfig a s).state := by
  unfold actLightConfig
  repeat' (with_reducible first
    | exact Frame.refl _ _
    | decide
    | split
    | simp only [refuse_state, refuseStale_state, accept_state]
    | apply Frame.after (writeLight_frame ..))

theorem lightConfig_frame (p : Port) (tag : Byte) (a : LightArgs) :
    Frame [.lights, .notices, .ports] s (lightConfig p tag a s) :=
  request_frame s _ _ _ _ (by decide) (Frame.mono (actLightConfig_frame s a) (by decide))

theorem setOverride_frame (c : Fin 8) (m : Override) (x : Option DayMinute) :
    Frame [.lights, .notices, .ports] s (setOverride c m x s).state := by
  unfold setOverride
  repeat' (with_reducible first
    | exact Frame.refl _ _
    | decide
    | split
    | simp only [accept_state]
    | apply Frame.after (State.setLight_frame ..)
    | apply Frame.after (deriveLight_frame ..))

theorem actLightOverride_frame (channel : Nat) (mode : Nat) (untilMinute : Nat) :
    Frame [.lights, .notices, .ports] s (actLightOverride channel mode untilMinute s).state := by
  unfold actLightOverride
  repeat' (with_reducible first
    | exact Frame.refl _ _
    | decide
    | split
    | simp only [refuse_state]
    | apply Frame.after (setOverride_frame ..))

theorem lightOverride_frame (p : Port) (tag : Byte) (channel : Nat) (mode : Nat) (untilMinute : Nat) :
    Frame [.lights, .notices, .ports] s (lightOverride p tag channel mode untilMinute s) :=
  request_frame s _ _ _ _ (by decide) (Frame.mono (actLightOverride_frame s channel mode untilMinute) (by decide))

theorem actLightFaultClear_frame (channel : Nat) :
    Frame [.lights, .notices, .ports] s (actLightFaultClear channel s).state := by
  unfold actLightFaultClear
  repeat' (with_reducible first
    | exact Frame.refl _ _
    | decide
    | split
    | simp only [refuse_state, refuseWith_state, accept_state]
    | apply Frame.after (State.setLight_frame ..)
    | apply Frame.after (channelNotice_frame ..)
    | apply Frame.after (deriveLight_frame ..))

theorem lightFaultClear_frame (p : Port) (tag : Byte) (channel : Nat) :
    Frame [.lights, .notices, .ports] s (lightFaultClear p tag channel s) :=
  request_frame s _ _ _ _ (by decide) (Frame.mono (actLightFaultClear_frame s channel) (by decide))

theorem actLightRead_frame (channel : Nat) :
    Frame [] s (actLightRead channel s).state := by
  unfold actLightRead
  repeat' (with_reducible first
    | exact Frame.refl _ _
    | decide
    | split
    | simp only [refuse_state, accept_state])

theorem lightRead_frame (p : Port) (tag : Byte) (channel : Nat) :
    Frame [.ports] s (lightRead p tag channel s) :=
  request_frame s _ _ _ _ (by decide) (Frame.mono (actLightRead_frame s channel) (by decide))

/-! ### Machine/Calendar -/

theorem setCursor_frame (m : Option DayMinute) :
    Frame [.cal] s (setCursor m s) := by
  unfold setCursor
  repeat' (with_reducible first
    | exact Frame.refl _ _
    | decide
    | split
    | apply Frame.after (withCal_frame ..))

theorem markFired_frame (n : Fin 96) (date : Nat) :
    Frame [.cal] s (markFired n date s) := by
  unfold markFired
  repeat' (with_reducible first
    | exact Frame.refl _ _
    | decide
    | split
    | apply Frame.after (State.setEvent_frame ..))

theorem eventNotice_frame (n : Fin 96) (late : Bool) (session : Nat) (r : EventReason) :
    Frame [.notices, .ports] s (eventNotice n late session r s) := by
  unfold eventNotice
  repeat' (with_reducible first
    | exact Frame.refl _ _
    | decide
    | split
    | apply Frame.after (post_frame ..))

theorem sunTest_frame (today : Nat) (date : Nat) (late : Bool) (n : Fin 96) :
    Frame [.cal, .notices, .ports] s (sunTest today date late n s) := by
  unfold sunTest
  repeat' (with_reducible first
    | exact Frame.refl _ _
    | decide
    | split
    | apply Frame.after (markFired_frame ..)
    | apply Frame.after (eventNotice_frame ..))

theorem windowSunTest_frame (today : Nat) (date : Nat) (late : Bool) (n : Fin 96) :
    Frame [.notices, .ports] s (windowSunTest today date late n s) := by
  unfold windowSunTest
  repeat' (with_reducible first
    | exact Frame.refl _ _
    | decide
    | split
    | apply Frame.after (eventNotice_frame ..)
    | dsimp only)

theorem handEvent_frame (n : Fin 96) :
    Frame [.holders, .guards, .swings, .sessions, .queue, .tolls, .notices, .ports] s (handEvent n s).1 := by
  unfold handEvent
  repeat' (with_reducible first
    | exact Frame.refl _ _
    | decide
    | split
    | apply Frame.after (createSession_frame ..)
    | apply Frame.after (startToll_frame ..)
    | apply Frame.after (playTune_frame ..)
    | exact Frame.of_pair (by assumption) (Frame.mono (startToll_frame ..) (by decide))
    | exact Frame.of_pair (by assumption) (Frame.mono (createSession_frame ..) (by decide))
    | dsimp only)

theorem fireTest_frame (today : Nat) (m : DayMinute) (late : Bool) (n : Fin 96) :
    Frame [.holders, .guards, .swings, .sessions, .queue, .tolls, .cal, .notices, .ports] s (fireTest today m late n s) := by
  unfold fireTest
  repeat' (with_reducible first
    | exact Frame.refl _ _
    | decide
    | split
    | apply Frame.after (markFired_frame ..)
    | apply Frame.after (eventNotice_frame ..)
    | apply Frame.after (handEvent_frame ..))

theorem takeMinute_frame (today : Nat) (m : DayMinute) (late : Bool) :
    Frame [.holders, .guards, .swings, .sessions, .queue, .tolls, .cal, .notices, .ports] s (takeMinute today m late s) := by
  have h1 := Frame.foldl (fun s n => sunTest_frame s today m.day late n) allEvents s
  have h2 := fun t => Frame.foldl (fun s n => windowSunTest_frame s today m.day late n) allEvents t
  have h3 := fun t => Frame.foldl (fun s n => fireTest_frame s today m late n) allEvents t
  unfold takeMinute
  refine Frame.trans ?_ ((h3 _).mono (by decide))
  refine (h1.mono (by decide)).trans ?_
  generalize allEvents.foldl (fun s n => sunTest today m.day late n s) s = u
  dsimp only
  split
  · exact Frame.refl _ _
  · exact ((h2 u).mono (by decide)).trans ((withCal_frame _ _).mono (by decide))

theorem missedEventTest_frame (today : Nat) (k : DayMinute) (n : Nat) (e : Fin 96) (date : Nat) :
    Frame [.cal, .notices, .ports] s (missedEventTest today k n e date s) := by
  unfold missedEventTest
  repeat' (with_reducible first
    | exact Frame.refl _ _
    | decide
    | split
    | apply Frame.after (post_frame ..)
    | apply Frame.after (markFired_frame ..)
    | apply Frame.after (eventNotice_frame ..)
    | dsimp only)

theorem missedEvents_frame (today : Nat) (k : DayMinute) (n : Nat) :
    Frame [.cal, .notices, .ports] s (missedEvents today k n s) := by
  exact Frame.foldl (fun s e => (missedEventTest_frame s today k n e _).trans (missedEventTest_frame _ today k n e _)) _ s

theorem lateMinutes_frame (today : Nat) (k : DayMinute) (m n : Nat) :
    Frame [.holders, .guards, .swings, .sessions, .queue, .tolls, .cal, .notices, .ports] s (lateMinutes today k m n s) :=
  Frame.foldl (fun s _ => takeMinute_frame s _ _ _) _ s

theorem forwardJump_frame (today : Nat) (k : DayMinute) (n held : Nat) (smallStep : Bool) :
    Frame [.holders, .guards, .swings, .sessions, .queue, .tolls, .cal, .notices, .ports] s (forwardJump today k n held smallStep s) := by
  unfold forwardJump
  repeat' (with_reducible first
    | exact Frame.refl _ _
    | decide
    | split
    | apply Frame.after (lateMinutes_frame ..)
    | apply Frame.after (missedEvents_frame ..))

theorem compareCursor_frame (c : Label) (begins smallStep : Bool) (heldUntil : Option DayMinute) :
    Frame [.holders, .guards, .swings, .sessions, .queue, .tolls, .cal, .notices, .ports] s (compareCursor c begins smallStep heldUntil s) := by
  unfold compareCursor
  repeat' (with_reducible first
    | exact Frame.refl _ _
    | decide
    | split
    | apply Frame.after (setCursor_frame ..)
    | apply Frame.after (takeMinute_frame ..)
    | apply Frame.after (forwardJump_frame ..)
    | dsimp only)

theorem calendarCompare_frame (boundary : Bool) (smallStep : Bool) :
    Frame [.holders, .guards, .swings, .sessions, .queue, .tolls, .cal, .notices, .ports] s (calendarCompare boundary smallStep s) := by
  unfold calendarCompare
  repeat' (with_reducible first
    | exact Frame.refl _ _
    | decide
    | split
    | apply Frame.after (compareCursor_frame ..)
    | apply Frame.after (withCal_frame ..))

theorem recomputeWindows_frame (old : List (Fin 96)) :
    Frame [.cal, .lights, .notices, .ports] s (recomputeWindows old s) := by
  unfold recomputeWindows
  repeat' (with_reducible first
    | exact Frame.refl _ _
    | decide
    | split
    | apply Frame.after (deriveLights_frame ..)
    | apply Frame.after (withCal_frame ..))

theorem writeEvent_frame (n : Fin 96) (e : Event) :
    Frame [.cal, .lights, .notices, .ports] s (writeEvent n e s) := by
  unfold writeEvent
  repeat' (with_reducible first
    | exact Frame.refl _ _
    | decide
    | split
    | apply Frame.after (State.setEvent_frame ..)
    | apply Frame.after (recomputeWindows_frame ..))

theorem actEventWrite_frame (a : EventArgs) :
    Frame [.cal, .lights, .notices, .ports] s (actEventWrite a s).state := by
  unfold actEventWrite
  repeat' (with_reducible first
    | exact Frame.refl _ _
    | decide
    | split
    | simp only [refuse_state, refuseStale_state, accept_state]
    | apply Frame.after (writeEvent_frame ..))

theorem eventWrite_frame (p : Port) (tag : Byte) (a : EventArgs) :
    Frame [.cal, .lights, .notices, .ports] s (eventWrite p tag a s) :=
  request_frame s _ _ _ _ (by decide) (Frame.mono (actEventWrite_frame s a) (by decide))

theorem actEventDelete_frame (event : Nat) (revision : Nat) :
    Frame [.cal, .lights, .notices, .ports] s (actEventDelete event revision s).state := by
  unfold actEventDelete
  repeat' (with_reducible first
    | exact Frame.refl _ _
    | decide
    | split
    | simp only [refuse_state, refuseStale_state, accept_state]
    | apply Frame.after (writeEvent_frame ..))

theorem eventDelete_frame (p : Port) (tag : Byte) (event : Nat) (revision : Nat) :
    Frame [.cal, .lights, .notices, .ports] s (eventDelete p tag event revision s) :=
  request_frame s _ _ _ _ (by decide) (Frame.mono (actEventDelete_frame s event revision) (by decide))

theorem actEventRead_frame (event : Nat) :
    Frame [] s (actEventRead event s).state := by
  unfold actEventRead
  repeat' (with_reducible first
    | exact Frame.refl _ _
    | decide
    | split
    | simp only [refuse_state, accept_state])

theorem eventRead_frame (p : Port) (tag : Byte) (event : Nat) :
    Frame [.ports] s (eventRead p tag event s) :=
  request_frame s _ _ _ _ (by decide) (Frame.mono (actEventRead_frame s event) (by decide))

end Sys2Proof.Machine
end

