-- ==== Sys2Proof/Laws/CommandFrames.lean ====
section
/-! SUPPORT. What each operation leaves unchanged: the Time Base, the supply, the ports. -/

namespace Sys2Proof.Machine

variable (s : State)

/-! ### Machine/TimeBase -/

theorem setDisc_frame (d : Discipline) :
    Frame [.tb, .notices, .ports] s (setDisc d s) := by
  unfold setDisc
  repeat' (with_reducible first
    | exact Frame.refl _ _
    | decide
    | split
    | apply Frame.after (State.setTb_frame ..)
    | apply Frame.after (post_frame ..)
    | dsimp only)

theorem missedMove_frame  :
    Frame [.tb, .notices, .ports] s (missedMove s) := by
  unfold missedMove
  repeat' (with_reducible first
    | exact Frame.refl _ _
    | decide
    | split
    | apply Frame.after (State.setTb_frame ..)
    | apply Frame.after (setDisc_frame ..))

theorem missedTest_frame  :
    Frame [.tb, .notices, .ports] s (missedTest s) := by
  unfold missedTest
  repeat' (with_reducible first
    | exact Frame.refl _ _
    | decide
    | split
    | apply Frame.after (State.setTb_frame ..)
    | apply Frame.after (missedMove_frame ..)
    | dsimp only)

theorem holdoverRise_frame  :
    Frame [.tb, .notices, .ports] s (holdoverRise s) := by
  unfold holdoverRise
  repeat' (with_reducible first
    | exact Frame.refl _ _
    | decide
    | split
    | apply Frame.after (State.setTb_frame ..)
    | apply Frame.after (setDisc_frame ..)
    | dsimp only)

theorem leaveUnset_frame (waited : Bool) :
    Frame [.tb, .notices, .ports] s (leaveUnset waited s) := by
  unfold leaveUnset
  repeat' (with_reducible first
    | exact Frame.refl _ _
    | decide
    | split
    | apply Frame.after (State.setTb_frame ..)
    | apply Frame.after (setDisc_frame ..))

theorem beginSecond_frame (label : Option Label) :
    Frame [.tb, .notices, .ports] s (beginSecond label s) := by
  unfold beginSecond
  repeat' (with_reducible first
    | exact Frame.refl _ _
    | decide
    | split
    | apply Frame.after (State.setTb_frame ..)
    | apply Frame.after (missedTest_frame ..)
    | apply Frame.after (holdoverRise_frame ..)
    | apply Frame.after (leaveUnset_frame ..))

theorem applyOffset_frame  :
    Frame [.civil, .notices, .ports] s (applyOffset s) := by
  unfold applyOffset
  repeat' (with_reducible first
    | exact Frame.refl _ _
    | decide
    | split
    | apply Frame.after (post_frame ..)
    | apply Frame.after (withCivil_frame ..))

theorem pruneDays_frame (date : Nat) :
    Frame [.days] s (pruneDays date s) := by
  unfold pruneDays
  repeat' (with_reducible first
    | exact Frame.refl _ _
    | decide
    | split
    | apply Frame.after (withDays_frame ..))

theorem takeYesterday_frame (date : Nat) :
    Frame [.cal] s (takeYesterday date s) := by
  unfold takeYesterday
  repeat' (with_reducible first
    | exact Frame.refl _ _
    | decide
    | split
    | apply Frame.after (withCal_frame ..))

theorem dateChange_frame (old : Option Label) (becameValid : Bool) :
    Frame [.days, .cal] s (dateChange old becameValid s) := by
  unfold dateChange
  repeat' (with_reducible first
    | exact Frame.refl _ _
    | decide
    | split
    | apply Frame.after (pruneDays_frame ..)
    | apply Frame.after (takeYesterday_frame ..))

theorem lightsBoundary_frame (changed : Bool) :
    Frame [.cal, .lights, .notices, .ports] s (lightsBoundary changed s) := by
  unfold lightsBoundary
  repeat' (with_reducible first
    | exact Frame.refl _ _
    | decide
    | split
    | apply Frame.after (deriveLights_frame ..)
    | apply Frame.after (overrideTests_frame ..)
    | apply Frame.after (recomputeWindows_frame ..))

theorem blocksBoundary_frame (old : Option Label) (delta : Option Int) (applied : Bool) (becameValid : Bool) :
    Frame [.dials, .holders, .guards, .swings, .sessions, .queue, .quarters, .held, .tolls, .cal, .lights, .notices, .ports] s (blocksBoundary old delta applied becameValid s) := by
  unfold blocksBoundary
  repeat' (with_reducible first
    | exact Frame.refl _ _
    | decide
    | split
    | apply Frame.after (strikeBoundary_frame ..)
    | apply Frame.after (dialsBoundary_frame ..)
    | apply Frame.after (calendarCompare_frame ..)
    | apply Frame.after (lightsBoundary_frame ..))

theorem newSecondTail_frame (old : Option Label) (delta : Option Int) :
    Frame [.tb, .civil, .days, .dials, .holders, .guards, .swings, .sessions, .queue, .quarters, .held, .tolls, .cal, .lights, .notices, .ports] s (newSecondTail old delta s) := by
  unfold newSecondTail
  repeat' (with_reducible first
    | exact Frame.refl _ _
    | decide
    | split
    | apply Frame.after (State.setTb_frame ..)
    | apply Frame.after (applyOffset_frame ..)
    | apply Frame.after (dateChange_frame ..)
    | apply Frame.after (blocksBoundary_frame ..)
    | dsimp only)

theorem postStep_frame (delta : Option Int) :
    Frame [.notices, .ports] s (postStep delta s) := by
  unfold postStep
  repeat' (with_reducible first
    | exact Frame.refl _ _
    | decide
    | split
    | apply Frame.after (post_frame ..))

theorem finishSecond_frame (old : Option Label) (cmp : Option Label) :
    Frame [.tb, .civil, .days, .dials, .holders, .guards, .swings, .sessions, .queue, .quarters, .held, .tolls, .cal, .lights, .notices, .ports] s (finishSecond old cmp s) := by
  unfold finishSecond
  repeat' (with_reducible first
    | exact Frame.refl _ _
    | decide
    | split
    | apply Frame.after (newSecondTail_frame ..)
    | apply Frame.after (postStep_frame ..))

theorem boundary_frame  :
    Frame [.tb, .civil, .days, .dials, .holders, .guards, .swings, .sessions, .queue, .quarters, .held, .tolls, .cal, .lights, .notices, .ports] s (boundary s) := by
  unfold boundary
  repeat' (with_reducible first
    | exact Frame.refl _ _
    | decide
    | split
    | apply Frame.after (beginSecond_frame ..)
    | apply Frame.after (finishSecond_frame ..))

theorem relabelWindows_frame :
    Frame [.cal, .lights, .notices, .ports] s (relabelWindows s) := by
  unfold relabelWindows
  repeat' (with_reducible first
    | exact Frame.refl _ _
    | decide
    | apply Frame.after (overrideTests_frame ..)
    | apply Frame.after (recomputeWindows_frame ..))

theorem stepRelabel_frame (begun checked : Option Label) :
    Frame [.cal, .lights, .notices, .ports] s (stepRelabel begun checked s) := by
  unfold stepRelabel
  split
  · exact Frame.refl _ _
  · exact relabelWindows_frame s

theorem relabel_frame (delta : Int) (l : Label) :
    Frame [.tb, .days, .dials, .holders, .guards, .swings, .sessions, .queue, .quarters, .held, .tolls, .cal, .lights, .notices, .ports] s (relabel delta l s) := by
  unfold relabel
  repeat' (with_reducible first
    | exact Frame.refl _ _
    | decide
    | split
    | apply Frame.after (State.setTb_frame ..)
    | apply Frame.after (quarterStep_frame ..)
    | apply Frame.after (dialsFull_frame ..)
    | apply Frame.after (relabelWindows_frame ..)
    | apply Frame.after (calendarCompare_frame ..)
    | apply Frame.after (dateChange_frame ..)
    | apply Frame.after (postStep_frame ..))

theorem localSecondBoundary_frame  :
    Frame [.tb, .civil, .days, .dials, .holders, .guards, .swings, .sessions, .queue, .quarters, .held, .tolls, .cal, .lights, .notices, .ports] s (localSecondBoundary s) := by
  unfold localSecondBoundary
  repeat' (with_reducible first
    | exact Frame.refl _ _
    | decide
    | split
    | apply Frame.after (boundary_frame ..))

theorem missedLimit_frame  :
    Frame [.tb, .notices, .ports] s (missedLimit s) := by
  unfold missedLimit
  repeat' (with_reducible first
    | exact Frame.refl _ _
    | decide
    | split
    | apply Frame.after (missedMove_frame ..))

theorem holdoverLimit_frame  :
    Frame [.tb, .notices, .ports] s (holdoverLimit s) := by
  unfold holdoverLimit
  repeat' (with_reducible first
    | exact Frame.refl _ _
    | decide
    | split
    | apply Frame.after (setDisc_frame ..))

theorem offsetChangeApplied_frame  :
    Frame [.tb, .civil, .days, .dials, .holders, .guards, .swings, .sessions, .queue, .quarters, .held, .tolls, .cal, .lights, .notices, .ports] s (offsetChangeApplied s) := by
  unfold offsetChangeApplied
  repeat' (with_reducible first
    | exact Frame.refl _ _
    | decide
    | split
    | apply Frame.after (boundary_frame ..))

theorem acceptPulse_frame  :
    Frame [.tb] s (acceptPulse s) := by
  unfold acceptPulse
  repeat' (with_reducible first
    | exact Frame.refl _ _
    | decide
    | split
    | apply Frame.after (State.setTb_frame ..))

theorem matchLabels_frame  :
    Frame [.tb, .ref] s (matchLabels s) := by
  unfold matchLabels
  repeat' (with_reducible first
    | exact Frame.refl _ _
    | decide
    | split
    | apply Frame.after (State.setTb_frame ..)
    | apply Frame.after (State.setRef_frame ..))

theorem countMismatch_frame (delta : Int) :
    Frame [.tb, .notices, .ports] s (countMismatch delta s) := by
  unfold countMismatch
  repeat' (with_reducible first
    | exact Frame.refl _ _
    | decide
    | split
    | apply Frame.after (State.setTb_frame ..)
    | apply Frame.after (post_frame ..))

theorem labelCheck_frame (msg : Label) (implied : Label) :
    Frame [.tb, .ref, .days, .dials, .holders, .guards, .swings, .sessions, .queue, .quarters, .held, .tolls, .cal, .lights, .notices, .ports] s (labelCheck msg implied s) := by
  unfold labelCheck
  repeat' (with_reducible first
    | exact Frame.refl _ _
    | decide
    | split
    | apply Frame.after (State.setRef_frame ..)
    | apply Frame.after (relabel_frame ..)
    | apply Frame.after (matchLabels_frame ..)
    | apply Frame.after (countMismatch_frame ..)
    | dsimp only)

theorem stepCheck_frame (msg : Label) :
    Frame [.tb, .ref, .notices, .ports] s (stepCheck msg s) := by
  unfold stepCheck
  repeat' (with_reducible first
    | exact Frame.refl _ _
    | decide
    | split
    | apply Frame.after (State.setTb_frame ..)
    | apply Frame.after (State.setRef_frame ..)
    | apply Frame.after (matchLabels_frame ..)
    | apply Frame.after (countMismatch_frame ..)
    | dsimp only)

theorem phaseStep_frame (e : Int) (msg : Option Label) :
    Frame [.tb, .ref, .civil, .days, .dials, .holders, .guards, .swings, .sessions, .queue, .quarters, .held, .tolls, .cal, .lights, .notices, .ports] s (phaseStep e msg s) := by
  unfold phaseStep
  repeat' (with_reducible first
    | exact Frame.refl _ _
    | decide
    | split
    | apply Frame.after (State.setTb_frame ..)
    | apply Frame.after (stepRelabel_frame ..)
    | apply Frame.after (beginSecond_frame ..)
    | apply Frame.after (finishSecond_frame ..)
    | apply Frame.after (stepCheck_frame ..))

theorem checkPulse_frame (e : Int) (msg : Option Label) :
    Frame [.tb, .ref, .days, .dials, .holders, .guards, .swings, .sessions, .queue, .quarters, .held, .tolls, .cal, .lights, .notices, .ports] s (checkPulse e msg s) := by
  unfold checkPulse
  repeat' (with_reducible first
    | exact Frame.refl _ _
    | decide
    | split
    | apply Frame.after (labelCheck_frame ..))

theorem acquirePulse_frame (e : Int) (msg : Option Label) :
    Frame [.tb, .ref, .civil, .days, .dials, .holders, .guards, .swings, .sessions, .queue, .quarters, .held, .tolls, .cal, .lights, .notices, .ports] s (acquirePulse e msg s) := by
  unfold acquirePulse
  repeat' (with_reducible first
    | exact Frame.refl _ _
    | decide
    | split
    | apply Frame.after (State.setTb_frame ..)
    | apply Frame.after (setDisc_frame ..)
    | apply Frame.after (acceptPulse_frame ..)
    | apply Frame.after (phaseStep_frame ..)
    | apply Frame.after (checkPulse_frame ..))

theorem lockedPulse_frame (e : Int) (msg : Option Label) :
    Frame [.tb, .ref, .days, .dials, .holders, .guards, .swings, .sessions, .queue, .quarters, .held, .tolls, .cal, .lights, .notices, .ports] s (lockedPulse e msg s) := by
  unfold lockedPulse
  repeat' (with_reducible first
    | exact Frame.refl _ _
    | decide
    | split
    | apply Frame.after (State.setTb_frame ..)
    | apply Frame.after (setDisc_frame ..)
    | apply Frame.after (acceptPulse_frame ..)
    | apply Frame.after (checkPulse_frame ..))

theorem firstLabel_frame (l : Label) (e : Int) :
    Frame [.tb, .ref, .notices, .ports] s (firstLabel l e s) := by
  unfold firstLabel
  repeat' (with_reducible first
    | exact Frame.refl _ _
    | decide
    | split
    | apply Frame.after (State.setTb_frame ..)
    | apply Frame.after (setDisc_frame ..)
    | apply Frame.after (matchLabels_frame ..))

theorem unsetPulse_frame (e : Int) (msg : Option Label) :
    Frame [.tb, .ref, .civil, .days, .dials, .holders, .guards, .swings, .sessions, .queue, .quarters, .held, .tolls, .cal, .lights, .notices, .ports] s (unsetPulse e msg s) := by
  unfold unsetPulse
  repeat' (with_reducible first
    | exact Frame.refl _ _
    | decide
    | split
    | apply Frame.after (State.setTb_frame ..)
    | apply Frame.after (beginSecond_frame ..)
    | apply Frame.after (finishSecond_frame ..)
    | apply Frame.after (acceptPulse_frame ..)
    | apply Frame.after (phaseStep_frame ..)
    | apply Frame.after (firstLabel_frame ..))

theorem takenPulse_frame (msg : Option Label) :
    Frame [.tb, .ref, .civil, .days, .dials, .holders, .guards, .swings, .sessions, .queue, .quarters, .held, .tolls, .cal, .lights, .notices, .ports] s (takenPulse msg s) := by
  unfold takenPulse
  repeat' (with_reducible first
    | exact Frame.refl _ _
    | decide
    | split
    | apply Frame.after (State.setTb_frame ..)
    | apply Frame.after (setDisc_frame ..)
    | apply Frame.after (acquirePulse_frame ..)
    | apply Frame.after (lockedPulse_frame ..)
    | apply Frame.after (unsetPulse_frame ..))

theorem consumeMessage_frame (m : RefMessage) :
    Frame [.ref] s (consumeMessage m s) := by
  unfold consumeMessage
  repeat' (with_reducible first
    | exact Frame.refl _ _
    | decide
    | split
    | apply Frame.after (State.setRef_frame ..))

theorem refPulse_frame  :
    Frame [.tb, .ref, .civil, .days, .dials, .holders, .guards, .swings, .sessions, .queue, .quarters, .held, .tolls, .cal, .lights, .notices, .ports] s (refPulse s) := by
  unfold refPulse
  repeat' (with_reducible first
    | exact Frame.refl _ _
    | decide
    | split
    | apply Frame.after (consumeMessage_frame ..)
    | apply Frame.after (takenPulse_frame ..))

theorem refMessageGapTimeout_frame  :
    Frame [.ref] s (refMessageGapTimeout s) := by
  unfold refMessageGapTimeout
  repeat' (with_reducible first
    | exact Frame.refl _ _
    | decide
    | split
    | apply Frame.after (State.setRef_frame ..))

theorem messageByte_frame (b : Byte) :
    Frame [.ref] s (messageByte b s) := by
  unfold messageByte
  repeat' (with_reducible first
    | exact Frame.refl _ _
    | decide
    | split
    | apply Frame.after (State.setRef_frame ..)
    | apply Frame.after (refMessageGapTimeout_frame ..)
    | dsimp only)

theorem refMessageReceived_frame (bytes : List Byte) :
    Frame [.ref] s (refMessageReceived bytes s) := by
  unfold refMessageReceived
  repeat' (with_reducible first
    | exact Frame.refl _ _
    | decide
    | split
    | apply Frame.after (messageByte_frame ..)
    | apply Frame.after (Frame.foldl (fun _ _ => messageByte_frame ..) _ _))

theorem refMessageExpired_frame  :
    Frame [.ref] s (refMessageExpired s) := by
  unfold refMessageExpired
  repeat' (with_reducible first
    | exact Frame.refl _ _
    | decide
    | split
    | apply Frame.after (State.setRef_frame ..))

theorem actTimeRead_frame  :
    Frame [] s (actTimeRead s).state := by
  unfold actTimeRead
  repeat' (with_reducible first
    | exact Frame.refl _ _
    | decide
    | split
    | simp only [accept_state])

theorem timeRead_frame (p : Port) (tag : Byte) :
    Frame [.ports] s (timeRead p tag s) :=
  request_frame s _ _ _ _ (by decide) (Frame.mono (actTimeRead_frame s) (by decide))

theorem actTimeSet_frame (day : Nat) (sec : Nat) :
    Frame [.tb] s (actTimeSet day sec s).state := by
  unfold actTimeSet
  repeat' (with_reducible first
    | exact Frame.refl _ _
    | decide
    | split
    | simp only [refuse_state, accept_state]
    | apply Frame.after (State.setTb_frame ..))

theorem timeSet_frame (p : Port) (tag : Byte) (day : Nat) (sec : Nat) :
    Frame [.tb, .ports] s (timeSet p tag day sec s) :=
  request_frame s _ _ _ _ (by decide) (Frame.mono (actTimeSet_frame s day sec) (by decide))

theorem changeMode_frame (m : RefMode) :
    Frame [.tb, .ref, .notices, .ports] s (changeMode m s) := by
  unfold changeMode
  repeat' (with_reducible first
    | exact Frame.refl _ _
    | decide
    | split
    | apply Frame.after (State.setTb_frame ..)
    | apply Frame.after (State.setRef_frame ..)
    | apply Frame.after (setDisc_frame ..)
    | dsimp only)

theorem actRefModeSet_frame (mode : Nat) :
    Frame [.tb, .ref, .notices, .ports] s (actRefModeSet mode s).state := by
  unfold actRefModeSet
  repeat' (with_reducible first
    | exact Frame.refl _ _
    | decide
    | split
    | simp only [refuse_state, accept_state]
    | apply Frame.after (changeMode_frame ..))

theorem refModeSet_frame (p : Port) (tag : Byte) (mode : Nat) :
    Frame [.tb, .ref, .notices, .ports] s (refModeSet p tag mode s) :=
  request_frame s _ _ _ _ (by decide) (Frame.mono (actRefModeSet_frame s mode) (by decide))

theorem actTimeFaultsClear_frame  :
    Frame [.tb, .ref] s (actTimeFaultsClear s).state := by
  unfold actTimeFaultsClear
  repeat' (with_reducible first
    | exact Frame.refl _ _
    | decide
    | split
    | simp only [accept_state]
    | apply Frame.after (State.setTb_frame ..)
    | apply Frame.after (State.setRef_frame ..))

theorem timeFaultsClear_frame (p : Port) (tag : Byte) :
    Frame [.tb, .ref, .ports] s (timeFaultsClear p tag s) :=
  request_frame s _ _ _ _ (by decide) (Frame.mono (actTimeFaultsClear_frame s) (by decide))

theorem actOffsetSet_frame (offset : Int) (day : Nat) (sec : Nat) :
    Frame [.civil] s (actOffsetSet offset day sec s).state := by
  unfold actOffsetSet
  repeat' (with_reducible first
    | exact Frame.refl _ _
    | decide
    | split
    | simp only [refuse_state, accept_state]
    | apply Frame.after (withCivil_frame ..))

theorem offsetSet_frame (p : Port) (tag : Byte) (offset : Int) (day : Nat) (sec : Nat) :
    Frame [.civil, .ports] s (offsetSet p tag offset day sec s) :=
  request_frame s _ _ _ _ (by decide) (Frame.mono (actOffsetSet_frame s offset day sec) (by decide))

theorem actCivilConfig_frame (cls : Nat) :
    Frame [.civil] s (actCivilConfig cls s).state := by
  unfold actCivilConfig
  repeat' (with_reducible first
    | exact Frame.refl _ _
    | decide
    | split
    | simp only [refuse_state, accept_state]
    | apply Frame.after (withCivil_frame ..))

theorem civilConfig_frame (p : Port) (tag : Byte) (cls : Nat) :
    Frame [.civil, .ports] s (civilConfig p tag cls s) :=
  request_frame s _ _ _ _ (by decide) (Frame.mono (actCivilConfig_frame s cls) (by decide))

theorem actDayclassRead_frame (first : Nat) :
    Frame [] s (actDayclassRead first s).state := by
  unfold actDayclassRead
  repeat' (with_reducible first
    | exact Frame.refl _ _
    | decide
    | split
    | simp only [refuse_state, accept_state])

theorem dayclassRead_frame (p : Port) (tag : Byte) (first : Nat) :
    Frame [.ports] s (dayclassRead p tag first s) :=
  request_frame s _ _ _ _ (by decide) (Frame.mono (actDayclassRead_frame s first) (by decide))

theorem actDayclassWrite_frame (revision : Nat) (replace : Nat) (pairs : List DatePair) :
    Frame [.days] s (actDayclassWrite revision replace pairs s).state := by
  unfold actDayclassWrite
  repeat' (with_reducible first
    | exact Frame.refl _ _
    | decide
    | split
    | simp only [refuse_state, refuseWith_state, refuseStale_state, accept_state]
    | apply Frame.after (withDays_frame ..))

theorem dayclassWrite_frame (p : Port) (tag : Byte) (revision : Nat) (replace : Nat) (pairs : List DatePair) :
    Frame [.days, .ports] s (dayclassWrite p tag revision replace pairs s) :=
  request_frame s _ _ _ _ (by decide) (Frame.mono (actDayclassWrite_frame s revision replace pairs) (by decide))

theorem actSunRead_frame (first : Nat) (count : Nat) :
    Frame [] s (actSunRead first count s).state := by
  unfold actSunRead
  repeat' (with_reducible first
    | exact Frame.refl _ _
    | decide
    | split
    | simp only [refuse_state, accept_state])

theorem sunRead_frame (p : Port) (tag : Byte) (first : Nat) (count : Nat) :
    Frame [.ports] s (sunRead p tag first count s) :=
  request_frame s _ _ _ _ (by decide) (Frame.mono (actSunRead_frame s first count) (by decide))

theorem actSunWrite_frame (revision : Nat) (first : Nat) (entries : List SunPair) :
    Frame [.sun] s (actSunWrite revision first entries s).state := by
  unfold actSunWrite
  repeat' (with_reducible first
    | exact Frame.refl _ _
    | decide
    | split
    | simp only [refuse_state, refuseStale_state, accept_state]
    | apply Frame.after (withSun_frame ..))

theorem sunWrite_frame (p : Port) (tag : Byte) (revision : Nat) (first : Nat) (entries : List SunPair) :
    Frame [.sun, .ports] s (sunWrite p tag revision first entries s) :=
  request_frame s _ _ _ _ (by decide) (Frame.mono (actSunWrite_frame s revision first entries) (by decide))

/-! ### Machine/Supply -/

theorem mainsOkChange_frame (high : Bool) :
    Frame [.supply, .lines] s (mainsOkChange high s) := by
  unfold mainsOkChange
  repeat' (with_reducible first
    | exact Frame.refl _ _
    | decide
    | split
    | apply Frame.after (State.setLines_frame ..)
    | apply Frame.after (withSupply_frame ..))

theorem reportLow_frame  :
    Frame [.supply, .notices, .ports] s (reportLow s) := by
  unfold reportLow
  repeat' (with_reducible first
    | exact Frame.refl _ _
    | decide
    | split
    | apply Frame.after (post_frame ..)
    | apply Frame.after (withSupply_frame ..))

theorem blocksLost_frame  :
    Frame [.dials, .holders, .guards, .hammers, .swings, .sessions, .queue, .quarters, .held, .tolls, .lights, .notices, .ports] s (blocksLost s) := by
  unfold blocksLost
  repeat' (with_reducible first
    | exact Frame.refl _ _
    | decide
    | split
    | apply Frame.after (guardHalt_frame ..)
    | apply Frame.after (swingsSupplyLost_frame ..)
    | apply Frame.after (strikeSupplyLost_frame ..)
    | apply Frame.after (dialsSupplyLost_frame ..)
    | apply Frame.after (lightsSupplyLost_frame ..)
    | apply Frame.after (Frame.foldl (fun _ _ => guardHalt_frame ..) _ _))

theorem mainsLost_frame  :
    Frame [.dials, .holders, .guards, .hammers, .swings, .sessions, .queue, .quarters, .held, .tolls, .lights, .supply, .notices, .ports] s (mainsLost s) := by
  unfold mainsLost
  repeat' (with_reducible first
    | exact Frame.refl _ _
    | decide
    | split
    | apply Frame.after (post_frame ..)
    | apply Frame.after (reportLow_frame ..)
    | apply Frame.after (blocksLost_frame ..)
    | apply Frame.after (withSupply_frame ..))

theorem blocksRestored_frame  :
    Frame [.dials, .guards, .swings, .sessions, .lights, .notices, .ports] s (blocksRestored s) := by
  unfold blocksRestored
  repeat' (with_reducible first
    | exact Frame.refl _ _
    | decide
    | split
    | apply Frame.after (guardResume_frame ..)
    | apply Frame.after (dialsFull_frame ..)
    | apply Frame.after (deriveLights_frame ..)
    | apply Frame.after (Frame.foldl (fun _ _ => guardResume_frame ..) _ _))

theorem mainsRestored_frame  :
    Frame [.dials, .guards, .swings, .sessions, .lights, .supply, .notices, .ports] s (mainsRestored s) := by
  unfold mainsRestored
  repeat' (with_reducible first
    | exact Frame.refl _ _
    | decide
    | split
    | apply Frame.after (post_frame ..)
    | apply Frame.after (blocksRestored_frame ..)
    | apply Frame.after (withSupply_frame ..))

theorem battLowChange_frame (asserted : Bool) :
    Frame [.supply, .lines] s (battLowChange asserted s) := by
  unfold battLowChange
  repeat' (with_reducible first
    | exact Frame.refl _ _
    | decide
    | split
    | apply Frame.after (State.setLines_frame ..)
    | apply Frame.after (withSupply_frame ..))

theorem batteryLowSettled_frame  :
    Frame [.supply, .notices, .ports] s (batteryLowSettled s) := by
  unfold batteryLowSettled
  repeat' (with_reducible first
    | exact Frame.refl _ _
    | decide
    | split
    | apply Frame.after (reportLow_frame ..)
    | apply Frame.after (withSupply_frame ..))

theorem resetNChange_frame (high : Bool) :
    Frame [.hold, .notices, .lines] s (resetNChange high s) := by
  unfold resetNChange
  repeat' (with_reducible first
    | exact Frame.refl _ _
    | decide
    | split
    | apply Frame.after (State.setLines_frame ..)
    | apply Frame.after (withWarm_frame ..))

theorem enterWarmReset_frame  :
    Frame [.ref, .dials, .guards, .hammers, .swings, .sessions, .tunes, .queue, .quarters, .held, .tolls, .lights, .hold, .notices, .ports] s (enterWarmReset s) := by
  unfold enterWarmReset
  refine Frame.after (abortEdits_frame _) ?_ (by decide)
  intro q hq
  cases q <;> first
    | (exact absurd (by decide) hq)
    | simp [Part.same, State.bell, Bell.warmReset, Strike.warmReset]

theorem warmResetEntry_frame  :
    Frame [.ref, .dials, .guards, .hammers, .swings, .sessions, .tunes, .queue, .quarters, .held, .tolls, .lights, .hold, .notices, .ports] s (warmResetEntry s) := by
  unfold warmResetEntry
  repeat' (with_reducible first
    | exact Frame.refl _ _
    | decide
    | split
    | apply Frame.after (enterWarmReset_frame ..))

theorem heldDeadlines_frame :
    Frame [.lights, .notices, .ports] s (heldDeadlines s) :=
  (overrideTests_frame s).trans (Frame.foldl (fun s c => restrikeExpiry_frame s c) _ _)

theorem completeWarmReset_frame (entry : Instant) :
    Frame [.dials, .guards, .swings, .sessions, .cal, .lights, .hold, .notices, .ports] s (completeWarmReset entry s) := by
  have h1 := fun t => Frame.foldl (fun s n => postNotice_frame s n) s.warm.notices t
  have h2 := fun t => Frame.foldl (fun s b => bellCompletion_frame s b) allBells t
  have h3 := fun t => Frame.foldl (fun s b => swingCompletion_frame s b) allBells t
  unfold completeWarmReset
  refine Frame.after (heldDeadlines_frame _) (Frame.after (lightsCompletion_frame _) (Frame.after (dialsFull_frame _)
    (Frame.after (withCal_frame _ _) (Frame.after (h3 _) (Frame.after (h2 _) ?_ (by decide)) (by decide)) (by decide))
    (by decide)) (by decide)) (by decide)
  have h4 : Frame [.hold, .notices, .ports] s (s.warm.notices.foldl (fun s n => postNotice n s)
      (post .warmResetDone 0 (BitVec.ofNat 16 (sat 65535 (s.now - entry))) { s with warm := { } })) :=
    Frame.after (h1 _) (Frame.after (post_frame _ .warmResetDone 0 _) ((withWarm_frame s _).mono (by decide)) (by decide)) (by decide)
  cases s.warm.lost
  · exact h4.mono (by decide)
  · exact Frame.after (withPorts_frame _ _) (h4.mono (by decide)) (by decide)

theorem warmResetCompletion_frame  :
    Frame [.dials, .guards, .swings, .sessions, .cal, .lights, .hold, .notices, .ports] s (warmResetCompletion s) := by
  unfold warmResetCompletion
  repeat' (with_reducible first
    | exact Frame.refl _ _
    | decide
    | split
    | apply Frame.after (completeWarmReset_frame ..))

/-! ### Machine/Link -/

theorem actPartStatus_frame (p : Port) :
    Frame [] s (actPartStatus p s).state := by
  unfold actPartStatus
  repeat' (with_reducible first
    | exact Frame.refl _ _
    | decide
    | split
    | simp only [accept_state])

theorem partStatus_frame (p : Port) (tag : Byte) :
    Frame [.ports] s (partStatus p tag s) :=
  request_frame s _ _ _ _ (by decide) (Frame.mono (actPartStatus_frame s p) (by decide))

theorem actNoticeFetch_frame (p : Port) :
    Frame [.ports] s (actNoticeFetch p s).state := by
  unfold actNoticeFetch
  repeat' (with_reducible first
    | exact Frame.refl _ _
    | decide
    | split
    | simp only [accept_state]
    | apply Frame.after (State.setPort_frame ..))

theorem noticeFetch_frame (p : Port) (tag : Byte) :
    Frame [.ports] s (noticeFetch p tag s) :=
  request_frame s _ _ _ _ (by decide) (Frame.mono (actNoticeFetch_frame s p) (by decide))

theorem actNoticeRouteSet_frame (p : Port) (routing : Nat) (enable : Nat) (holdoff : Nat) :
    Frame [.ports] s (actNoticeRouteSet p routing enable holdoff s).state := by
  unfold actNoticeRouteSet
  repeat' (with_reducible first
    | exact Frame.refl _ _
    | decide
    | split
    | simp only [refuse_state, accept_state]
    | apply Frame.after (State.setPort_frame ..))

theorem noticeRouteSet_frame (p : Port) (tag : Byte) (routing : Nat) (enable : Nat) (holdoff : Nat) :
    Frame [.ports] s (noticeRouteSet p tag routing enable holdoff s) :=
  request_frame s _ _ _ _ (by decide) (Frame.mono (actNoticeRouteSet_frame s p routing enable holdoff) (by decide))

theorem actPortReset_frame (p : Port) :
    Frame [.tunes, .queue, .quarters, .held, .notices, .ports] s (actPortReset p s).state := by
  unfold actPortReset
  repeat' (with_reducible first
    | exact Frame.refl _ _
    | decide
    | split
    | simp only [accept_state]
    | apply Frame.after (State.setPort_frame ..)
    | apply Frame.after (abortEdits_frame ..))

theorem portReset_frame (p : Port) (tag : Byte) :
    Frame [.tunes, .queue, .quarters, .held, .notices, .ports] s (portReset p tag s) :=
  request_frame s _ _ _ _ (by decide) (Frame.mono (actPortReset_frame s p) (by decide))

theorem runRequest_frame (i : Instr) :
    Frame [.tb, .ref, .civil, .days, .sun, .dials, .bellConfigs, .holders, .guards, .hammers, .swings, .sessions, .tunes, .plans, .queue, .quarters, .held, .tolls, .silence, .share, .cal, .lights, .notices, .ports] s (runRequest i s) := by
  unfold runRequest
  repeat' (with_reducible first
    | exact Frame.refl _ _
    | decide
    | split
    | apply Frame.after (claim_frame ..)
    | apply Frame.after (release_frame ..)
    | apply Frame.after (bellConfig_frame ..)
    | apply Frame.after (bellFaultClear_frame ..)
    | apply Frame.after (ringStart_frame ..)
    | apply Frame.after (ringCancel_frame ..)
    | apply Frame.after (ringRead_frame ..)
    | apply Frame.after (partConfig_frame ..)
    | apply Frame.after (bellRead_frame ..)
    | apply Frame.after (strikeStatus_frame ..)
    | apply Frame.after (strike_frame ..)
    | apply Frame.after (tollStart_frame ..)
    | apply Frame.after (tollStop_frame ..)
    | apply Frame.after (silenceSet_frame ..)
    | apply Frame.after (tuneRead_frame ..)
    | apply Frame.after (tuneOpen_frame ..)
    | apply Frame.after (tuneWrite_frame ..)
    | apply Frame.after (tuneClose_frame ..)
    | apply Frame.after (tuneAbort_frame ..)
    | apply Frame.after (tuneDelete_frame ..)
    | apply Frame.after (planRead_frame ..)
    | apply Frame.after (planWrite_frame ..)
    | apply Frame.after (dialSet_frame ..)
    | apply Frame.after (dialStop_frame ..)
    | apply Frame.after (dialStart_frame ..)
    | apply Frame.after (dialConfig_frame ..)
    | apply Frame.after (dialRead_frame ..)
    | apply Frame.after (lightConfig_frame ..)
    | apply Frame.after (lightOverride_frame ..)
    | apply Frame.after (lightFaultClear_frame ..)
    | apply Frame.after (lightRead_frame ..)
    | apply Frame.after (eventWrite_frame ..)
    | apply Frame.after (eventDelete_frame ..)
    | apply Frame.after (eventRead_frame ..)
    | apply Frame.after (timeRead_frame ..)
    | apply Frame.after (timeSet_frame ..)
    | apply Frame.after (refModeSet_frame ..)
    | apply Frame.after (timeFaultsClear_frame ..)
    | apply Frame.after (offsetSet_frame ..)
    | apply Frame.after (civilConfig_frame ..)
    | apply Frame.after (dayclassRead_frame ..)
    | apply Frame.after (dayclassWrite_frame ..)
    | apply Frame.after (sunRead_frame ..)
    | apply Frame.after (sunWrite_frame ..)
    | apply Frame.after (partStatus_frame ..)
    | apply Frame.after (noticeFetch_frame ..)
    | apply Frame.after (noticeRouteSet_frame ..)
    | apply Frame.after (portReset_frame ..))

theorem handleFrame_frame (p : Port) (tag : Byte) (code : Byte) (payload : List Byte) :
    Frame [.tb, .ref, .civil, .days, .sun, .dials, .bellConfigs, .holders, .guards, .hammers, .swings, .sessions, .tunes, .plans, .queue, .quarters, .held, .tolls, .silence, .share, .cal, .lights, .notices, .ports] s (handleFrame p tag code payload s) := by
  unfold handleFrame
  repeat' (with_reducible first
    | exact Frame.refl _ _
    | decide
    | split
    | apply Frame.after (respond_frame ..)
    | apply Frame.after (discardFrame_frame ..)
    | apply Frame.after (oweBusy_frame ..)
    | apply Frame.after (runRequest_frame ..))

theorem completeFrame_frame (p : Port) (bs : List Byte) :
    Frame [.tb, .ref, .civil, .days, .sun, .dials, .bellConfigs, .holders, .guards, .hammers, .swings, .sessions, .tunes, .plans, .queue, .quarters, .held, .tolls, .silence, .share, .cal, .lights, .notices, .ports] s (completeFrame p bs s) := by
  unfold completeFrame
  repeat' (with_reducible first
    | exact Frame.refl _ _
    | decide
    | split
    | apply Frame.after (discardFrame_frame ..)
    | apply Frame.after (handleFrame_frame ..)
    | dsimp only)

theorem frameGapTimeout_frame (p : Port) :
    Frame [.ports] s (frameGapTimeout p s) := by
  unfold frameGapTimeout
  repeat' (with_reducible first
    | exact Frame.refl _ _
    | decide
    | split
    | apply Frame.after (State.setPort_frame ..))

theorem portByte_frame (p : Port) (b : Byte) :
    Frame [.tb, .ref, .civil, .days, .sun, .dials, .bellConfigs, .holders, .guards, .hammers, .swings, .sessions, .tunes, .plans, .queue, .quarters, .held, .tolls, .silence, .share, .cal, .lights, .notices, .ports] s (portByte p b s) := by
  unfold portByte
  repeat' (with_reducible first
    | exact Frame.refl _ _
    | decide
    | split
    | apply Frame.after (State.setRx_frame ..)
    | apply Frame.after (frameGapTimeout_frame ..)
    | apply Frame.after (discardFrame_frame ..)
    | apply Frame.after (completeFrame_frame ..)
    | dsimp only)

theorem frameComplete_frame (p : Port) (bytes : List Byte) :
    Frame [.tb, .ref, .civil, .days, .sun, .dials, .bellConfigs, .holders, .guards, .hammers, .swings, .sessions, .tunes, .plans, .queue, .quarters, .held, .tolls, .silence, .share, .cal, .lights, .notices, .ports] s (frameComplete p bytes s) := by
  unfold frameComplete
  repeat' (with_reducible first
    | exact Frame.refl _ _
    | decide
    | split
    | apply Frame.after (portByte_frame ..)
    | apply Frame.after (Frame.foldl (fun _ _ => portByte_frame ..) _ _))

theorem frameLengthRejected_frame (p : Port) (length : Byte) :
    Frame [.ports] s (frameLengthRejected p length s) := by
  unfold frameLengthRejected
  repeat' (with_reducible first
    | exact Frame.refl _ _
    | decide
    | split
    | apply Frame.after (State.setRx_frame ..)
    | apply Frame.after (frameGapTimeout_frame ..)
    | apply Frame.after (discardFrame_frame ..)
    | dsimp only)

theorem responseSent_frame (p : Port) :
    Frame [.ports] s (responseSent p s) := by
  unfold responseSent
  repeat' (with_reducible first
    | exact Frame.refl _ _
    | decide
    | split
    | apply Frame.after (State.setPort_frame ..)
    | dsimp only)

theorem holdoffOver_frame (p : Port) :
    Frame [.ports] s (holdoffOver p s) := by
  unfold holdoffOver
  repeat' (with_reducible first
    | exact Frame.refl _ _
    | decide
    | split
    | apply Frame.after (State.setPort_frame ..)
    | dsimp only)

end Sys2Proof.Machine
end

