-- ==== Sys2Proof/Laws/Days.lean ====
section
/-! SUPPORT. What ordering the Day-Class List does: every entry is kept, and the dates ascend from the one given. -/

namespace Sys2Proof.Machine

theorem insertDay_perm (a : Nat) (e : DayEntry) (es : List DayEntry) : (insertDay a e es).Perm (e :: es) := by
  induction es with
  | nil => exact .refl _
  | cons x xs ih =>
    unfold insertDay
    split
    · exact (ih.cons x).trans (.swap ..)
    · exact .refl _

theorem daysFrom_perm (a : Nat) (es : List DayEntry) : (daysFrom a es).Perm es := by
  induction es with
  | nil => exact .refl _
  | cons x xs ih => exact (insertDay_perm ..).trans (ih.cons x)

@[simp] theorem mem_daysFrom (a : Nat) (e : DayEntry) (es : List DayEntry) : e ∈ daysFrom a es ↔ e ∈ es :=
  (daysFrom_perm a es).mem_iff

/-- The dates ascend around the circle from `a` on. -/
theorem daysFrom_pairwise (a : Nat) (es : List DayEntry) :
    (daysFrom a es).Pairwise (fun x y => daysAfter a x.date ≤ daysAfter a y.date) := by
  have ins : ∀ (e : DayEntry) (xs : List DayEntry), xs.Pairwise (fun x y => daysAfter a x.date ≤ daysAfter a y.date) →
      (insertDay a e xs).Pairwise (fun x y => daysAfter a x.date ≤ daysAfter a y.date) := by
    intro e xs
    induction xs with
    | nil => intro _; simp [insertDay]
    | cons x xs ih =>
      intro h
      obtain ⟨hx, hxs⟩ := List.pairwise_cons.mp h
      unfold insertDay
      split
      · refine List.pairwise_cons.mpr ⟨fun y hy => ?_, ih hxs⟩
        obtain rfl | hy := List.mem_cons.mp ((insertDay_perm a e xs).mem_iff.mp hy)
        · omega
        · exact hx y hy
      · refine List.pairwise_cons.mpr ⟨fun y hy => ?_, h⟩
        obtain rfl | hy := List.mem_cons.mp hy
        · omega
        · have := hx y hy; omega
  induction es with
  | nil => exact .nil
  | cons x xs ih => exact ins x _ ih

end Sys2Proof.Machine
end

