-- ==== Sys2Proof/Laws/Ops.lean ====
section
/-! SUPPORT. What each shared operation does, said once: posting a notice, the discipline state, taking a request,
the queue, an array walked by a fold. -/

namespace Sys2Proof.Machine

variable (s : State)

/-! ### Notices -/

theorem postNotice_free (n : Notice) (h : s.warm.held = none) :
    postNotice n s = { s with ports := mapV (LinkPort.take n) s.ports } := by simp [postNotice, State.isHeld, h]
theorem postNotice_held (n : Notice) (h : s.warm.held ≠ none) : postNotice n s =
    if s.warm.notices.length < 16 then { s with warm := { s.warm with notices := s.warm.notices ++ [n] } }
    else { s with warm := { s.warm with lost := true } } := by
  have : s.isHeld = true := by simpa [State.isHeld, Option.isSome_iff_ne_none] using h
  simp [postNotice, this]
@[simp] theorem postNotice_warm_held (n : Notice) : (postNotice n s).warm.held = s.warm.held := by
  unfold postNotice; split <;> (try split) <;> rfl
@[simp] theorem postNotice_warm_since (n : Notice) : (postNotice n s).warm.since = s.warm.since := by
  unfold postNotice; split <;> (try split) <;> rfl
@[simp] theorem postNotice_tb (n : Notice) : (postNotice n s).tb = s.tb := by
  unfold postNotice; split <;> (try split) <;> rfl
@[simp] theorem postNotice_ref (n : Notice) : (postNotice n s).ref = s.ref := by
  unfold postNotice; split <;> (try split) <;> rfl
@[simp] theorem postNotice_civil (n : Notice) : (postNotice n s).civil = s.civil := by
  unfold postNotice; split <;> (try split) <;> rfl
@[simp] theorem postNotice_days (n : Notice) : (postNotice n s).days = s.days := by
  unfold postNotice; split <;> (try split) <;> rfl
@[simp] theorem postNotice_sun (n : Notice) : (postNotice n s).sun = s.sun := by
  unfold postNotice; split <;> (try split) <;> rfl
@[simp] theorem postNotice_dials (n : Notice) : (postNotice n s).dials = s.dials := by
  unfold postNotice; split <;> (try split) <;> rfl
@[simp] theorem postNotice_bells (n : Notice) : (postNotice n s).bells = s.bells := by
  unfold postNotice; split <;> (try split) <;> rfl
@[simp] theorem postNotice_swings (n : Notice) : (postNotice n s).swings = s.swings := by
  unfold postNotice; split <;> (try split) <;> rfl
@[simp] theorem postNotice_sessions (n : Notice) : (postNotice n s).sessions = s.sessions := by
  unfold postNotice; split <;> (try split) <;> rfl
@[simp] theorem postNotice_tunes (n : Notice) : (postNotice n s).tunes = s.tunes := by
  unfold postNotice; split <;> (try split) <;> rfl
@[simp] theorem postNotice_ordinary (n : Notice) : (postNotice n s).ordinary = s.ordinary := by
  unfold postNotice; split <;> (try split) <;> rfl
@[simp] theorem postNotice_festal (n : Notice) : (postNotice n s).festal = s.festal := by
  unfold postNotice; split <;> (try split) <;> rfl
@[simp] theorem postNotice_strike (n : Notice) : (postNotice n s).strike = s.strike := by
  unfold postNotice; split <;> (try split) <;> rfl
@[simp] theorem postNotice_cal (n : Notice) : (postNotice n s).cal = s.cal := by
  unfold postNotice; split <;> (try split) <;> rfl
@[simp] theorem postNotice_lights (n : Notice) : (postNotice n s).lights = s.lights := by
  unfold postNotice; split <;> (try split) <;> rfl
@[simp] theorem postNotice_supply (n : Notice) : (postNotice n s).supply = s.supply := by
  unfold postNotice; split <;> (try split) <;> rfl
@[simp] theorem postNotice_lines (n : Notice) : (postNotice n s).lines = s.lines := by
  unfold postNotice; split <;> (try split) <;> rfl
@[simp] theorem postNotice_pending (n : Notice) : (postNotice n s).pending = s.pending := by
  unfold postNotice; split <;> (try split) <;> rfl

variable (k : NoticeKind) (i : Nat) (x : BitVec 16)

theorem post_eq : post k i x s =
    postNotice { kind := k, subject := i, detail := x, stamp := s.tb.uptime, label := s.tb.label } s := rfl
@[simp] theorem post_warm_held : (post k i x s).warm.held = s.warm.held := by simp [post_eq]
@[simp] theorem post_warm_since : (post k i x s).warm.since = s.warm.since := by simp [post_eq]
@[simp] theorem post_tb : (post k i x s).tb = s.tb := by simp [post_eq]
@[simp] theorem post_ref : (post k i x s).ref = s.ref := by simp [post_eq]
@[simp] theorem post_civil : (post k i x s).civil = s.civil := by simp [post_eq]
@[simp] theorem post_days : (post k i x s).days = s.days := by simp [post_eq]
@[simp] theorem post_sun : (post k i x s).sun = s.sun := by simp [post_eq]
@[simp] theorem post_dials : (post k i x s).dials = s.dials := by simp [post_eq]
@[simp] theorem post_bells : (post k i x s).bells = s.bells := by simp [post_eq]
@[simp] theorem post_swings : (post k i x s).swings = s.swings := by simp [post_eq]
@[simp] theorem post_sessions : (post k i x s).sessions = s.sessions := by simp [post_eq]
@[simp] theorem post_tunes : (post k i x s).tunes = s.tunes := by simp [post_eq]
@[simp] theorem post_ordinary : (post k i x s).ordinary = s.ordinary := by simp [post_eq]
@[simp] theorem post_festal : (post k i x s).festal = s.festal := by simp [post_eq]
@[simp] theorem post_strike : (post k i x s).strike = s.strike := by simp [post_eq]
@[simp] theorem post_cal : (post k i x s).cal = s.cal := by simp [post_eq]
@[simp] theorem post_lights : (post k i x s).lights = s.lights := by simp [post_eq]
@[simp] theorem post_supply : (post k i x s).supply = s.supply := by simp [post_eq]
@[simp] theorem post_lines : (post k i x s).lines = s.lines := by simp [post_eq]
@[simp] theorem post_pending : (post k i x s).pending = s.pending := by simp [post_eq]
@[simp] theorem post_dial (d : Fin 4) : (post k i x s).dial d = s.dial d := by simp [State.dial]
@[simp] theorem post_bell (b : Fin 16) : (post k i x s).bell b = s.bell b := by simp [State.bell]
@[simp] theorem post_swing (b : Fin 16) : (post k i x s).swing b = s.swing b := by simp [State.swing]
@[simp] theorem post_session (n : Fin 4) : (post k i x s).session n = s.session n := by simp [State.session]
@[simp] theorem post_tune (t : Fin 24) : (post k i x s).tune t = s.tune t := by simp [State.tune]
@[simp] theorem post_event (e : Fin 96) : (post k i x s).event e = s.event e := by simp [State.event]
@[simp] theorem post_light (c : Fin 8) : (post k i x s).light c = s.light c := by simp [State.light]
@[simp] theorem post_toll (t : Fin 4) : (post k i x s).toll t = s.toll t := by simp [State.toll]
@[simp] theorem post_now : (post k i x s).now = s.now := by simp [State.now]
@[simp] theorem post_label : (post k i x s).label = s.label := by simp [State.label]
@[simp] theorem post_timeValid : (post k i x s).timeValid = s.timeValid := by simp [State.timeValid]
@[simp] theorem post_civilNow : (post k i x s).civilNow = s.civilNow := by simp [State.civilNow]
@[simp] theorem post_isHeld : (post k i x s).isHeld = s.isHeld := by simp [State.isHeld]
@[simp] theorem post_onMains : (post k i x s).onMains = s.onMains := by simp [State.onMains]

/-! ### Requests (R186, R191, R192) -/

/-- A request that reaches its owner does what the owner does, and its response goes out. -/
theorem request_reaches {r : Req} {p : Port} {s : State} (tag : Byte) (act : State → Reply) (h : Reaches r p s) :
    request r p tag act s = answered p tag (act s).status (act s).payload (act s).state := by
  obtain ⟨⟨h1, h2, h3⟩, h4⟩ := h
  simp [request, takeRequest, State.isHeld, LinkPort.responding, h1, h2, h3, h4, respond, answered]

/-- A request its port's role does not permit acts on nothing. -/
theorem request_denied {r : Req} {p : Port} {s : State} (tag : Byte) (act : State → Reply) (h : PortFree p s)
    (hp : r.permits p = false) : request r p tag act s = answered p tag .denied [] s := by
  obtain ⟨h1, h2, h3⟩ := h
  simp [request, takeRequest, State.isHeld, LinkPort.responding, h1, h2, h3, hp, respond, answered]

/-- A request in a warm reset is discarded. -/
theorem request_held {r : Req} {p : Port} {s : State} (tag : Byte) (act : State → Reply) (h : s.warm.held ≠ none) :
    request r p tag act s = discardFrame p s := by
  have : s.isHeld = true := by simpa [State.isHeld, Option.isSome_iff_ne_none] using h
  simp [request, takeRequest, this]

/-- A request at a port that is RESPONDING is owed a BUSY. -/
theorem request_responding {r : Req} {p : Port} {s : State} (tag : Byte) (act : State → Reply) (h : s.warm.held = none)
    (hr : (s.port p).responding = true) : request r p tag act s = oweBusy p tag s := by
  simp [request, takeRequest, State.isHeld, h, hr]

/-! ### The lowest of four records (R96, R138) -/

/-- The search for a free record finds the lowest. -/
theorem allFour_lowest {q : Fin 4 → Bool} {k : Fin 4} (h : q k = true) (low : ∀ j, j < k → q j = false) :
    allFour.find? q = some k := by
  rw [show allFour = [0, 1, 2, 3] from rfl]
  match k, h, low with
  | 0, h, _ => simp [h]
  | 1, h, low => simp [h, low 0 (by decide)]
  | 2, h, low => simp [h, low 0 (by decide), low 1 (by decide)]
  | 3, h, low => simp [h, low 0 (by decide), low 1 (by decide), low 2 (by decide)]
/-- The search finds nothing where no record is free. -/
theorem allFour_none {q : Fin 4 → Bool} (h : ∀ k, q k = false) : allFour.find? q = none := by
  simp [List.find?_eq_none, h]

/-! ### Gaps between bytes (R16, R189) -/

/-- A receiver that hunts, or whose last byte is at most 10 ms old, has no gap. -/
theorem frameGapTimeout_none {p : Port} (h : (s.port p).rx = [] ∨ s.now ≤ (s.port p).lastByte + 10) :
    frameGapTimeout p s = s := by
  have : frameGap p s = false := by
    rcases h with h | h
    · simp [frameGap, h]
    · simp [frameGap, Nat.not_lt.mpr h]
  simp [frameGapTimeout, this]
theorem refMessageGapTimeout_none (h : s.ref.rx = [] ∨ s.now ≤ s.ref.lastByte + 10) : refMessageGapTimeout s = s := by
  have : messageGap s = false := by
    rcases h with h | h
    · simp [messageGap, h]
    · simp [messageGap, Nat.not_lt.mpr h]
  simp [refMessageGapTimeout, this]

/-! ### Holders (R65) -/

@[simp] theorem changeHolder_holder (b : Fin 16) (h : Holder) : ((changeHolder b h s).bell b).holder = h := by
  simp [changeHolder]
theorem changeHolder_other {b c : Fin 16} (h : Holder) (hc : c ≠ b) : (changeHolder b h s).bell c = s.bell c := by
  simp [changeHolder, State.setBell_bell, hc]
/-- A holder that changes posts its notice first and then tells the guard. -/
theorem setHolder_change {b : Fin 16} {h : Holder} (hb : (s.bell b).holder ≠ h) : setHolder b h s =
    if h = .free then guardRelease b (changeHolder b h s)
    else if (s.bell b).holder = .free then guardEngage b (changeHolder b h s) else changeHolder b h s := by
  simp [setHolder, hb]

end Sys2Proof.Machine
end

