-- ==== Sys2Proof/Laws/Queue.lean ====
section
/-! SUPPORT. What the operations on the strike queue can do, said once: insertion at its due time, removal and
replacement by insertion sequence (R132). -/

namespace Sys2Proof.Machine

/-! ### Insertion -/

@[simp] theorem mem_insertEntry {e x : Entry} {q : List Entry} : x ∈ insertEntry e q ↔ x = e ∨ x ∈ q := by
  induction q with
  | nil => simp [insertEntry]
  | cons y ys ih => unfold insertEntry; split <;> simp [ih]; tauto

@[simp] theorem length_insertEntry (e : Entry) (q : List Entry) : (insertEntry e q).length = q.length + 1 := by
  induction q with
  | nil => rfl
  | cons y ys ih => unfold insertEntry; split <;> simp [ih]

/-- An insertion keeps the order of due times. -/
theorem insertEntry_ordered (e : Entry) {q : List Entry} (h : q.Pairwise (fun a b => a.due ≤ b.due)) :
    (insertEntry e q).Pairwise (fun a b => a.due ≤ b.due) := by
  induction q with
  | nil => simp [insertEntry]
  | cons y ys ih =>
    obtain ⟨h1, h2⟩ := List.pairwise_cons.mp h
    unfold insertEntry; split
    case isTrue =>
      refine List.pairwise_cons.mpr ⟨fun x hx => ?_, ih h2⟩
      rcases mem_insertEntry.mp hx with rfl | hx
      · assumption
      · exact h1 x hx
    case isFalse late =>
      have before : e.due ≤ y.due := Nat.le_of_lt (Nat.not_le.mp late)
      refine List.pairwise_cons.mpr ⟨fun x hx => ?_, h⟩
      rcases List.mem_cons.mp hx with rfl | hx
      · exact before
      · exact Nat.le_trans before (h1 x hx)

/-- An insertion keeps the entries, in some order. -/
theorem insertEntry_perm (e : Entry) (q : List Entry) : (insertEntry e q).Perm (e :: q) := by
  induction q with
  | nil => exact List.Perm.refl _
  | cons y ys ih =>
    unfold insertEntry; split
    · exact (ih.cons y).trans (List.Perm.swap e y ys)
    · exact List.Perm.refl _

variable (s : State)

/-- Enqueueing one stroke inserts one PENDING entry under the next insertion sequence. -/
theorem enqueue_queue (due : Instant) (b : Fin 16) (o : Origin) (number : Nat) :
    (enqueue due b o number s).strike.queue = insertEntry { due := due, bell := b, origin := o, number := number, substituted := false, seq := s.strike.nextSeq, wait := .pending } s.strike.queue := rfl
@[simp] theorem enqueue_nextSeq (due : Instant) (b : Fin 16) (o : Origin) (number : Nat) :
    (enqueue due b o number s).strike.nextSeq = s.strike.nextSeq + 1 := rfl

/-! ### Removal and replacement -/

theorem mem_removeEntry {seq : Nat} {x : Entry} : x ∈ (removeEntry seq s).strike.queue ↔ x ∈ s.strike.queue ∧ x.seq ≠ seq := by
  simp [removeEntry, State.setQueue]
theorem length_removeEntry_le (seq : Nat) : (removeEntry seq s).strike.queue.length ≤ s.strike.queue.length := by
  simp only [removeEntry, State.setQueue]; exact List.length_filter_le _ _
theorem removeEntry_ordered (seq : Nat) (h : s.strike.queue.Pairwise (fun a b => a.due ≤ b.due)) :
    (removeEntry seq s).strike.queue.Pairwise (fun a b => a.due ≤ b.due) := by
  simp only [removeEntry, State.setQueue]; exact h.filter _

@[simp] theorem length_replaceEntry (e : Entry) : (replaceEntry e s).strike.queue.length = s.strike.queue.length := by
  simp [replaceEntry, State.setQueue]
/-- A replacement keeps every insertion sequence at its place. -/
@[simp] theorem replaceEntry_seqs (e : Entry) : (replaceEntry e s).strike.queue.map (·.seq) = s.strike.queue.map (·.seq) := by
  simp only [replaceEntry, State.setQueue, List.map_map]
  apply List.map_congr_left
  intro x _
  by_cases h : x.seq = e.seq <;> simp [h]

end Sys2Proof.Machine
end

