-- ==== Sys2Proof/Laws/Seconds.lean ====
section
/-! SUPPORT. What the beginning of a second does to the Time Base, the civil time and the receiver, said once per
operation. -/

namespace Sys2Proof.Machine

variable (s : State)

/-! ### Discipline state -/

theorem setDisc_same {d : Discipline} (h : s.tb.disc = d) : setDisc d s = s := by simp [setDisc, h]
/-- A change of state posts STATE_CHANGED and, out of ACQUIRE, returns the good count to 0 (R4, R9). -/
theorem setDisc_change {d : Discipline} (h : s.tb.disc ≠ d) : setDisc d s = post .stateChanged 0 (pair s.tb.disc.code d.code)
    { s with tb := { s.tb with disc := d, good := if s.tb.disc = .acquire then 0 else s.tb.good } } := by
  simp [setDisc, h, State.setTb]
theorem setDisc_tb (d : Discipline) : (setDisc d s).tb =
    { s.tb with disc := d, good := if s.tb.disc = d then s.tb.good else if s.tb.disc = .acquire then 0 else s.tb.good } := by
  by_cases h : s.tb.disc = d
  · subst h; simp [setDisc]
  · simp [setDisc_change s h, h]
@[simp] theorem setDisc_ref (d : Discipline) : (setDisc d s).ref = s.ref := (setDisc_frame s d).ref
@[simp] theorem setDisc_civil (d : Discipline) : (setDisc d s).civil = s.civil := (setDisc_frame s d).civil
@[simp] theorem setDisc_held (d : Discipline) : (setDisc d s).warm.held = s.warm.held := (setDisc_frame s d).warmHeld

/-! ### The tests at a boundary -/

/-- The holdover count rises, and at 86,400 moves HOLDOVER to FREE (R15). -/
theorem holdoverRise_tb : (holdoverRise s).tb =
    if s.tb.disc = .holdover then
      { s.tb with holdover := s.tb.holdover + 1, disc := if 86400 ≤ s.tb.holdover + 1 then .free else .holdover }
    else s.tb := by
  unfold holdoverRise
  dsimp only
  split
  · split <;> simp_all [setDisc_tb, Config.holdoverLimit]
  · rfl
/-- The moves at the missed limit (R14). -/
theorem missedMove_tb : (missedMove s).tb =
    if s.tb.disc = .locked then { s.tb with disc := .holdover, holdover := 0 }
    else if s.tb.disc = .acquire then { s.tb with disc := .free, good := 0 } else s.tb := by
  unfold missedMove
  split <;> simp_all [setDisc_tb]
/-- The missed-pulse test of a second that has ended (R14). -/
theorem missedTest_tb :
    let missing := s.ref.mode ≠ .off ∧ s.tb.curMark = false
    let missed := if missing then min 255 (s.tb.missed + 1) else s.tb.missed
    let t := { s.tb with missed := missed, prevMark := s.tb.curMark, curMark := false }
    (missedTest s).tb = if missing ∧ 8 ≤ missed then
      (if s.tb.disc = .locked then { t with disc := .holdover, holdover := 0 }
       else if s.tb.disc = .acquire then { t with disc := .free, good := 0 } else t)
    else t := by
  unfold missedTest
  dsimp only
  by_cases h : s.ref.mode = .off <;> cases h2 : s.tb.curMark <;> simp [h, Config.missedLimit]
  split <;> simp_all [missedMove_tb]
  all_goals rfl
/-- The second that begins takes a waiting pending label, and it is cleared (R21). -/
theorem TimeBase.takePending_eq (t : TimeBase) :
    t.takePending = { t with label := if t.pendingLabel = none then t.label else t.pendingLabel, pendingLabel := none } := by
  cases h : t.pendingLabel <;> simp [TimeBase.takePending, h]
  rw [← h]
/-- A first label moves UNSET on (R21). -/
theorem leaveUnset_tb (waited : Bool) : (leaveUnset waited s).tb =
    if waited = true ∧ s.tb.disc = .unset then
      { s.tb with disc := if s.ref.mode = .off then .free else .acquire, good := if s.ref.mode = .off then s.tb.good else 0 }
    else s.tb := by
  unfold leaveUnset
  split <;> simp_all
  split <;> simp_all [setDisc_tb]
@[simp] theorem holdoverRise_ref : (holdoverRise s).ref = s.ref := (holdoverRise_frame s).ref
@[simp] theorem missedTest_ref : (missedTest s).ref = s.ref := (missedTest_frame s).ref
/-- A second begins by fixing its length, then its label, then the tests of the second before (R1, R3, R14, R15, R21). -/
theorem beginSecond_tb (l : Option Label) : (beginSecond l s).tb =
    (leaveUnset s.tb.pendingLabel.isSome
      (missedTest (holdoverRise (s.setTb { s.tb.newSecond with label := l }.takePending)))).tb := rfl

/-! ### Within a beginning of a second -/

/-- Everything after the labelling of a second leaves the Time Base but for the model's own mark (R33, R39, R186). -/
theorem newSecondTail_tb (old : Option Label) (delta : Option Int) :
    (newSecondTail old delta s).tb = { s.tb with validAtBoundary := s.timeValid } := by
  have h1 : (if changeDue s then applyOffset s else s).tb = s.tb := by
    split
    · exact (applyOffset_frame s).tb
    · rfl
  unfold newSecondTail
  dsimp only
  generalize (if changeDue s then applyOffset s else s) = s1 at *
  generalize (s1.timeValid && !s1.tb.validAtBoundary) = bv
  have h2 := (dateChange_frame s1 old bv).tb
  generalize dateChange old bv s1 = s2 at *
  have h3 : (s2.setTb { s2.tb with validAtBoundary := s2.timeValid }).tb = { s.tb with validAtBoundary := s.timeValid } := by
    simp [State.timeValid, h1, h2]
  generalize s2.setTb { s2.tb with validAtBoundary := s2.timeValid } = s3 at *
  split
  · exact h3
  · rw [(blocksBoundary_frame s3 old delta _ _).tb, h3]

/-- The time step's notice and the tail leave the Time Base alike. -/
theorem finishSecond_tb (old cmp : Option Label) :
    (finishSecond old cmp s).tb = { s.tb with validAtBoundary := s.timeValid } := by
  have h : ∀ d, (postStep d s).tb = s.tb := fun d => (postStep_frame s d).tb
  simp [finishSecond, newSecondTail_tb, h, State.timeValid]

end Sys2Proof.Machine
end

