-- ==== Sys2Proof/Tests/Slice0.lean ====
section
/-! SUPPORT. Small tests of the model: ill-formed commands, the manual's worked cases, and for every statement
with hypotheses a state and operands that meet them. Expected values are the manual's. -/

namespace Sys2Proof.Tests

open Sys2Proof Sys2Proof.Machine

set_option Elab.async false

/-! ### Ill-formed commands -/

theorem test_illformed_time_and_ports : [
    Instr.noticeRouteSet .l1 0 256 1 10, .noticeRouteSet .l1 0 255 256 10, .noticeRouteSet .l1 0 255 1 256, .partConfig .l1 0 256,
    .timeSet .l1 0 65536 0, .timeSet .l1 0 0 16777216, .refModeSet .l1 0 256, .offsetSet .l1 0 32768 0 0,
    .offsetSet .l1 0 (-32769) 0 0, .offsetSet .l1 0 0 65536 0, .offsetSet .l1 0 0 0 16777216, .civilConfig .l1 0 256,
    .dayclassRead .l1 0 256, .dayclassWrite .l1 0 256 0 [], .dayclassWrite .l1 0 0 256 [],
    .dayclassWrite .l1 0 0 0 [{ year := 65536, month := 1, day := 1, cls := 0 }],
    .dayclassWrite .l1 0 0 0 [{ year := 2025, month := 256, day := 1, cls := 0 }],
    .dayclassWrite .l1 0 0 0 [{ year := 2025, month := 1, day := 256, cls := 0 }],
    .dayclassWrite .l1 0 0 0 [{ year := 2025, month := 1, day := 1, cls := 256 }],
    .dayclassWrite .l1 0 0 0 (List.replicate 50 { year := 2025, month := 1, day := 1, cls := 0 }),
    .sunRead .l1 0 65536 1, .sunRead .l1 0 1 256, .sunWrite .l1 0 256 1 [], .sunWrite .l1 0 0 65536 [],
    .sunWrite .l1 0 0 1 (List.replicate 62 { rise := 0, set := 0 }), .sunWrite .l1 0 0 1 [{ rise := 65536, set := 0 }],
    .sunWrite .l1 0 0 1 [{ rise := 0, set := 65536 }]].all (fun i => !i.wellFormed) = true := by decide

theorem test_illformed_dials_bells_rings : (let d : DialArgs := { dial := 1, revision := 255, fitted := 1, confirm := 0, width := 500, fast := 2, hold := 240 }
    let b : BellArgs := { bell := 1, revision := 255, hammer := 1, guard := 0, drive := 0, sensor := 0, policy := 0, substitute := 0, width := 60, recovery := 400, travel := 5, period := 200, settle := 8 }
    [Instr.dialRead .l1 0 256, .dialSet .l1 0 256 0 0, .dialSet .l1 0 1 65536 0, .dialSet .l1 0 1 0 256, .dialStop .l1 0 256,
      .dialStart .l1 0 256, .bellRead .l1 0 256, .claim .l1 0 256 1, .claim .l1 0 1 65536, .release .l1 0 65536,
      .bellFaultClear .l1 0 256, .ringRead .l1 0 256, .ringStart .l1 0 65536 6 20, .ringStart .l1 0 1 256 20,
      .ringStart .l1 0 1 6 256, .ringCancel .l1 0 256].all (fun i => !i.wellFormed) &&
    [{ d with dial := 256 }, { d with revision := 256 }, { d with fitted := 256 }, { d with confirm := 256 }, { d with width := 65536 },
      { d with fast := 256 }, { d with hold := 65536 }].all (fun a => !(Instr.dialConfig .l1 0 a).wellFormed) &&
    [{ b with bell := 256 }, { b with revision := 256 }, { b with hammer := 256 }, { b with guard := 256 }, { b with drive := 256 },
      { b with sensor := 256 }, { b with policy := 256 }, { b with substitute := 256 }, { b with width := 256 },
      { b with recovery := 65536 }, { b with travel := 256 }, { b with period := 65536 }, { b with settle := 256 }].all
      (fun a => !(Instr.bellConfig .l1 0 a).wellFormed)) = true := by decide

theorem test_illformed_tunes_and_strikes : (let a : PlanArgs := { plan := 0, revision := 255, first := 1, second := 2, third := 3, hour := 4, bell := 8, gap := 2000, pace := 2500 }
    [Instr.tuneRead .l1 0 256 1 1, .tuneRead .l1 0 1 256 1, .tuneRead .l1 0 1 1 256, .tuneOpen .l1 0 256 5 255, .tuneOpen .l1 0 1 256 255,
      .tuneOpen .l1 0 1 5 256, .tuneWrite .l1 0 256 1 [], .tuneWrite .l1 0 1 256 [], .tuneWrite .l1 0 1 1 [{ bell := 256, offset := 0 }],
      .tuneWrite .l1 0 1 1 [{ bell := 1, offset := 65536 }], .tuneWrite .l1 0 1 1 (List.replicate 82 { bell := 1, offset := 0 }),
      .tuneClose .l1 0 256, .tuneAbort .l1 0 256, .tuneDelete .l1 0 256 0, .tuneDelete .l1 0 1 256, .planRead .l1 0 256,
      .strikeStatus .l1 0 256, .strike .l2 0 256 1 500, .strike .l2 0 1 256 500, .strike .l2 0 1 1 65536, .tollStart .l2 0 256 4 0 0,
      .tollStart .l2 0 1 256 0 0, .tollStart .l2 0 1 4 65536 0, .tollStart .l2 0 1 4 0 256, .tollStop .l2 0 256,
      .silenceSet .l2 0 256].all (fun i => !i.wellFormed) &&
    [{ a with plan := 256 }, { a with revision := 256 }, { a with first := 256 }, { a with second := 256 }, { a with third := 256 },
      { a with hour := 256 }, { a with bell := 256 }, { a with gap := 65536 }, { a with pace := 65536 }].all
      (fun a => !(Instr.planWrite .l1 0 a).wellFormed)) = true := by decide

/-- An EVENT_WRITE and a LIGHT_CONFIG that fit, to be spoilt and used below. -/
def eventArgs : EventArgs where
  event := 5
  revision := 255
  kind := 1
  selector := 0
  weekdays := 0x7F
  classes := 0x0F
  year := 2025
  month := 1
  day := 1
  anchor := 0
  minute := 539
  sunOffset := 0
  duration := 1
  ringMask := 0
  stagger := 6
  tollBell := 12
  interval := 4
  count := 10
  tune := 1
  channels := 1
  scope := 0
def lightArgs : LightArgs where
  channel := 1
  revision := 255
  configured := 1
  kind := 1
  warmUp := 0xFFFF
  restrike := 0xFFFF
  follow := 0
  sense := 1

theorem test_illformed_events_and_lights : (let a := eventArgs
    let l := lightArgs
    [Instr.eventRead .l1 0 256, .eventDelete .l1 0 256 255, .eventDelete .l1 0 1 256, .lightRead .l1 0 256, .lightOverride .l3 0 256 0 0,
      .lightOverride .l3 0 1 256 0, .lightOverride .l3 0 1 0 65536, .lightFaultClear .l3 0 256].all (fun i => !i.wellFormed) &&
    [{ a with event := 256 }, { a with revision := 256 }, { a with kind := 256 }, { a with selector := 256 }, { a with weekdays := 256 },
      { a with classes := 256 }, { a with year := 65536 }, { a with month := 256 }, { a with day := 256 }, { a with anchor := 256 },
      { a with minute := 65536 }, { a with sunOffset := 32768 }, { a with duration := 65536 }, { a with ringMask := 65536 },
      { a with stagger := 256 }, { a with tollBell := 256 }, { a with interval := 256 }, { a with count := 65536 }, { a with tune := 256 },
      { a with channels := 256 }, { a with scope := 256 }].all (fun a => !(Instr.eventWrite .l1 0 a).wellFormed) &&
    [{ l with channel := 256 }, { l with revision := 256 }, { l with configured := 256 }, { l with kind := 256 },
      { l with warmUp := 65536 }, { l with restrike := 65536 }, { l with follow := 256 }, { l with sense := 256 }].all
      (fun a => !(Instr.lightConfig .l1 0 a).wellFormed)) = true := by decide

/-! ### States to start from -/

/-- The cold state with the supply on MAINS. -/
def mains : State := { State.reset with supply := { state := .mains } }
/-- A state at another run time. -/
def timed (t : Instant) (s : State) : State := { s with tb := { s.tb with uptime := t } }
/-- A state whose current second carries a label, in a discipline state. -/
def dated (disc : Discipline) (day sec : Nat) (s : State) : State :=
  { s with tb := { s.tb with disc := disc, label := some { day := day, sec := sec } } }
/-- A state at the last count of its second. -/
def lastCount (s : State) : State := { s with tb := { s.tb with count := s.tb.len - 1, ms := 999 } }
/-- The state after a command. -/
def after (c : Instr) (s : State) : State :=
  match exec c s with
  | .next t => t
  | _ => s
/-- A state in a warm reset held since run time 0. -/
def held (s : State) : State := { s with warm := { s.warm with held := some 0 } }
def configure (b : Fin 16) (c : BellConfig) (s : State) : State := s.setBell b { s.bell b with config := c }
def hold (b : Fin 16) (h : Holder) (s : State) : State := s.setBell b { s.bell b with holder := h }
/-- Hammer, guard, swing drive and sensor fitted, cold timing values. -/
def fullBell : BellConfig := { hammer := true, guardFitted := true, drive := true, sensor := true }

/-! ### The manual's worked cases -/

/-- Chapter 12: the frame of L2's ROPES claim on bells 3 and 4, all but its check. -/
theorem test_claim_frame : (frame 0x2C 0x32 [0x00, 0x00, 0x0C]).take 7 = [0xA5, 0x05, 0x2C, 0x32, 0x00, 0x00, 0x0C] ∧
    (frame 0x2C 0x32 [0x00, 0x00, 0x0C]).length = 9 := by decide
/-- The check of the digits 1 to 9 for the parameters R189 names (the published check value of that CRC). -/
theorem test_crc_check_value : crc16 [0x31, 0x32, 0x33, 0x34, 0x35, 0x36, 0x37, 0x38, 0x39] = 0x29B1#16 := by decide +kernel
/-- Chapter 2: 26 October 2025 is day 9,430, a Sunday, sun ordinal 300; 25 October is day 9,429. -/
theorem test_day_9430 : dayNumber { year := 2025, month := 10, day := 26 } = 9430 ∧ weekday 9430 = 6 ∧ sunOrdinal 9430 = 300 ∧
    dateOf 9429 = { year := 2025, month := 10, day := 25 } := by decide +kernel
/-- 7.5: 20 April 2025 is day 9,241, and its civil 11:00 under +60 has quarter index 887,176. -/
theorem test_easter_quarter : dayNumber { year := 2025, month := 4, day := 20 } = 9241 ∧
    quarterIndex { day := 9241, sec := 36000 } = 887176 ∧
    civilOf 60 { day := 9241, sec := 36000 } = { day := 9241, sec := 39600 } := by decide +kernel
/-- Chapter 3: behind after an outage, the full decision at 11:20:41 finds d = 133. -/
theorem test_dial_behind : dialDistance (dialTarget { day := 9000, sec := 40841 }) 1228 = 133 := by decide
/-- Chapter 6: the tune with a chord has its notes at 0, 450, 900, 1,800 and 1,800 ms. -/
theorem test_chord_times : (noteTimes [⟨5, 0⟩, ⟨4, 45⟩, ⟨3, 45⟩, ⟨0, 90⟩, ⟨7, 0⟩]).map (·.2) = [0, 450, 900, 1800, 1800] ∧
    tuneUnits [⟨5, 0⟩, ⟨4, 45⟩, ⟨3, 45⟩, ⟨0, 90⟩, ⟨7, 0⟩] = 180 := by decide

/-- The worked case of trim, slew and a learning pulse, at its first boundary. -/
def learning : State := { mains with
  ref := { mode := .pulse }
  tb := { disc := .acquire, label := some { day := 8950, sec := 0 }, freq := 1320000, residue := 50000, slew := -6000, good := 1,
          uptime := 100000, curMark := true } }
theorem test_trim_and_slew : let t := (after .localSecondBoundary (lastCount learning)).tb
    (t.len, t.residue, t.slew) = (4190130, 59280, -1806) := by decide +kernel
theorem test_learning_pulse : let t := (after .refPulse (timed 103000 { learning with
      tb := { learning.tb with slew := 0, good := 2, prevMark := true, count := 2500, len := 4194324 } })).tb
    (t.freq, t.slew, t.disc) = (1480000, 2500, .locked) := by decide +kernel
theorem test_learning_pulse_behind : let t := (after .refPulse (timed 103000 { learning with
      tb := { learning.tb with slew := 0, good := 2, prevMark := true, count := 4193000, len := 4194324 } })).tb
    (t.freq, t.slew, t.disc) = (1235264, -1324, .locked) := by decide +kernel
/-- The worked case of a phase step behind: run time rises by 716 in the cut second, the label by one. -/
theorem test_phase_step_behind : let s : State := { mains with
      ref := { mode := .pulse }
      tb := { disc := .acquire, label := some { day := 8950, sec := 43199 }, len := 4194324, count := 3000000, ms := 715,
              uptime := 100715 } }
    let t := (after .refPulse s).tb
    (t.label, t.uptime, t.slew, t.good) = (some { day := 8950, sec := 43200 }, 100716, 0, 0) := by decide +kernel

/-- Chapter 2: the pending offset change is applied at its instant, and civil time is 01:00:00 again. -/
theorem test_offset_applied : let s := lastCount (dated .locked 9430 3599 { mains with
      civil := { offset := 60, change := some { offset := 0, instant := .label { day := 9430, sec := 3600 } } } })
    let t := after .localSecondBoundary s
    t.civilNow = some { day := 9430, sec := 3600 } ∧ t.civil.change = none := by decide +kernel
/-- Chapter 2: the write to the Day-Class List leaves 1 and 2 November and 8 December at revision 18. -/
theorem test_dayclass_write : let s := dated .locked 9430 40000 { mains with
      days := { revision := 17, entries := [{ date := 9432, cls := .feast }, { date := 9436, cls := .solemn }] } }
    (after (.dayclassWrite .l1 0 17 0 [{ year := 2025, month := 12, day := 8, cls := 1 }, { year := 2025, month := 10, day := 28, cls := 0 },
      { year := 2025, month := 11, day := 2, cls := 2 }]) s).days =
      { revision := 18, entries := [{ date := 9436, cls := .solemn }, { date := 9437, cls := .solemn }, { date := 9473, cls := .feast }] } := by
  decide +kernel
/-- Days 0, 60,000 and 30,000 written in UNSET have no order on the circle (R31): they stand from day 0 on, and once day 0
is today those not before it ascend; days across the wrap ascend through it. -/
theorem test_dates_on_the_circle : let e (d : Nat) : DayEntry := { date := d, cls := .feast }
    let s := (mains : State)
    (writtenDays [] [e 0, e 60000, e 30000] s).map (·.date) = [0, 30000, 60000] ∧
    ((pruneDays 0 { s with days := { entries := [e 0, e 30000, e 60000] } }).days.entries.map (·.date)) = [0, 30000] ∧
    (writtenDays [e 65100] [e 0, e 65000] (dated .locked 64900 0 s)).map (·.date) = [65000, 65100, 0] := by decide +kernel
/-- Chapter 4: a ROPES claim grants bell 3 and lets its guard run, makes bell 4's guard wait for its pulse, and refuses bell 9. -/
theorem test_claim_in_an_hour_strike : let s := configure 8 { hammer := true } (configure 2 fullBell ((configure 3 fullBell
      (timed 1000020 mains)).setBell 3 { config := fullBell, lastStrike := some 1000000, pulseEnd := some 1000060 }))
    let t := after (.claim .l2 0 0 0x10C) s
    (t.bell 2).guard.deadline = some 1005020 ∧ (t.bell 3).guard.motion = .waitingPulse ∧ (t.bell 3).holder = .ropes ∧
      (t.bell 8).holder = .free := by decide +kernel
/-- Chapter 5: bell 1's fourth interval brings it up with a measured period of 2,337 ms. -/
theorem test_bell_comes_up : let s := (configure 0 fullBell (timed 1013350 mains)).setSwing 0 {
      state := .starting, motor := true, lastPulse := some 1011300, history := [2900, 2300, 2100], qualifying := 2, motorOn := some 1002400 }
    let t := after (.sensorPulse 0) s
    (t.swing 0).state = .swinging ∧ (t.port .l1).queue.map (·.detail) = [2337#16] := by decide +kernel
/-- Chapter 6: tune 4 is opened at 72 with 16 places free and 64 of its own; 8 remain. -/
theorem test_open_with_a_full_pool : let valid (k : Nat) : Tune := { content := .valid (List.replicate k { bell := 0, offset := 1 }), revision := 6 }
    let s := [(0, 5), (1, 32), (2, 48), (3, 64), (4, 128), (5, 128), (6, 128), (7, 128), (8, 128), (9, 128), (10, 91)].foldl
      (fun (s : State) (x : Fin 24 × Nat) => s.setTune x.1 (valid x.2)) mains
    s.freeCount = 16 ∧ (after (.tuneOpen .l1 0 4 72 6) s).freeCount = 8 := by decide +kernel
/-- 7.5: bell 4's entry is rebound to bell 3, found held too, and skipped; nothing stays queued. -/
theorem test_substituted_then_skipped : let s := hold 2 .ropes (hold 3 .ropes (configure 2 { hammer := true, policy := .substitute 4 }
      (configure 3 { hammer := true, policy := .substitute 2 } mains)))
    let t := after .strikeEntryDue (s.setQueue [{ due := 0, bell := 3, origin := .quarter, number := 9, substituted := false, seq := 0, wait := .pending }])
    t.strike.queue = [] ∧ (t.port .l1).queue.map (fun n => (n.kind, n.subject)) = [(.strikeSubstituted, 4), (.strikeSkipped, 3)] := by
  decide +kernel
/-- Chapter 8: after a step of +90 s the TOLL event of the crossed minute 08:59 is fired late, and its toll begins. -/
theorem test_forward_relabel : let s := configure 11 { hammer := true } ((dated .acquire 9005 32411 mains).setEvent 4
      { valid := true, kind := .toll 11 4 10, selector := .weekly 0x7F 0xF, anchor := .civil 539 })
    let t := fireTest 9005 { day := 9005, minute := 539 } true 4 s
    (t.event 4).lastFired = some 9005 ∧ (t.toll 0).isSome = true ∧ (t.port .l1).queue.map (·.detail) = [0x1800#16] := by decide +kernel
/-- Chapter 9: at 790 s channel 2's lamp is found failed, 190 s after its switch-on. -/
theorem test_lamp_failed : let s := (timed 790000 mains).setLight 1 {
      configured := true, sense := true, state := .lit, switchOn := some 600000, watch := .running (some 780000) }
    let t := after (.lampFailed 1) s
    (t.light 1).state = .failed ∧ (t.light 1).restrikeExpiry = some 1390000 ∧
      ((t.port .l3).queue.map (·.detail)).head? = some (0x8000#16 ||| 190#16) := by decide +kernel
/-- Chapter 10: a BATTERY period of 128,800 ms is reported as 128 s into the reset notice list. -/
theorem test_restored_while_held : let s : State := { held State.reset with
      supply := { state := .battery, since := 1200, debounce := some 125000 } }
    ((after .mainsRestored (timed 130000 s)).warm.notices.map (·.detail)) = [128#16] := by decide +kernel
/-- 11: a STRIKE that completes while L2 is responding is owed a BUSY, and inserts nothing. -/
theorem test_busy_panel : let s := after (.claim .l2 1 0 0xC) (configure 2 fullBell (configure 3 fullBell mains))
    let t := after (.strike .l2 9 1 1 1000) s
    s.attn .l2 = true ∧ (t.port .l2).owed = [9] ∧ t.strike.queue = [] := by decide +kernel

/-! ### Every hypothesis of the statements is met

One theorem for each statement, its clauses in the statement's order: a state and operands that meet the clause's
hypotheses together. -/

theorem of_some {α : Type} {o : Option α} {a : α} {P : α → Prop} (h : o = some a) (p : P a) : ∀ x, o = some x → P x := by
  intro x hx; rw [h] at hx; cases hx; exact p
theorem of_none {α : Type} {o : Option α} {P : α → Prop} (h : o = none) : ∀ x, o = some x → P x := by
  intro x hx; rw [h] at hx; cases hx
theorem not_editing {t : Tune} (h : t.isEditing = false) : ∀ xs x, t.content ≠ .editing xs x := by
  intro xs x e; simp [Tune.isEditing, e] at h

theorem test_met_EmptyQueueLetsTimePass : mains.pending = [] ∧
    due (timed 200 { mains with supply := { mains.supply with debounce := some 0 } }) ≠ [] ∧
    (due State.reset = [] ∧ State.reset.tb.count + 1 < State.reset.tb.len) ∧
    (let s : State := { State.reset with tb := { State.reset.tb with count := 4194302 } }
     due s = [] ∧ s.tb.count + 1 < s.tb.len) ∧
    (due (lastCount State.reset) = [] ∧ (lastCount State.reset).tb.len ≤ (lastCount State.reset).tb.count + 1) := by decide +kernel

theorem test_met_RunTimeIsNeverStepped : (∃ t, exec .localSecondBoundary (lastCount State.reset) = .next t) ∧
    (∃ t, exec .missedLimit State.reset = .next t) ∧ Instr.missedLimit ≠ .coldStart ∧
    Instr.missedLimit ≠ .localSecondBoundary ∧ Instr.missedLimit ≠ .offsetChangeApplied ∧ Instr.missedLimit ≠ .refPulse :=
  ⟨⟨_, rfl⟩, ⟨_, rfl⟩, by decide⟩

theorem test_met_EachSettingHasItsOwnWriter : (∃ t, exec (.timeRead .l1 0) State.reset = .next t) ∧
    Instr.timeRead .l1 0 ≠ .coldStart ∧ (∀ p bs, Instr.timeRead .l1 0 ≠ .frameComplete p bs) ∧
    Instr.timeRead .l1 0 ≠ .refPulse ∧ (∀ p g m, Instr.timeRead .l1 0 ≠ .refModeSet p g m) ∧
    (∀ p g k, Instr.timeRead .l1 0 ≠ .civilConfig p g k) ∧ (∀ p g a, Instr.timeRead .l1 0 ≠ .bellConfig p g a) ∧
    (∀ p g a, Instr.timeRead .l1 0 ≠ .planWrite p g a) ∧ (∀ p g v, Instr.timeRead .l1 0 ≠ .silenceSet p g v) ∧
    (∀ p g k, Instr.timeRead .l1 0 ≠ .partConfig p g k) ∧ (∀ p g r f es, Instr.timeRead .l1 0 ≠ .sunWrite p g r f es) ∧
    (Instr.timeRead .l1 0).request.isSome := by
  refine ⟨⟨_, rfl⟩, ?_⟩; simp [Instr.request]

/-- A port that sends, and one that owes four BUSY responses. -/
def sending : State := mains.setPort .l1 { mains.port .l1 with sending := some [] }
def owing (n : Nat) : State := mains.setPort .l1 { mains.port .l1 with sending := some [], owed := List.replicate n 0 }

theorem test_met_RequestsOutOfTurnActOnNothing : (Instr.timeRead .l1 7).request = some (.timeRead, .l1, 7) ∧
    (held mains).warm.held ≠ none ∧
    (sending.warm.held = none ∧ ((sending.port .l1).sending ≠ none ∨ (sending.port .l1).owed ≠ []) ∧ (sending.port .l1).owed.length < 4) ∧
    ((owing 3).port .l1).owed.length < 4 ∧ ((owing 4).warm.held = none ∧ 4 ≤ ((owing 4).port .l1).owed.length) := by decide +kernel

theorem test_met_RolesPermitOnlyTheirRequests : (Instr.strike .l1 7 1 1 1000).request = some (.strike, .l1, 7) ∧
    PortFree .l1 mains ∧ Req.strike.permits .l1 = false := by decide +kernel

theorem test_met_ReadsAnswerASnapshotAndChangeNothing : PortFree .l1 mains ∧ PortFree .l2 mains ∧ PortFree .l3 mains ∧
    (0 = 0 ∨ 4 < 0) ∧ (5 = 0 ∨ 4 < 5) ∧ (17 = 0 ∨ 16 < 17) ∧ (1 ≤ 1 ∧ 64 ≤ 64) ∧ (25 = 0 ∨ 24 < 25 ∨ 1 = 0 ∨ 64 < 1) ∧
    (1 = 0 ∨ 24 < 1 ∨ 0 = 0 ∨ 64 < 1) ∧ (1 = 0 ∨ 24 < 1 ∨ 1 = 0 ∨ 64 < 65) ∧ 1 < 2 ∧ (97 = 0 ∨ 96 < 97) ∧ (9 = 0 ∨ 8 < 9) := by
  decide +kernel

theorem test_met_NoticesReachEveryRoutingQueue : mains.warm.held = none ∧ (held mains).warm.held ≠ none := by decide +kernel

theorem test_met_EncodedRequestsDecodeToThemselves : (Instr.eventWrite .l1 7 eventArgs).wellFormed = true ∧
    (Instr.eventWrite .l1 7 eventArgs).request = some (.eventWrite, .l1, 7) ∧
    (Instr.tuneWrite .l1 7 1 1 (List.replicate 81 { bell := 255, offset := 65535 })).wellFormed = true := by decide +kernel

theorem test_met_AFrameRunsTheRequestItCarries : (Instr.strike .l2 255 16 12 65535).wellFormed = true ∧
    (Instr.strike .l2 255 16 12 65535).request = some (.strike, .l2, 255) ∧ (mains.port .l2).rx = [] := by decide +kernel

/-- A port in the midst of a frame. -/
def receiving : State := mains.setPort .l1 { mains.port .l1 with rx := [0xA5], lastByte := 0 }

theorem test_met_BadFramesAreRefusedOrDiscarded :
    (PortFree .l2 mains ∧ (mains.port .l2).rx = [] ∧ (List.replicate 248 (0 : Byte)).length ≤ 248) ∧ Req.ofCode 0x05 = none ∧
    (Req.ofCode 0x04 = some .partConfig ∧ Req.partConfig.permits .l2 = false) ∧
    (Req.ofCode 0x51 = some .strike ∧ Req.strike.permits .l2 = true ∧ Req.strike.lengthOk [1, 2, 3] = false) ∧
    (∀ b ∈ [(0x00 : Byte), 0xA4, 0xA6], b ≠ 0xA5#8) ∧
    (2 ≤ (2 : Byte).toNat ∧ (2 : Byte).toNat ≤ 250 ∧ [(0x2C : Byte), 0x32].length = (2 : Byte).toNat ∧
      (0 : Byte).toNat * 256 + (0 : Byte).toNat ≠ (crc16 [2, 0x2C, 0x32]).toNat) ∧
    ((mains.port .l1).rx = [] ∧ ((1 : Byte).toNat < 2 ∨ 250 < (1 : Byte).toNat) ∧ ((251 : Byte).toNat < 2 ∨ 250 < (251 : Byte).toNat)) ∧
    (((timed 10 receiving).port .l1).rx.length = 1 ∧ (2 ≤ (2 : Byte).toNat ∧ (250 : Byte).toNat ≤ 250)) ∧
    (((timed 11 receiving).port .l1).rx ≠ [] ∧ ((timed 11 receiving).port .l1).lastByte + 10 < (timed 11 receiving).now) ∧
    ((timed 10 receiving).now ≤ ((timed 10 receiving).port .l1).lastByte + 10) := by decide +kernel
/-- The longest frame: one of two checks is wrong. -/
theorem test_met_BadFramesAreRefusedOrDiscarded_longest : 2 ≤ (250 : Byte).toNat ∧ (250 : Byte).toNat ≤ 250 ∧
    (List.replicate 250 (0 : Byte)).length = (250 : Byte).toNat ∧
    ∃ c : Byte, (0 : Byte).toNat * 256 + c.toNat ≠ (crc16 (250 :: List.replicate 250 0)).toNat := by
  refine ⟨by decide, by decide, List.length_replicate, ?_⟩
  by_cases h : (crc16 (250 :: List.replicate 250 0)).toNat = 0
  · exact ⟨1, by rw [h]; decide⟩
  · exact ⟨0, fun e => h e.symm⟩

theorem test_met_ResponsesHoldoffAndAttention : ((sending.port .l1).sending = some [] ∧ (sending.port .l1).owed = []) ∧
    (((owing 1).port .l1).sending = some [] ∧ ((owing 1).port .l1).owed = 0 :: []) ∧ (mains.port .l1).sending = none ∧
    ((owing 1).pending = [] ∧ due (owing 1) = [] ∧ (owing 1).tb.count + 1 < (owing 1).tb.len) ∧
    ((mains.setPort .l1 { mains.port .l1 with holdoffEnd := some 100 }).port .l1).holdoffEnd = some 100 := by decide +kernel

theorem test_met_NoticeFetchRouteSetAndPortReset : PortFree .l2 mains ∧ 1 ≤ 1 ∧ 1 < 2 := by decide +kernel

theorem mains_ports_ok : PortsOk mains := by
  refine ⟨?_, by decide⟩
  intro p; cases p <;> simp [PortOk, State.port, mains, State.reset, coldState, coldPort, portIndex]
theorem test_met_PortsStayWithinBounds : PortsOk mains ∧ ∃ t, step mains = .next t := ⟨mains_ports_ok, _, rfl⟩

theorem test_met_TheLengthOfEachSecond : (-26214400 ≤ learning.tb.freq ∧ learning.tb.freq ≤ 26214400 ∧ learning.tb.residue ≤ 65535) ∧
    ((lastCount learning).tb.len ≤ (lastCount learning).tb.count + 1 ∧ ∃ t, exec .localSecondBoundary (lastCount learning) = .next t) ∧
    (let s : State := { learning with tb := { learning.tb with count := 1000000 } }
     ∃ t, exec .refPulse s = .next t ∧ t.tb.uptime ≠ s.tb.uptime) ∧
    (learning.tb.count + 1 < learning.tb.len) ∧
    (State.reset.pending = [] ∧ due State.reset = [] ∧ State.reset.tb.count + 1 < State.reset.tb.len ∧
      due (lastCount State.reset) = [] ∧ (lastCount State.reset).tb.len ≤ (lastCount State.reset).tb.count + 1) ∧
    ((-26214400 : Int) ≤ 26214400 ∧ (0 : Int) ≤ 65535) ∧ ((-419430 : Int) ≤ -419430 ∧ (-419430 : Int) ≤ 419430) ∧
    ({ slew := 419430 } : TimeBase).slew = 419430 := by
  refine ⟨by decide +kernel, ⟨by decide +kernel, _, rfl⟩, ⟨_, rfl, by decide +kernel⟩, ?_⟩; decide +kernel

theorem test_met_RunTimeWithinASecondAndItsWrapping : (({} : TimeBase).count = 0 ∧ ({} : TimeBase).ms = 0 ∧ 1000 ≤ ({} : TimeBase).len) ∧
    (4294967296 < 4294968296 + 2147483648 ∧ 4294968296 ≤ 4294967296 + 2147483648 - 1) ∧
    (2147483647 < 0 + 2147483648 ∧ 0 ≤ 2147483647 + 2147483648 - 1) := by
  refine ⟨by decide, by omega, by omega⟩

/-- The eighth second without a pulse, and the last second of a holdover. -/
def missing8 (d : Discipline) : State := { dated d 9000 0 mains with ref := { mode := .pulse }, tb := { (dated d 9000 0 mains).tb with missed := 8 } }
def holding (n : Nat) : State := { dated .holdover 9000 0 mains with tb := { (dated .holdover 9000 0 mains).tb with holdover := n } }
theorem test_met_BoundariesAndTheirLimits : (lastCount (missing8 .locked)).tb.len ≤ (lastCount (missing8 .locked)).tb.count + 1 ∧
    (8 ≤ (missing8 .locked).tb.missed ∧ (missing8 .locked).tb.disc = .locked) ∧ (missing8 .acquire).tb.disc = .acquire ∧
    (mains.tb.missed < 8 ∨ (mains.tb.disc ≠ .locked ∧ mains.tb.disc ≠ .acquire)) ∧
    ((holding 86400).tb.disc = .holdover ∧ 86400 ≤ (holding 86400).tb.holdover) ∧
    ((holding 86399).tb.disc ≠ .holdover ∨ (holding 86399).tb.holdover < 86400) ∧
    ((missing8 .locked).ref.mode ≠ .off ∧ (missing8 .locked).tb.curMark = false ∧ 7 ≤ (missing8 .locked).tb.missed) := by decide +kernel
/-- A boundary that begins a minute, an offset change still an hour off, and one at which none waits. -/
theorem test_met_BoundariesAndTheirLimits_blocks :
    (let s : State := lastCount { dated .locked 9430 59 mains with
        civil := { change := some { offset := 60, instant := .label { day := 9430, sec := 3600 } } } }
     s.tb.len ≤ s.tb.count + 1 ∧ s.warm.held = none ∧ s.civil.change = some { offset := 60, instant := .label { day := 9430, sec := 3600 } } ∧
      (beginSecond (s.tb.label.map Label.advance) s).tb.label = some ⟨9430, 60⟩ ∧
      (⟨9430, 60⟩ : Label).atOrAfter ⟨9430, 3600⟩ = false) ∧
    (let s := lastCount (dated .locked 9430 59 mains)
     ∃ t, exec .localSecondBoundary s = .next t ∧ s.tb.len ≤ s.tb.count + 1 ∧ s.warm.held = none ∧ s.civil.change = none ∧
      t.civilNow = some ⟨9430, 60⟩ ∧ t.cal.cursor = some ⟨9430, 1⟩) :=
  ⟨by decide +kernel, ⟨_, rfl, by decide +kernel⟩⟩

/-- A taken pulse in REF_PULSE at a count, and one in REF_FULL with a message of a label received now. -/
def pulsed (d : Discipline) (count : Nat) : State :=
  let s := timed 100000 (if d = .unset then mains else dated d 9000 100 mains)
  { s with ref := { mode := .pulse }, tb := { s.tb with count := count } }
def paired (d : Discipline) (count : Nat) (l : Label) : State :=
  let s := pulsed d count
  { s with ref := { mode := .full, message := some { label := l, quality := 0, arrival := 98800, pairing := .waiting } } }
/-- The same with the message USED, but where the pulse is an outlier. -/
def usedUp (s : State) : State :=
  if outlierPulse s then s
  else { s with ref := { s.ref with message := (qualifying s).map (fun m => { m with pairing := .used }) } }

theorem pulsed_taken (d : Discipline) (count : Nat) : PulseTaken (pulsed d count) none (pulsed d count) := by
  unfold pulsed; split <;> exact ⟨rfl, rfl, .inl ⟨rfl, rfl, rfl⟩⟩
theorem paired_taken (d : Discipline) (count : Nat) (l : Label) :
    PulseTaken (paired d count l) (some l) (usedUp (paired d count l)) := by
  have q : qualifying (paired d count l) = some { label := l, quality := 0, arrival := 98800, pairing := .waiting } := by
    unfold paired pulsed; split <;> simp [qualifying, State.now, timed, dated, Config.messageWindow]
  refine ⟨?_, ?_, .inr ⟨rfl, by rw [q]; rfl, by rw [q]; rfl, rfl⟩⟩ <;> (unfold paired pulsed; split <;> rfl)

theorem test_met_PulsesIgnoredAndPulsesInUnset : mains.ref.mode = .off ∧
    (∃ x, (timed 1499 { mains with tb := { mains.tb with lastAccepted := some 1000 } }).tb.lastAccepted = some x ∧
      (timed 1499 { mains with tb := { mains.tb with lastAccepted := some 1000 } }).now < x + 500) ∧ (held mains).warm.held ≠ none ∧
    ((timed 100001 (paired .unset 0 ⟨9000, 0⟩)).ref.mode = .full ∧ ∀ m, (timed 100001 (paired .unset 0 ⟨9000, 0⟩)).ref.message = some m →
      (m.pairing ≠ .waiting ∨ m.quality ≠ 0#8 ∨ m.arrival + 1200 < (timed 100001 (paired .unset 0 ⟨9000, 0⟩)).now)) ∧
    (PulseTaken (paired .locked 419431 ⟨9000, 100⟩) (some ⟨9000, 100⟩) (usedUp (paired .locked 419431 ⟨9000, 100⟩)) ∧
      (paired .locked 419431 ⟨9000, 100⟩).tb.disc = .locked ∧ 419430 < pulseError 419431 4194304) ∧
    (PulseTaken (pulsed .unset 419430) none (pulsed .unset 419430) ∧ (pulsed .unset 419430).tb.disc = .unset ∧
      -419430 ≤ pulseError 419430 4194304 ∧ pulseError 419430 4194304 ≤ 419430) ∧
    (PulseTaken (paired .unset 3774874 ⟨9000, 0⟩) (some ⟨9000, 0⟩) (usedUp (paired .unset 3774874 ⟨9000, 0⟩)) ∧
      (paired .unset 3774874 ⟨9000, 0⟩).tb.disc = .unset ∧ -419430 = pulseError 3774874 4194304) ∧
    (PulseTaken (paired .unset 419431 ⟨9000, 0⟩) (some ⟨9000, 0⟩) (usedUp (paired .unset 419431 ⟨9000, 0⟩)) ∧
      419430 < pulseError 419431 4194304) ∧ pulseError 3774873 4194304 < -419430 := by
  refine ⟨by decide, ⟨1000, by decide⟩, by decide, ⟨by decide, of_some (a := ⟨⟨9000, 0⟩, 0, 98800, .waiting⟩) (by decide) (by decide)⟩,
    ⟨paired_taken _ _ _, by decide⟩, ⟨pulsed_taken _ _, by decide⟩, ⟨paired_taken _ _ _, by decide⟩, ⟨paired_taken _ _ _, by decide⟩,
    by decide⟩

theorem test_met_APulseInLocked : PulseTaken (pulsed .locked 419431) none (pulsed .locked 419431) ∧
    ((pulsed .locked 419431).tb.disc = .locked ∧ 419430 < pulseError 419431 4194304 ∧ (pulsed .locked 419431).tb.outlier < 2) ∧
    (let s : State := { pulsed .locked 419431 with tb := { (pulsed .locked 419431).tb with outlier := 2 } }
     PulseTaken s none s ∧ s.tb.disc = .locked ∧ 2 ≤ s.tb.outlier) ∧
    (PulseTaken (paired .locked 0 ⟨9000, 100⟩) (some ⟨9000, 100⟩) (usedUp (paired .locked 0 ⟨9000, 100⟩)) ∧
      -419430 ≤ pulseError 0 4194304 ∧ pulseError 0 4194304 ≤ 419430) ∧
    (∃ t, exec .localSecondBoundary (pulsed .locked 0) = .next t) := by
  refine ⟨pulsed_taken _ _, by decide, ?_, ⟨paired_taken _ _ _, by decide⟩, _, rfl⟩
  exact ⟨⟨rfl, rfl, .inl ⟨rfl, rfl, rfl⟩⟩, by decide⟩

theorem test_met_APulseInAcquire : (PulseTaken (pulsed .acquire 419430) none (pulsed .acquire 419430) ∧
      (pulsed .acquire 419430).tb.disc = .acquire ∧ pulseError 419430 4194304 ≤ 419430 ∧ -419430 ≤ pulseError 419430 4194304) ∧
    (PulseTaken (paired .free 3774874 ⟨9000, 100⟩) (some ⟨9000, 100⟩) (usedUp (paired .free 3774874 ⟨9000, 100⟩)) ∧
      (paired .free 3774874 ⟨9000, 100⟩).tb.disc = .free ∧ -419430 ≤ pulseError 3774874 4194304) ∧
    (PulseTaken (pulsed .holdover 4194) none (pulsed .holdover 4194) ∧ (pulsed .holdover 4194).tb.disc = .holdover) :=
  ⟨⟨pulsed_taken _ _, by decide⟩, ⟨paired_taken _ _ _, by decide⟩, pulsed_taken _ _, by decide⟩

theorem test_met_APulseBeyondTheThresholdStepsThePhase : (PulseTaken (pulsed .acquire 419431) none (pulsed .acquire 419431) ∧
      (pulsed .acquire 419431).tb.disc ≠ .locked ∧ 419430 < pulseError 419431 4194304 ∧ (pulsed .acquire 419431).tb.pendingLabel = none) ∧
    (PulseTaken (pulsed .unset 3774873) none (pulsed .unset 3774873) ∧ (pulsed .unset 3774873).tb.disc ≠ .locked ∧
      pulseError 3774873 4194304 < -419430) ∧
    (PulseTaken (paired .holdover 419431 ⟨9000, 100⟩) (some ⟨9000, 100⟩) (usedUp (paired .holdover 419431 ⟨9000, 100⟩)) ∧
      (paired .holdover 419431 ⟨9000, 100⟩).tb.disc ≠ .locked ∧ (paired .holdover 419431 ⟨9000, 100⟩).tb.disc ≠ .unset) :=
  ⟨⟨pulsed_taken _ _, by decide⟩, ⟨pulsed_taken _ _, by decide⟩, paired_taken _ _ _, by decide⟩

/-- A phase step in ACQUIRE whose message names the second that begins, another, and the second mismatch in a row. -/
def stepping (r : Option (Label × Int)) (l : Label) : State :=
  let s := paired .acquire 419431 l
  { s with ref := { s.ref with continuity := r } }
theorem test_met_APulseBeyondTheThresholdStepsThePhase_check :
    (PulseTaken (paired .acquire 419431 ⟨9000, 100⟩) (some ⟨9000, 100⟩) (usedUp (paired .acquire 419431 ⟨9000, 100⟩)) ∧
      (paired .acquire 419431 ⟨9000, 100⟩).tb.label = some ⟨9000, 100⟩ ∧ (paired .acquire 419431 ⟨9000, 100⟩).tb.pendingLabel = none) ∧
    ((⟨9000, 105⟩ : Label) ≠ ⟨9000, 100⟩ ∧ (stepping (some (⟨9000, 103⟩, 5)) ⟨9000, 105⟩).ref.continuity = some (⟨9000, 103⟩, 5) ∧
      (⟨9000, 103⟩ : Label).advance ≠ ⟨9000, 105⟩) ∧
    ((stepping (some (⟨9000, 104⟩, 5)) ⟨9000, 105⟩).ref.continuity = some (⟨9000, 104⟩, (⟨9000, 105⟩ : Label).diff ⟨9000, 100⟩) ∧
      (⟨9000, 104⟩ : Label).advance = ⟨9000, 105⟩) :=
  ⟨⟨paired_taken _ _ _, by decide⟩, by decide +kernel, by decide +kernel⟩

/-- Chapters 1 and 8: a phase step whose message relabels the second within its minute recomputes the active windows. -/
theorem test_relabel_at_a_phase_step : let s := stepping (some (⟨9000, 104⟩, 5)) ⟨9000, 105⟩
    let t := after .refPulse { s with cal := { s.cal with active := [4] } }
    t.tb.label = some ⟨9000, 105⟩ ∧ t.cal.active = [] := by decide +kernel

/-- A continuity record of a label and a delta. -/
def recorded (l : Label) (d : Int) : State := { dated .locked 9000 100 mains with ref := { mode := .full, continuity := some (l, d) } }
theorem test_met_TheLabelCheckOfAPulse : (recorded ⟨9000, 104⟩ 5).tb.label = some ⟨9000, 100⟩ ∧
    ((⟨9000, 105⟩ : Label) ≠ ⟨9000, 100⟩ ∧ ((recorded ⟨9000, 103⟩ 5).ref.continuity = some (⟨9000, 103⟩, 5)) ∧
      (⟨9000, 103⟩ : Label).advance ≠ ⟨9000, 105⟩) ∧
    ((recorded ⟨9000, 104⟩ 5).ref.continuity = some (⟨9000, 104⟩, (⟨9000, 105⟩ : Label).diff ⟨9000, 100⟩) ∧
      (⟨9000, 104⟩ : Label).advance = ⟨9000, 105⟩) := by decide +kernel

theorem test_met_TheReferenceReceiver : (mains.ref.rx = [] ∧ 65535 ≤ 65535 ∧ 86399 ≤ 86399) ∧
    ([0, 0, 1, 0x51, 0x80, 0, 0, 0, 0, (0 : Byte)].length = 10 ∧ 86399 < rd3 [0, 0, 1, 0x51, 0x80, 0, 0, 0, 0, 0] 2) ∧
    (1 : Byte) ≠ sumByte (0xC3 :: List.replicate 10 0) ∧ (List.replicate 10 (1 : Byte)).drop 6 ≠ [0, 0, 0, 0] ∧
    (∀ b ∈ [(0xC2 : Byte), 0xC4], b ≠ 0xC3#8) ∧
    (let s : State := timed 11 { mains with ref := { rx := [0xC3] } }; s.ref.rx ≠ [] ∧ s.ref.lastByte + 10 < s.now) ∧ (paired .locked 0 ⟨9000, 0⟩).ref.message.isSome ∧ mains.ref.message = none := by
  decide +kernel

theorem test_met_TimeBaseRequests : (PortFree .l2 mains ∧ Port.l2 ≠ .l3 ∧ 65535 ≤ 65535 ∧ 86399 ≤ 86399 ∧ mains.ref.mode ≠ .full) ∧
    (paired .locked 0 ⟨9000, 0⟩).ref.mode = .full ∧ 86399 < 86400 ∧ (PortFree .l1 mains ∧ RefMode.full ≠ mains.ref.mode) ∧ 2 < 3 := by
  decide +kernel

/-- A change of offset waits for 01:00:00 of day 9,430. -/
def changing : State := { mains with civil := { offset := 60, change := some { offset := 0, instant := .label { day := 9430, sec := 3600 } } } }
/-- A change of offset waits for the next boundary in a warm reset. -/
def changingHeld : State := { held mains with civil := { change := some { offset := 60, instant := .next } } }
theorem test_met_OffsetChanges :
    (PortFree .l1 mains ∧ (-720 : Int) ≤ -720 ∧ (-720 : Int) ≤ 840 ∧ (-720 : Int) % 15 = 0 ∧ (840 : Int) % 15 = 0 ∧
      instantOf 0xFFFF 0xFFFFFF = some .next ∧ instantOf 9430 3600 = some (.label ⟨9430, 3600⟩) ∧ (dated .free 9430 0 mains).tb.label ≠ none) ∧
    ((7 : Int) % 15 ≠ 0 ∧ (-735 : Int) < -720 ∧ (840 : Int) < 855 ∧ instantOf 9430 86400 = none) ∧ mains.tb.label = none ∧
    (∃ t, exec .localSecondBoundary (lastCount (dated .locked 9430 3599 changing)) = .next t ∧
      (lastCount (dated .locked 9430 3599 changing)).tb.len ≤ (lastCount (dated .locked 9430 3599 changing)).tb.count + 1 ∧
      t.tb.label = some ⟨9430, 3600⟩ ∧ (⟨9430, 3600⟩ : Label).atOrAfter ⟨9430, 3600⟩ = true) ∧
    (∃ t, exec .localSecondBoundary (lastCount (dated .locked 9430 3598 changing)) = .next t ∧
      t.tb.label = some ⟨9430, 3599⟩ ∧ (⟨9430, 3599⟩ : Label).atOrAfter ⟨9430, 3600⟩ = false) ∧
    (changing.civil.change.isSome ∧ changeDue (dated .locked 9430 3600 changing) = true) ∧
    (∃ t, exec .localSecondBoundary (lastCount changingHeld) = .next t ∧
      (lastCount changingHeld).tb.len ≤ (lastCount changingHeld).tb.count + 1 ∧
      changingHeld.civil.change = some { offset := 60, instant := .next } ∧ changingHeld.warm.held ≠ none ∧
      changingHeld.warm.notices.length ≤ 11) ∧
    ((lastCount (dated .locked 9430 3599 changing)).tb.pendingLabel = none ∧
      (lastCount (dated .locked 9430 3599 changing)).tb.label.map Label.advance = some ⟨9430, 3600⟩) ∧
    ((dated .locked 9430 3600 changing).tb.count + 1 < (dated .locked 9430 3600 changing).tb.len ∧
      (dated .locked 9430 3598 changing).tb.label.map Label.advance = some ⟨9430, 3599⟩) ∧ mains.civil.change = none := by
  refine ⟨by decide +kernel, by decide, by decide, ⟨_, rfl, by decide +kernel⟩, ⟨_, rfl, by decide +kernel⟩, by decide +kernel,
    ⟨_, rfl, by decide +kernel⟩, by decide +kernel⟩

theorem test_met_TheSundayClass : (PortFree .l1 mains ∧ 1 ≤ 1 ∧ (∀ e ∈ mains.days.entries, e.date ≠ 9430) ∧ weekday 9430 = 6) ∧
    1 < 2 ∧ (PortFree .l2 mains ∧ Port.l2 ≠ .l1) ∧ (∃ t, exec .coldStart mains = .next t) ∧
    (∃ t, exec .warmResetEntry (timed 10 { mains with warm := { since := some 0 } }) = .next t) ∧
    (∃ t, exec .warmResetCompletion (timed 20 { mains with warm := { since := some 10, held := some 10 } }) = .next t) :=
  ⟨by decide +kernel, by decide, by decide +kernel, ⟨_, rfl⟩, ⟨_, rfl⟩, ⟨_, rfl⟩⟩

theorem test_met_DayClassesAndSunTable :
    (let pair : DatePair := { year := 2025, month := 11, day := 1, cls := 2 }
     let s := dated .locked 9436 0 mains
     PortFree .l1 s ∧ 1 ≤ 1 ∧ pairsOf (List.replicate 16 pair) = some (List.replicate 16 { date := 9436, cls := .solemn }) ∧
      (List.replicate 16 pair).length ≤ 16 ∧ s.civilNow = some ⟨9436, 0⟩ ∧ dayBefore 9436 9436 = false ∧ 0 = s.days.revision) ∧
    (let xs : List DayEntry := [{ date := 32231, cls := .feast }, { date := 0, cls := .solemn }, { date := 65000, cls := .feast }]
     (xs.map (·.date)).Nodup ∧ ∀ x ∈ xs, x.date ≤ 65535 ∧ (x.date + 65536 - 65000 % 65536) % 65536 < 32768) ∧
    (let xs : List DayEntry := [{ date := 0, cls := .feast }, { date := 60000, cls := .solemn }, { date := 30000, cls := .feast }]
     ∀ x ∈ xs, x.date ≤ 65535 ∧ ∃ y ∈ xs, dayBefore y.date x.date = true) ∧
    (pairsOf [{ year := 2025, month := 11, day := 31, cls := 2 }] = none ∧ 0 ≠ 255 ∧ 0 ≠ 1 ∧ Reaches .sunWrite .l3 mains ∧
      sunEntriesOf [{ rise := 1440, set := 0 }] = none ∧ 367 < 308 + 60) ∧
    (sunEntriesOf (List.replicate 60 { rise := 1439, set := 0xFFFF }) = some (List.replicate 60 { rise := some 1439, set := none }) ∧
      307 + 60 ≤ 367 ∧ (255 = 255 ∨ 255 = mains.sun.revision)) := by decide +kernel

/-- The last second of day 9,436, with an entry for that day. -/
def lastSecond : State :=
  { dated .locked 9436 86399 mains with days := { entries := [{ date := 9436, cls := .solemn }] } }
theorem test_met_DayClassesAndSunTable_dates :
    (∃ t, exec .localSecondBoundary (lastCount lastSecond) = .next t ∧ (lastCount lastSecond).civilNow = some ⟨9436, 86399⟩ ∧
      t.civilNow = some ⟨9437, 0⟩) ∧
    (let s := lastCount { mains with tb := { mains.tb with pendingLabel := some ⟨9437, 0⟩ } }
     ∃ t, exec .localSecondBoundary s = .next t ∧ s.civilNow = none ∧ t.civilNow = some ⟨9437, 0⟩) ∧
    (lastSecond.civilNow = some ⟨9436, 86399⟩ ∧ (civilOf lastSecond.civil.offset ⟨9437, 4⟩).day ≠ 9436) :=
  ⟨⟨_, rfl, by decide +kernel⟩, ⟨_, rfl, by decide +kernel⟩, by decide +kernel⟩

theorem test_met_TheTimeBaseStaysWithinItsBounds : TimeBaseOk mains ∧ ∃ t, step mains = .next t := by
  refine ⟨⟨by decide, by decide, by decide, by decide, by decide, ?_, ?_, ?_⟩, _, rfl⟩ <;> exact of_none rfl

theorem test_met_DatesAndDayNumbersNameEachOther : 65535 ≤ 65535 ∧
    checkDate { year := 2000, month := 1, day := 1 } = some 0 ∧ checkDate { year := 2179, month := 6, day := 6 } = some 65535 ∧
    checkDate { year := 2179, month := 6, day := 7 } = none := by decide +kernel

/-- A fitted dial in a state at a position, at civil noon of day 9,000 (target 0). -/
def dialAt (st : DialState) (position : Nat) : State :=
  (timed 2000 (dated .locked 9000 43200 mains)).setDial 0 { fitted := true, state := st, position := position, lastStart := some 0 }
/-- A dial with an impulse begun at run time 0. -/
def inFlight (i : Impulse) : State := (timed 500 mains).setDial 0 { fitted := true, state := .run, flight := some i }
def impulse : Impulse :=
  { polarity := .positive, start := 0, width := 500, superseded := false, confirmed := false, watched := false, startLevel := false }

theorem test_met_TheFullDecisionOfADialAndItsDistance :
    (((dialAt .run 0).dial 0).fitted = true ∧ ((dialAt .run 0).dial 0).state = .run ∧ (dialAt .run 0).tb.label = some ⟨9000, 43200⟩) ∧
    dialDistance (dialTarget (civilOf 0 ⟨9000, 43200⟩)) 0 = 0 ∧
    (let d := dialDistance (dialTarget (civilOf 0 ⟨9000, 43200⟩)) 240; d ≠ 0 ∧ 1440 - d ≤ 240) ∧
    (let d := dialDistance (dialTarget (civilOf 0 ⟨9000, 43200⟩)) 241; 240 < 1440 - d ∧ d * 2 < (1440 - d) * (30 - 2) ∧ 2 ≤ d) ∧
    (let d := dialDistance (dialTarget (civilOf 0 ⟨9000, 43200⟩)) 1439; 240 < 1440 - d ∧ d * 2 < (1440 - d) * (30 - 2) ∧ d = 1) ∧
    (let d := dialDistance (dialTarget (civilOf 0 ⟨9000, 43200⟩)) 96; d ≠ 0 ∧ 0 < 1440 - d ∧ (1440 - d) * (30 - 2) ≤ d * 2) ∧
    (mains.setDial 0 { fitted := true, state := .run }).tb.label = none ∧ (1439 < 1440 ∧ 0 < 1440) ∧ (96 + 1344 = 1440 ∧ 30 ≤ 30) := by
  decide +kernel
theorem test_met_TheImpulsesOfADial_continuing :
    (((dialAt .hold 1).dial 0).fitted = true ∧ ((dialAt .hold 1).dial 0).state = .hold ∧ (dialAt .hold 1).tb.label = some ⟨9000, 43200⟩) ∧
    ((dialAt .advance 1439).dial 0).state = .advance ∧ dialDistance (dialTarget (civilOf 0 ⟨9000, 43200⟩)) 1439 = 1 := by decide +kernel

theorem test_met_TheImpulsesOfADial : ((dialAt .run 1439).warm.held = none ∧ (dialAt .run 1439).tb.label = some ⟨9000, 43200⟩ ∧
      ((dialAt .run 1439).dial 0).fitted = true ∧ (dialAt .run 1439).supply.state = .mains ∧ ((dialAt .run 1439).dial 0).flight = none) ∧
    (∀ x, ((dialAt .run 1439).dial 0).lastStart = some x → x + ((dialAt .run 1439).dial 0).fast * 1000 ≤ (dialAt .run 1439).now) ∧
    (((dialAt .run 1439).dial 0).state = .run ∧ dialDistance (dialTarget (civilOf 0 ⟨9000, 43200⟩)) 1439 = 1) ∧
    (((dialAt .advance 1438).dial 0).state = .advance ∧ 2 ≤ dialDistance (dialTarget (civilOf 0 ⟨9000, 43200⟩)) 1438) ∧
    (mains.tb.label = none ∨ (mains.dial 0).fitted = false) ∧ (timed 1999 (dialAt .run 1439)).now < 0 + 2 * 1000 ∧
    (((dialAt .run 1438).dial 0).state = .run ∧ dialDistance (dialTarget (civilOf 0 ⟨9000, 43200⟩)) 1438 ≠ 1 ∧
      ((dialAt .advance 1439).dial 0).state = .advance ∧ dialDistance (dialTarget (civilOf 0 ⟨9000, 43200⟩)) 1439 < 2) ∧
    (((inFlight impulse).warm.held = none ∧ ((inFlight impulse).dial 0).flight = some impulse ∧
      impulse.start + impulse.width ≤ (inFlight impulse).now)) ∧ (timed 499 (inFlight impulse)).now < impulse.start + impulse.width := by
  refine ⟨by decide +kernel, of_some (a := 0) (by decide +kernel) (by decide +kernel), ?_⟩; decide +kernel

theorem test_met_TheRequestsOfADial : (PortFree .l2 (dialAt .run 0) ∧ Port.l2 ≠ .l3 ∧ 1439 ≤ 1439 ∧ ((dialAt .run 0).dial 0).fitted = true) ∧
    1439 < 1440 ∧ (mains.dial 0).fitted = false ∧
    (((dialAt .unknown 0).dial 0).fitted = true ∧ ((dialAt .unknown 0).dial 0).state = .unknown ∧ PortFree .l2 (dialAt .unknown 0)) ∧
    ((dialAt .run 0).dial 0).state ≠ .unknown ∧
    (let a : DialArgs := { dial := 1, revision := 0, fitted := 1, confirm := 0, width := 199, fast := 0, hold := 721 }
     PortFree .l1 mains ∧ a.dial = (0 : Fin 4).1 + 1 ∧ a.fitted ≤ 1 ∧ a.confirm ≤ 1 ∧ a.revision = (mains.dial 0).revision) ∧
    (1 ≠ 255 ∧ 1 ≠ (mains.dial 0).revision) := by decide +kernel

theorem test_met_RecordsKeepTheirRanges : DialsOk mains ∧ PoolOk mains ∧ QueueOk mains ∧ SharesOk mains ∧ ChannelsOk mains ∧
    ∃ t, step mains = .next t :=
  ⟨by unfold DialsOk; decide +kernel, by unfold PoolOk; decide +kernel, by unfold QueueOk; decide +kernel, by unfold SharesOk; decide +kernel,
    by unfold ChannelsOk; decide +kernel, _, rfl⟩

/-- Bell 1 with a guard in a state; its engaged contact's settling began at run time 0. -/
def guarded (g : Guard) : State := (timed 20 mains).setBell 0 { config := fullBell, guard := g }
def closing (st : GuardState) (m : Motion) : State :=
  let s := guarded { state := st, motion := m, direction := .engage, deadline := some 20, atEng := { since := some 0 } }
  s.setLines { s.lines with guardEng := s.lines.guardEng.set 0 true }
theorem test_met_HowAGuardMoves :
    ((hold 0 .free mains).setBell 0 { mains.bell 0 with pulseEnd := some 60 } |>.bell 0).pulseEnd ≠ none ∧
    (((guarded {}).bell 0).pulseEnd = none ∧ State.reset.supply.state = .battery ∧ (guarded {}).supply.state = .mains) ∧
    ((guarded { state := .engaging, atEng := { settled := true } }).bell 0).guard.atTarget = true ∧
    ((guarded { state := .engaging }).bell 0).guard.atTarget = false ∧
    (((guarded {}).bell 0).config.guardFitted = true ∧ ((guarded {}).bell 0).guard.state = .disengaged) ∧
    (((guarded { state := .fault }).bell 0).config.guardFitted = true ∧ ((guarded { state := .fault }).bell 0).guard.state = .fault) ∧
    (((guarded { state := .engaged }).bell 0).holder = .free ∧ ((guarded {}).swing 0).state = .atRest) ∧
    (((guarded { state := .engaged }).setSwing 0 { state := .drifting }).swing 0).state ≠ .atRest ∧
    (mains.bell 0).config.guardFitted = false ∧ mains.contactLine 0 .engaged = false ∧ (closing .engaging .running).contactLine 0 .engaged ≠ false ∧
    (((closing .engaging .running).warm.held = none ∧ ((closing .engaging .running).bell 0).guard.atEng.since = some 0) ∧
      0 + 20 ≤ (closing .engaging .running).now) ∧ (timed 19 (closing .engaging .running)).now < 0 + 20 ∧
    (((closing .engaging .running).bell 0).guard.motion = .running ∧ ((closing .engaging .running).bell 0).guard.deadline = some 20 ∧
      20 ≤ (closing .engaging .running).now) ∧
    (let s := (closing .engaging .running).setBell 0 { (closing .engaging .running).bell 0 with
        guard := { state := .engaged, atEng := { settled := true, since := some 0 } } }
     (s.bell 0).guard.state = .engaged ∧ (s.setLines mains.lines).contactLine 0 .engaged = false) := by decide +kernel

theorem test_met_ClaimsAndReleases : (Reaches .claim .l2 mains ∧ 0 ≤ 1 ∧ Port.l2 ≠ .l1 ∧ 0x8001 % 65536 ≠ 0) ∧ Reaches .claim .l1 mains ∧
    (Reaches .release .l2 mains ∧ 0x8001 % 65536 ≠ 0) ∧ PortFree .l1 mains ∧ 0x10000 % 65536 = 0 ∧ (mains.bell 0).holder ≠ .ropes := by
  decide +kernel

def bellArgs (guard : Nat) : BellArgs where
  bell := 1
  revision := 0
  hammer := 1
  guard := guard
  drive := guard
  sensor := guard
  policy := 1
  substitute := 16
  width := 201
  recovery := 149
  travel := 0
  period := 401
  settle := 3
theorem test_met_BellConfigurationAndFaults :
    (PortFree .l1 mains ∧ (bellArgs 1).bell = (0 : Fin 16).1 + 1 ∧ (bellSettings 0 (bellArgs 1) 0).isSome ∧
      (bellArgs 1).revision = (mains.bell 0).config.revision ∧ (mains.bell 0).holder = .free ∧ (mains.swing 0).state = .atRest ∧
      (mains.bell 0).guard.state ≠ .engaging ∧ (mains.bell 0).guard.state ≠ .releasing) ∧
    ((bellSettings 0 (bellArgs 0) 0).isSome ∧ ((guarded {}).bell 0).config.guardFitted = true) ∧
    (PortFree .l1 (hold 0 .ropes mains) ∧ ((hold 0 .ropes mains).bell 0).holder ≠ .free) ∧
    (Reaches .bellFaultClear .l2 (mains.setSwing 0 { state := .fault, fault := .swingLost }) ∧
      ((mains.setSwing 0 { state := .fault, fault := .swingLost }).swing 0).state = .fault) ∧
    (((guarded { state := .fault, direction := .release }).bell 0).guard.state = .fault ∧
      ((guarded { state := .fault, direction := .release }).swing 0).state = .atRest) ∧
    (Reaches .bellFaultClear .l2 mains ∧ (mains.swing 0).state ≠ .fault ∧ (mains.bell 0).guard.state ≠ .fault) ∧
    (0 = 0 ∨ 16 < 0) ∧ (17 = 0 ∨ 16 < 17) ∧
    (((guarded { atEng := { settled := true } }).bell 0).guard.atEng.settled = true ∧
      ((guarded { atEng := { settled := true } }).bell 0).guard.atDis.settled = false) ∧
    ((hold 0 .ropes (guarded { atDis := { settled := true } })).bell 0).guard.atDis.settled = true ∧
    ((guarded {}).bell 0).guard.atEng.settled = ((guarded {}).bell 0).guard.atDis.settled := by decide +kernel

/-- Bell 1 swinging in a state, its last pulse at a run time; the time is 1,500 ms (the shortest qualifying interval). -/
def swung (w : Swing) : State := (guarded {}).setSwing 0 w |> timed 1500
theorem test_met_ASensorPulse : (mains.bell 0).config.sensor = false ∧ (timed 249 (swung { lastPulse := some 0 })).now - 0 < 250 ∧
    (((swung {}).warm.held = none ∧ ((swung {}).bell 0).config.sensor = true ∧ none = ((swung {}).swing 0).lastPulse.map (fun x => (swung {}).now - x)) ∧
      ((swung {}).swing 0).state = .atRest) ∧
    (let s := swung { state := .starting, lastPulse := some 0, qualifying := 2 }
     some 1500 = (s.swing 0).lastPulse.map (fun x => s.now - x) ∧ (s.swing 0).state = .starting ∧
      3 * ((s.bell 0).config.period * 10) ≤ 4 * 1500 ∧ 4 * 1500 ≤ 5 * ((s.bell 0).config.period * 10) ∧ 2 ≤ (s.swing 0).qualifying) ∧
    (3 * 2000 ≤ 4 * 2500 ∧ 4 * 2500 ≤ 5 * 2000) ∧ 4 * 1499 < 3 * 2000 ∧ 5 * 2000 < 4 * 2501 ∧
    ((swung { state := .stopping }).swing 0).state = .stopping ∧ ((swung { state := .fault }).swing 0).state = .fault := by decide +kernel

theorem test_met_HowASwingEnds : (swung {}).warm.held = none ∧
    (let w := (swung { state := .drifting, settleDeadline := some 1500 }).swing 0; w.state = .drifting ∧ w.settleDeadline = some 1500) ∧
    (let s := hold 0 (.service 0) (swung { state := .stopping, settleDeadline := some 1500 })
     (s.swing 0).state = .stopping ∧ (s.swing 0).settleDeadline = some 1500 ∧ 1500 ≤ s.now ∧ (s.bell 0).holder = .service 0 ∧
      (s.session 0).phase ≠ .startingBells) ∧
    (let s := (hold 0 (.service 0) (swung { state := .stopping, settleDeadline := some 1500 })).setSession 0
        { phase := .startingBells, bells := [⟨0, false⟩] }
     (s.bell 0).holder = .service 0 ∧ (s.session 0).phase = .startingBells ∧ 0 ∈ (s.session 0).unstarted) ∧
    ((swung {}).bell 0).holder = .free ∧ (swung {}).now < 1501 ∧
    (let w := (swung { state := .starting, motorOn := some 0 }).swing 0; w.state = .starting ∧ w.motorOn = some 0) ∧
    (let w := (swung { state := .swinging, lastPulse := some 0 }).swing 0; w.state = .swinging ∧ w.lastPulse = some 0) ∧
    ((swung {}).swing 0).state ≠ .drifting := by decide +kernel

/-- Session 1 with bell 1, its guard engaged, on mains. -/
def ringing (r : Session) (w : Swing) : State :=
  (((timed 1000 mains).setBell 0 { config := fullBell, holder := .service 0, guard := { state := .engaged, direction := .engage } }).setSwing 0
    w).setSession 0 r
def starting : Session := { phase := .startingBells, bells := [⟨0, false⟩], stagger := 6, endTime := 1000, nextStart := some 1000 }
def stopping : Session := { phase := .stoppingBells, bells := [⟨0, true⟩], stagger := 6, nextStop := some 1000, endCause := .endTime }
theorem test_met_TheSlotsOfASessionAndItsLeavers :
    (let s := ringing starting {}
     s.warm.held = none ∧ (s.session 0).phase = .startingBells ∧ (s.session 0).nextStart = some 1000 ∧ 1000 ≤ s.now ∧ s.supply.state = .mains ∧
      (s.session 0).waiting = some 0 ∧ (s.bell 0).guard.state = .engaged ∧ (s.swing 0).state = .atRest) ∧
    ((timed 999 (ringing starting {})).now < 1000 ∧ (mains.session 0).phase ≠ .startingBells) ∧
    (((ringing starting {}).session 0).endTime ≤ (ringing starting {}).now) ∧ ((mains.session 0).phase = .ended) ∧
    (let s := ringing stopping { state := .swinging, motor := true, lastPulse := some 900 }
     (s.session 0).phase = .stoppingBells ∧ (s.session 0).nextStop = some 1000 ∧ 1000 ≤ s.now ∧ lastRunning 0 s = some 0) ∧
    (((ringing stopping {}).bell 0).holder = .service 0 ∧ Holder.free ≠ .service 0) ∧
    (let s := mains.setSession 0 { phase := .ringing }; (s.session 0).phase ≠ .ended ∧ (s.session 0).bells = []) ∧
    (∀ n, (mains.bell 0).holder ≠ .service n) := by decide +kernel

theorem test_met_StartingAndCancellingASession : (Reaches .ringStart .l1 State.reset ∧ 1 % 65536 ≠ 0 ∧ State.reset.supply.state = .battery) ∧
    (let s := [(0 : Fin 4), 1, 2, 3].foldl (fun (s : State) n => s.setSession n { phase := .ringing }) mains
     s.supply.state = .mains ∧ ∀ n, (s.session n).phase ≠ .ended) ∧
    ((mains.session 0).phase = .ended ∧ (maskBells 1).filter (fun b => (leftOutReason b mains).isNone) = []) ∧
    (let s := (guarded {}).setSession 0 { phase := .ringing }
     Reaches .ringStart .l1 s ∧ s.supply.state = .mains ∧ (s.session 1).phase = .ended ∧ (∀ k, k < 1 → (s.session k).phase ≠ .ended) ∧
      (maskBells 1).filter (fun b => (leftOutReason b s).isNone) ≠ [] ∧ (s.bell 0).guard.state ≠ .fault) ∧
    (Reaches .ringCancel .l2 (ringing starting {}) ∧ ((ringing starting {}).session 0).phase = .startingBells) ∧
    ((ringing stopping {}).session 0).phase = .stoppingBells := by decide +kernel

/-- Tune 1 in a state of its content, last edited at run time 0. -/
def tuned (c : TuneContent) : State := mains.setTune 0 { content := c }
def planArgs : PlanArgs where
  plan := 1
  revision := 0
  first := 24
  second := 0
  third := 24
  hour := 24
  bell := 16
  gap := 10001
  pace := 999
theorem test_met_EditingTunesAndWritingPlans : (PortFree .l1 mains ∧ 1 ≤ 128 ∧ 128 ≤ 128 ∧ 0 = (mains.tune 0).revision ∧
      128 ≤ mains.freeCount + (mains.tune 0).length) ∧
    (let s := [(1 : Fin 24), 2, 3, 4, 5, 6, 7, 8].foldl (fun (s : State) k => s.setTune k { content := .valid (List.replicate 128 ⟨0, 1⟩) }) mains
     PortFree .l1 s ∧ s.freeCount + (s.tune 0).length < 1) ∧
    (((tuned (.editing [none, none] 0)).tune 0).content = .editing [none, none] 0 ∧
      (storedNotes 2 [{ bell := 16, offset := 501 }]).isSome ∧ 2 - 1 + 1 ≤ [none, (none : Option Note)].length) ∧
    ((tuned (.editing [some ⟨0, 0⟩] 0)).tune 0).content = .editing [some ⟨0, 0⟩] 0 ∧
    (((tuned (.valid [⟨0, 0⟩])).tune 0).content = .valid [⟨0, 0⟩] ∧ 255 = 255) ∧ (mains.tune 0).content = .empty ∧
    0 + 300000 ≤ (timed 300000 (tuned (.editing [none] 0))).now ∧ (timed 299999 (tuned (.editing [none] 0))).now < 0 + 300000 ∧
    (planArgs.plan = PlanName.festal.code ∧ planArgs.first ≤ 24 ∧ planArgs.second ≤ 24 ∧ planArgs.third ≤ 24 ∧ planArgs.hour ≤ 24 ∧
      planArgs.bell ≤ 16 ∧ planArgs.revision = (mains.plan .festal).revision) ∧ 1 < { planArgs with plan := 2 }.plan ∧
    (128 < 129 ∧ 1 ≠ 255 ∧ 1 ≠ (mains.tune 0).revision ∧ storedNotes 1 [{ bell := 17, offset := 0 }] = none ∧
      [none, (none : Option Note)].length < 3 - 1 + [({ bell := 1, offset := 0 } : RawNote)].length) := by decide +kernel
theorem test_met_EditingTunesAndWritingPlans_slots : (∀ xs x, (mains.tune 0).content ≠ .editing xs x) ∧
    (∀ y ∈ [some (⟨0, 0⟩ : Note)], y ≠ none) ∧ none ∈ [some (⟨0, 0⟩ : Note), none] :=
  ⟨not_editing (by decide +kernel), by decide, by decide⟩

theorem test_met_TheAbortOfATune : (PortFree .l1 (tuned (.editing [none] 0)) ∧ ((tuned (.editing [none] 0)).tune 0).content = .editing [none] 0) ∧
    PoolOk (tuned (.editing [none] 0)) ∧ (∀ xs x, (mains.tune 0).content ≠ .editing xs x) :=
  ⟨by decide +kernel, by unfold PoolOk; decide +kernel, not_editing (by decide +kernel)⟩

/-- An entry of bell 1, and a state in which it alone waits. -/
def entry (w : Wait) : Entry := { due := 0, bell := 0, origin := .toll, number := 1, substituted := false, seq := 0, wait := w }
def queued (w : Wait) : State := (configure 0 { hammer := true } (timed 400 mains)).setQueue [entry w]
/-- A queue with its insertion sequences taken. -/
def lined (q : List Entry) : State := { queued .pending with strike := { mains.strike with queue := q, nextSeq := 9 } }
theorem test_met_TakingUpEntriesAndEndingPulses_order :
    (let s := lined [entry .pending, { entry .pending with seq := 1, due := 500 }]
     QueueOk s ∧ s.strike.queue = [] ++ entry .pending :: [{ entry .pending with seq := 1, due := 500 }] ∧ comesUp (entry .pending) s = true ∧
      s.now < 500) ∧
    (let e' : Entry := { entry .recovery with seq := 1, bell := 1 }
     let s := lined [entry .pending, e', { entry .pending with seq := 2, due := 500 }]
     QueueOk s ∧ s.strike.queue = [] ++ entry .pending :: [] ++ e' :: [{ entry .pending with seq := 2, due := 500 }] ∧
      comesUp (entry .pending) s = true) ∧
    (∀ x ∈ mains.strike.queue, comesUp x mains = false) := by
  unfold QueueOk; decide +kernel
theorem test_met_TakingUpEntriesAndEndingPulses :
    ((queued .pending).warm.held = none ∧ entry .pending ∈ (queued .pending).strike.queue ∧ (entry .pending).wait = .pending ∧
      (entry .pending).due ≤ (queued .pending).now) ∧
    (∀ x ∈ (queued .share).strike.queue, x.wait ≠ .pending) ∧ strikeFail 0 (queued .pending) = none ∧
    (recovered 0 (queued .pending) = true ∧ (queued .pending).energised < (queued .pending).strike.share) ∧
    (let s := [(1 : Fin 16), 2, 3, 4].foldl (fun (s : State) b => s.setBell b { s.bell b with pulseEnd := some 460 }) (queued .pending)
     strikeFail 0 s = none ∧ recovered 0 s = true ∧ s.strike.share ≤ s.energised) ∧
    (let s := (queued .pending).setBell 0 { (queued .pending).bell 0 with lastStrike := some 1 }
     strikeFail 0 s = none ∧ recovered 0 s = false) ∧
    (let s := (queued .pending).setBell 0 { (queued .pending).bell 0 with lastStrike := some 0 }
     recovered 0 s = true) ∧
    (strikeFail 0 mains = some .notFitted ∧ (mains.bell 0).config.policy = .skip) ∧
    (let s := configure 0 { policy := .substitute 1 } mains
     strikeFail 0 s = some .notFitted ∧ (entry .pending).substituted = false ∧ (s.bell 0).config.policy = .substitute 1) := by decide +kernel
theorem test_met_TakingUpEntriesAndEndingPulses_waiting :
    (let s := mains.setBell 0 { mains.bell 0 with pulseEnd := some 0 }; s.warm.held = none ∧ (s.bell 0).pulseEnd = some 0 ∧ 0 ≤ s.now) ∧
    (entry .recovery ∈ (queued .recovery).strike.queue ∧ (entry .recovery).bell = 0 ∧ recovered 0 (queued .recovery) = true) ∧
    (∀ e ∈ mains.strike.queue, e.wait ≠ .recovery ∨ e.bell ≠ 0) := by decide +kernel

/-- Mains, with tune 1 in the first slot of the ORDINARY plan and bell 8 for its hours. Quarter 864,000 is
the midnight that begins day 9,000, a Thursday; 864,001 is 00:15. -/
def planned (c : TuneContent) : State := { tuned c with ordinary := { first := 1, hour := 1, hourBell := 8 } }
theorem test_met_HowAQuarterIsDecided : State.reset.supply.state = .battery ∧ mains.supply.state = .mains ∧
    (let s : State := { mains with days := { entries := [{ date := 9000, cls := .penitential }] } }; s.classOf 9000 = .penitential) ∧
    (mains.classOf 9000 ≠ .penitential ∧ { mains.strike with silence := true }.silence = true) ∧
    (let s := planned (.editing [none] 0)
     s.strike.silence = false ∧ silenceActive .clock 9000 15 s = false ∧ s.classOf (civilOf 0 ⟨864001 / 96, 864001 % 96 * 900⟩).day = .ordinary ∧
      silenceActive .quarters 9000 15 s = false ∧ (s.plan .ordinary).field 1 = (0 : Fin 24).1 + 1 ∧ (s.tune 0).isEditing = true) ∧
    ((planned (.valid [⟨0, 0⟩])).tune 0).isValid = true ∧ (mains.plan .ordinary).field 1 = 0 ∧
    (((planned .empty).tune 0).content = .empty ∧ ((planned .empty).plan .ordinary).field 4 = (0 : Fin 24).1 + 1) ∧
    (let x : Chime := { index := 864000, tune := some 0, strokes := 12, hourBell := 8, gap := 2000, pace := 2500 }
     let s := tuned (.valid (List.replicate 52 ⟨0, 1⟩))
     1 ≤ x.hourBell ∧ x.hourBell ≤ 16 ∧ x.hourBell = (7 : Fin 16).1 + 1 ∧ (s.tune 0).notes.length + x.strokes + s.strike.queue.length ≤ 64 ∧
      64 - (s.setQueue [entry .pending]).strike.queue.length < (s.tune 0).notes.length + x.strokes) ∧
    (let x : Chime := { index := 864001, tune := some 0, strokes := 0, hourBell := 0, gap := 2000, pace := 2500 }
     let s := tuned (.valid (List.replicate 64 ⟨0, 1⟩))
     x.hourBell = 0 ∧ x.strokes = 0 ∧ (s.tune 0).notes.length + x.strokes + s.strike.queue.length ≤ 64 ∧
      64 - (s.setQueue [entry .pending]).strike.queue.length < (s.tune 0).notes.length + x.strokes) := by decide +kernel

/-- A quarter held for tune 1. -/
def heldQuarter : Held :=
  { index := 864001, slot := 1, plan := .ordinary, tune := 0, strokes := 0, hourBell := 8, gap := 2000, pace := 2500, start := 0, expiry := 60000 }
def holdingQuarter (c : TuneContent) : State := { tuned c with strike := { mains.strike with held := some heldQuarter } }
theorem test_met_HeldQuartersAndTheQuarterMarker :
    ((timed 60000 (holdingQuarter .empty)).warm.held = none ∧ (timed 60000 (holdingQuarter .empty)).strike.held = some heldQuarter ∧
      heldQuarter.expiry ≤ (timed 60000 (holdingQuarter .empty)).now) ∧ (timed 59999 (holdingQuarter .empty)).now < heldQuarter.expiry ∧
    ((holdingQuarter (.valid [⟨0, 0⟩])).strike.held = some heldQuarter ∧ heldQuarter.tune = 0 ∧
      ((holdingQuarter (.valid [⟨0, 0⟩])).tune 0).content = .valid [⟨0, 0⟩]) ∧ mains.strike.held = none ∧
    ((120 : Int) ≤ 120 ∧ newerQuarter (9000 * 96 + 901 / 900) (some 864000) = true ∧ (901 % 900 ≠ 0) ∧
      newerQuarter 864000 (some 864000) = false ∧ (120 : Int) < 121) ∧
    ((⟨9000, 900⟩ : Label).sec % 900 = 0 ∧ newerQuarter 864001 (some 864000) = true ∧ newerQuarter 0 (some 6291455) = true) := by decide +kernel
theorem test_met_HeldQuartersAndTheQuarterMarker_marker : Instr.missedLimit ≠ .coldStart ∧ ∃ t, exec .missedLimit mains = .next t :=
  ⟨by decide, _, rfl⟩

def toll1 : Toll := { bell := 0, interval := 4, remaining := some 1, endTime := some 400, origin := .port .l2, begun := 0 }
def tolling : State := (queued .pending).setToll 0 (some toll1)
theorem test_met_TollsAndPanelStrikes : (PortFree .l2 (queued .pending) ∧ 1 ≤ 12 ∧ 12 ≤ 12 ∧ ((queued .pending).bell 0).config.hammer = true ∧
      (queued .pending).supply.state = .mains ∧ 12 + (queued .pending).strike.queue.length ≤ 64) ∧
    (Reaches .tollStart .l2 (queued .pending) ∧ 999 ≤ 999 ∧ (queued .pending).toll 0 = none ∧ (queued .pending).strike.queue.length < 64 ∧
      (∀ k, k < (0 : Fin 4) → (queued .pending).toll k ≠ none)) ∧ (Reaches .tollStart .l2 State.reset ∧ State.reset.supply.state = .battery) ∧
    (Reaches .tollStop .l2 tolling ∧ tolling.toll 0 = some toll1 ∧ toll1.bell = 0) ∧ (∀ k, mains.toll k = none) ∧
    (tolling.warm.held = none ∧ toll1.endTime = some 400) ∧ ((entry .pending).origin = .toll ∧ (entry .pending).number = (0 : Fin 4).1 + 1) := by
  decide +kernel
theorem test_met_TollsAndPanelStrikes_refusals : (Reaches .tollStart .l2 tolling ∧ (tolling.bell 0).config.hammer = true) ∧
    (let s := lined (List.replicate 64 (entry .pending))
     Reaches .tollStart .l2 s ∧ s.supply.state = .mains ∧ (s.bell 0).config.hammer = true ∧ 64 ≤ s.strike.queue.length ∧
      64 < 1 + s.strike.queue.length) ∧
    (let s := [(0 : Fin 4), 1, 2, 3].foldl (fun (s : State) n => s.setToll n (some { toll1 with bell := 1 })) (queued .pending)
     ∀ k, s.toll k ≠ none) ∧
    (Reaches .tollStart .l1 mains ∧ mains.supply.state = .mains ∧ (mains.bell 0).config.hammer = false) ∧ 999 < 1000 ∧
    (PortFree .l2 mains ∧ 12 < 13 ∧ ((configure 0 { hammer := true } State.reset).bell 0).config.hammer = true ∧
      (configure 0 { hammer := true } State.reset).supply.state = .battery) := by decide +kernel
theorem test_met_TollsAndPanelStrikes_records : (∀ k x, (queued .pending).toll k = some x → x.bell ≠ 0) ∧
    (∀ k y, tolling.toll k = some y → y.bell = 0 → k = 0) := by
  constructor
  · intro k x h; rw [(by decide +kernel : ∀ k, (queued .pending).toll k = none) k] at h; cases h
  · intro k y h _
    by_cases e : k = 0
    · exact e
    · rw [(by decide +kernel : ∀ k, k ≠ 0 → tolling.toll k = none) k e] at h; cases h

def silent : State := { mains with strike := { mains.strike with silence := true } }
theorem test_met_TheChamberSilence : (PortFree .l2 mains ∧ 1 ≤ 1 ∧ 1 < 2) ∧ (Port.l1 ≠ .l2 ∧ PortFree .l1 mains) ∧
    (silent.strike.silence = true ∧ silent.supply.state = .mains ∧ silent.classOf (silent.quarterStart 864000).day ≠ .penitential) := by decide +kernel
theorem test_met_TheChamberSilence_kept : (∃ t, exec .coldStart silent = .next t) ∧ (∃ t, exec .mainsRestored silent = .next t) ∧
    (∃ t, exec .warmResetEntry silent = .next t) ∧ (∃ t, exec .mainsLost silent = .next t) ∧ (∃ t, exec (.portReset .l1 0) silent = .next t) :=
  ⟨⟨_, rfl⟩, ⟨_, rfl⟩, ⟨_, rfl⟩, ⟨_, rfl⟩, ⟨_, rfl⟩⟩

/-- Four hammers energised, and an entry that waits for a share. -/
def fourOn : State := [(1 : Fin 16), 2, 3, 4].foldl (fun (s : State) b => s.setBell b { s.bell b with pulseEnd := some 460 }) (queued .share)
theorem test_met_TheShareLimit : PortFree .l1 mains ∧ (Port.l2 ≠ .l1 ∧ PortFree .l2 mains) ∧ (fourOn.bell 1).pulseEnd = some 460 ∧
    fourOn.strike.share ≤ fourOn.energised ∧ (strikeFail (entry .share).bell fourOn = none ∧ recovered (entry .share).bell fourOn = true) ∧
    (((queued .share).strike.queue.map (·.seq)).Nodup ∧ (queued .share).strike.queue = [] ++ entry .share :: [] ∧ (entry .share).wait = .share ∧
      strikeFail (entry .share).bell (queued .share) = none ∧ recovered (entry .share).bell (queued .share) = true ∧
      (queued .share).energised < (queued .share).strike.share) := by decide +kernel

/-- An event that stands in the calendar, and a date. -/
def tollEvent : Event := { valid := true, kind := .toll 11 4 10, selector := .weekly 0x7F 0xF, anchor := .civil 539 }
def calendar (e : Event) : State := (configure 11 { hammer := true } (dated .locked 9005 32400 mains)).setEvent 4 e
theorem test_met_WritingAndDeletingEvents : (PortFree .l1 mains ∧ eventArgs.event = (4 : Fin 96).1 + 1 ∧ (kindOf eventArgs).isSome ∧
      (selectorOf eventArgs mains).isSome ∧ (anchorOf eventArgs).isSome ∧ eventArgs.revision = 255) ∧
    (let a := { eventArgs with minute := 1439, count := 999, weekdays := 127, classes := 15 }
     (kindOf a).isSome ∧ (selectorOf a mains).isSome ∧ (anchorOf a).isSome) ∧
    (PortFree .l1 (calendar tollEvent) ∧ ((calendar tollEvent).event 4).valid = true ∧ 0 = ((calendar tollEvent).event 4).revision) ∧
    (mains.event 4).valid = false ∧ kindOf { eventArgs with count := 1000 } = none ∧ selectorOf { eventArgs with weekdays := 0 } mains = none ∧
    anchorOf { eventArgs with minute := 1440 } = none := by decide +kernel
theorem test_met_AnEventFiresOnceOnADate :
    ((calendar { tollEvent with lastFired := some 9005 }).event 4).lastFired = some (⟨9005, 539⟩ : DayMinute).day ∧
    (((calendar tollEvent).event 4).valid = true ∧ ((calendar tollEvent).event 4).kind.isWindow = false ∧
      ((calendar tollEvent).event 4).selector.admits 9005 ((calendar tollEvent).calendarClass 9005 9005) = true ∧
      ((calendar tollEvent).event 4).lastFired ≠ some 9005 ∧ startMinute 9005 ((calendar tollEvent).event 4) (calendar tollEvent) = some 539) ∧
    (let s : State := { calendar tollEvent with cal := { (calendar tollEvent).cal with cursor := some ⟨9005, 540⟩ } }
     s.civilNow = some ⟨9005, 32400⟩ ∧ s.cal.cursor = some ⟨9005, 540⟩ ∧ (⟨9005, 32400⟩ : Label).dayMinute.diff ⟨9005, 540⟩ ≤ 0) ∧
    ((⟨9005, 32400⟩ : Label).sec % 60 = 0 ∧ (⟨9005, 32400⟩ : Label).dayMinute.diff ⟨9005, 539⟩ = 1) ∧
    (let s := State.reset.setEvent 4 { kind := .ring 1 6 }; (s.event 4).kind = .ring 1 6 ∧ s.supply.state = .battery) ∧
    (mains.setEvent 4 { kind := .tune 1 } |>.event 4).kind = .tune 1 ∧
    ((startToll 11 4 10 (min 240 ((calendar tollEvent).event 4).duration) (.event 4) (calendar tollEvent)).2 matches .started _) = true := by
  decide +kernel
/-- A RING event of bell 1, on mains, with that bell fitted. -/
def ringEvent : Event := { tollEvent with kind := .ring 1 6, duration := 20 }
def sunEvent : Event := { tollEvent with anchor := .sunset 0 }
theorem test_met_AnEventFiresOnceOnADate_kinds :
    (let s := (guarded {}).setEvent 4 ringEvent
     (s.event 4).kind = .ring 1 6 ∧ s.supply.state = .mains ∧ (s.session 0).phase = .ended ∧ 0 ∈ maskBells 1 ∧ leftOutReason 0 s = none) ∧
    (∀ b ∈ maskBells 1, leftOutReason b (mains.setEvent 4 ringEvent) ≠ none) ∧
    (let s := [(0 : Fin 4), 1, 2, 3].foldl (fun (s : State) n => s.setSession n { phase := .ringing }) mains
     ∀ k, (s.session k).phase ≠ .ended) ∧
    ((calendar tollEvent).supply.state = .mains ∧ ((calendar tollEvent).event 4).kind = .toll 11 4 10 ∧
      ((calendar tollEvent).bell 11).config.hammer = true ∧ (mains.bell 11).config.hammer = false ∧
      64 ≤ (lined (List.replicate 64 (entry .pending))).strike.queue.length) ∧
    (let s := dated .locked 9005 32400 (tuned (.valid [⟨0, 0⟩]))
     s.supply.state = .mains ∧ s.civilNow = some ⟨9005, 32400⟩ ∧ s.classOf 9005 ≠ .penitential ∧ s.strike.silence = false ∧
      silenceActive .clock 9005 540 s = false ∧ (s.tune 0).content = .valid [⟨0, 0⟩]) ∧
    (let s := calendar sunEvent
     (s.event 4).valid = true ∧ (s.event 4).kind.isWindow = false ∧ (s.event 4).selector.admits 9005 (s.calendarClass 9005 9005) = true ∧
      (s.event 4).lastFired ≠ some 9005 ∧ startMinute 9005 (s.event 4) s = none) := by decide +kernel
theorem test_met_AnEventFiresOnceOnADate_jumps :
    ((calendar tollEvent).civilNow = some ⟨9005, 32400⟩ ∧ (⟨9005, 32400⟩ : Label).sec % 60 = 0 ∧
      2 ≤ (⟨9005, 32400⟩ : Label).dayMinute.diff ⟨9005, 538⟩) ∧
    (let s : State := { dated .locked 9005 32411 mains with cal := { cursor := some ⟨9005, 539⟩ } }
     s.civilNow = some ⟨9005, 32411⟩ ∧ (⟨9005, 32411⟩ : Label).sec % 60 ≠ 0 ∧ s.cal.cursor = some ⟨9005, 539⟩ ∧
      1 ≤ (⟨9005, 32411⟩ : Label).dayMinute.diff ⟨9005, 539⟩) ∧ (2 ≤ 3 ∧ 3 ≤ 3) ∧
    minutesAfter ⟨9005, 538⟩ ⟨9005, 539⟩ = 1 ∧ dateCrossed ⟨9005, 538⟩ 1 9005 = true ∧
    (startMinute 9005 ((calendar tollEvent).event 4) (calendar tollEvent) = some 539 ∧ 1 ≤ minutesAfter ⟨9005, 538⟩ ⟨9005, 539⟩ ∧
      minutesAfter ⟨9005, 538⟩ ⟨9005, 539⟩ ≤ 1) := by decide +kernel
/-- A scene event that waits for its sun entry, on a date no minute of which has been taken. -/
theorem test_met_AnEventFiresOnceOnADate_windows :
    (let s := calendar { sunEvent with kind := .scene 1 }
     (s.event 4).valid = true ∧ (s.event 4).kind.isWindow = true ∧ (s.event 4).selector.admits 9005 (s.calendarClass 9005 9005) = true ∧
      startMinute 9005 (s.event 4) s = none ∧ 9005 ∉ s.cal.datesTaken) ∧
    (((takeMinute 9005 ⟨9005, 539⟩ false (calendar tollEvent)).event 4).lastFired = some 9005) := by decide +kernel

/-- Channel 1 in a state, discharge, its scene not wanted. -/
def lamp (r : Channel) : State := (timed 12000 mains).setLight 0 r
theorem test_met_TheDerivationOfAChannel :
    (let s := lamp { configured := true, override := .forceOn }; (s.light 0).state = .off ∧ (desiredNow 0 s).desired = true ∧ s.supply.state = .mains) ∧
    (let s := lamp { configured := true, override := .forceOn, state := .lit }
     (s.light 0).state ≠ .off ∧ (s.light 0).state = .lit ∧ (desiredNow 0 s).desired = true) ∧
    ((lamp { state := .cooling }).light 0).state = .cooling ∧
    (let s := lamp { configured := true, state := .warming }; (s.light 0).state = .warming ∧ (desiredNow 0 s).desired = false) := by decide +kernel
theorem test_met_TheEventsOfAChannel :
    (let s := dated .locked 9000 60 (lamp { override := .forceOn, expiry := some ⟨9000, 1⟩ })
     s.warm.held = none ∧ s.tb.label = some ⟨9000, 60⟩ ∧ (s.light 0).expiry = some ⟨9000, 1⟩) ∧ (mains.light 0).expiry = none ∧
    (let s := lamp { state := .warming, warmEnd := some 12000 }; (s.light 0).state = .warming ∧ (s.light 0).warmEnd = some 12000 ∧ 12000 ≤ s.now) ∧
    (lamp {}).now < 12001 ∧
    (let s := lamp { state := .cooling, restrikeExpiry := some 12000 }
     (s.light 0).state = .cooling ∧ (s.light 0).restrikeExpiry = some 12000 ∧ 12000 ≤ s.now ∧ (desiredNow 0 s).desired = false) ∧
    (let s := lamp { configured := true, override := .forceOn, state := .cooling, restrikeExpiry := some 12000 }
     (s.light 0).restrikeExpiry = some 12000 ∧ (desiredNow 0 s).desired = true ∧ s.supply.state = .mains) ∧
    (let s := lamp { kind := .relay, state := .lit, sense := true, switchOn := some 10000 }
     (s.light 0).state = .lit ∧ (s.light 0).sense = true ∧ (s.light 0).watch = .idle ∧ (s.light 0).switchOn = some 10000 ∧ 10000 + 2000 ≤ s.now) ∧
    (let s := lamp { kind := .relay, state := .lit, sense := true, switchOn := some 10001 }
     (s.light 0).kind = .relay ∧ (s.light 0).switchOn = some 10001 ∧ s.now < 10001 + 2000) ∧
    ((lamp { state := .lit, sense := true }).light 0).kind = .discharge ∧ ((lamp { watch := .running none }).light 0).watch = .running none ∧
    (let s := lamp { state := .lit, watch := .running (some 2000) }
     (s.light 0).state = .lit ∧ (s.light 0).watch = .running (some 2000) ∧ 2000 + 10000 ≤ s.now) ∧ (lamp {}).now < 2001 + 10000 := by decide +kernel
theorem test_met_TheRequestsOfAChannel :
    (PortFree .l3 mains ∧ ChannelsOk mains ∧ Port.l3 ≠ .l2 ∧ lightArgs.channel = (0 : Fin 8).1 + 1 ∧ lightArgs.configured ≤ 1 ∧ lightArgs.kind = LampKind.discharge.code ∧
      lightArgs.follow ≤ 1 ∧ lightArgs.sense ≤ 1 ∧ lightArgs.revision = 255 ∧ LampKind.discharge = (mains.light 0).kind ∧ (mains.light 0).state = .off) ∧
    (PortFree .l1 (lamp { state := .lit }) ∧ LampKind.relay ≠ ((lamp { state := .lit }).light 0).kind ∧ ((lamp { state := .lit }).light 0).state ≠ .off) ∧
    (PortFree .l3 (lamp { configured := true }) ∧ ((lamp { configured := true }).light 0).configured = true ∧ Override.forceOn ≠ .auto ∧ 1439 ≤ 1439 ∧
      (dated .locked 9000 0 (lamp { configured := true })).tb.label = some ⟨9000, 0⟩ ∧ (lamp { configured := true }).tb.label = none) ∧
    (mains.light 0).configured = false ∧
    (ChannelsOk (lamp { configured := true, state := .failed }) ∧ ((lamp { configured := true, state := .failed }).light 0).state = .failed ∧
      0 = 0) ∧ (mains.light 0).state ≠ .failed ∧
    (¬ (0 = 1 ↔ ((lamp { configured := true, state := .lit }).light 0).configured = true) ∧
      ((lamp { configured := true, state := .lit }).light 0).state ≠ .off ∧ ((lamp { configured := true, state := .lit }).light 0).state ≠ .failed) ∧
    (1 ≠ 255 ∧ 1 ≠ (mains.light 0).revision) ∧
    (8 < 9 ∧ 1 < 2 ∧ 2 < 3 ∧ 1440 ≠ 0xFFFF ∧ 1439 < 1440 ∧ 0 = Override.auto.code) := by unfold ChannelsOk; decide +kernel

theorem test_met_TheSupplyAndResetLines : State.reset.lines.mainsOk = false ∧ State.reset.lines.mainsOk ≠ true ∧ State.reset.lines.battLow = false ∧
    State.reset.lines.battLow ≠ true ∧ State.reset.lines.resetN = true ∧ State.reset.lines.resetN ≠ false ∧
    (let s : State := timed 1000 { State.reset with supply := { lowSince := some 0 } }; s.supply.lowSince = some 0 ∧ 0 + 1000 ≤ s.now) ∧
    (let s : State := timed 999 { State.reset with supply := { lowSince := some 0 } }; s.now < 0 + 1000) := by decide +kernel
/-- A hammer, a lamp, a dial impulse and a session running, and the loss of the mains debounced. -/
def busy : State :=
  let s := ((timed 200 (ringing starting {})).setBell 1 { config := fullBell, pulseEnd := some 260 }).setLight 0 { configured := true, state := .lit }
  { s.setDial 0 { fitted := true, state := .run, flight := some { impulse with width := 400 } } with
    supply := { state := .mains, debounce := some 0 } }
theorem test_met_LossAndReturnOfMains : (busy.supply.state = .mains ∧ busy.supply.debounce = some 0 ∧ 0 + 200 ≤ busy.now ∧ busy.warm.held = none ∧
      (busy.session 0).phase = .startingBells ∧ (busy.dial 0).flight.isSome) ∧ (held busy).warm.held ≠ none ∧
    (let s : State := timed 5000 { State.reset with supply := { debounce := some 0 } }
     s.supply.state = .battery ∧ s.supply.debounce = some 0 ∧ 0 + 5000 ≤ s.now) ∧ (timed 199 busy).now < 0 + 200 := by decide +kernel
theorem test_met_WarmReset : (let s : State := { busy with warm := { since := some 190 } }
     s.warm.held = none ∧ s.warm.since = some 190 ∧ 190 + 10 ≤ s.now ∧ (s.session 0).phase ≠ .ended ∧ (s.light 0).state = .lit) ∧
    ((tuned (.editing [none] 0)).tune 0).isEditing = true ∧ (mains.tune 0).isEditing = false ∧
    (paired .locked 0 ⟨9000, 0⟩).ref.message.isSome ∧
    (let s : State := { timed 20 mains with warm := { since := some 10, held := some 10 } }
     s.warm.held = some 10 ∧ s.warm.since = some 10 ∧ 10 + 10 ≤ s.now ∧ (s.port .l1).queue = [] ∧ (s.port .l1).routing.getLsbD 7 = true ∧
      (s.bell 0).guard.atEng.since = none ∧ overrideReached 0 s = false) ∧
    (overrideReached 0 (dated .locked 9000 60 (lamp { override := .forceOn, expiry := some ⟨9000, 1⟩ })) = true ∧
      ((lamp { configured := true, state := .failed }).light 0).state = .failed) ∧
    (let s : State := { timed 19 mains with warm := { since := some 10 } }; s.now < 10 + 10) := by decide +kernel

/-- A lamp that has cooled at run time 600,000, on BATTERY. -/
def cooled : State := { timed 600000 State.reset with lights := State.reset.lights.set 0 { restrikeExpiry := some 600000 } }
theorem test_met_NoOutputOnBatteryAndNoLampWithinItsRestrike : DarkOk cooled ∧ LampsOk cooled ∧ ∃ t, step cooled = .next t := by
  refine ⟨fun _ => by unfold AllOff; decide +kernel, ?_, _, rfl⟩
  intro c _ _ x h
  by_cases e : c = 0
  · subst e; rw [(by decide +kernel : (cooled.light 0).restrikeExpiry = some 600000)] at h; cases h; decide
  · rw [(by decide +kernel : ∀ c, c ≠ 0 → (cooled.light c).restrikeExpiry = none) c e] at h; cases h

end Sys2Proof.Tests
end

section
/-! SUPPORT. Reference pulses in LOCKED (R6, R11, R12, R18): what a taken pulse leads to, what the label check leaves of
the Time Base, and the outlier count at a boundary. -/

namespace Sys2Proof.Machine

/-! ### A pulse that is taken -/

theorem within_iff {e window : Int} : within e window = true ↔ -window ≤ e ∧ e ≤ window := by simp [within]

theorem within_stepThreshold_eq_false {e : Int} (h : 419430 < e ∨ e < -419430) : within e Config.stepThreshold = false := by
  rw [Bool.eq_false_iff, Ne, within_iff, Config.stepThreshold]
  omega

/-- A taken pulse goes to the discipline state, its message consumed (R6, R17). -/
theorem refPulse_taken {s s1 : State} {msg : Option Label} (h : PulseTaken s msg s1) : refPulse s = takenPulse msg s1 := by
  obtain ⟨held, apart, ⟨mode, rfl, rfl⟩ | ⟨mode, rfl, waits, rfl⟩⟩ := h
  · simp [refPulse, State.isHeld, held, apart, mode]
  · obtain ⟨m, hm⟩ := Option.isSome_iff_exists.mp waits
    simp [refPulse, State.isHeld, held, apart, mode, hm, consumeMessage, State.setRef]

/-- Consuming its message is all that taking a pulse does by itself, so the Time Base is as it was. -/
theorem PulseTaken.tb_eq {s s1 : State} {msg : Option Label} (h : PulseTaken s msg s1) : s1.tb = s.tb := by
  obtain ⟨-, -, ⟨-, -, rfl⟩ | ⟨-, -, -, rfl⟩⟩ := h
  · rfl
  · split <;> rfl

/-- An outlier leaves its message waiting (assumption 36). -/
theorem PulseTaken.eq_of_outlier {s s1 : State} {msg : Option Label} (h : PulseTaken s msg s1)
    (out : outlierPulse s = true) : s1 = s := by
  obtain ⟨-, -, ⟨-, -, rfl⟩ | ⟨-, -, -, rfl⟩⟩ := h
  · rfl
  · exact if_pos out

theorem outlierPulse_of_beyond {s : State} (locked : s.tb.disc = .locked)
    (beyond : 419430 < pulseError s.tb.count s.tb.len ∨ pulseError s.tb.count s.tb.len < -419430) :
    outlierPulse s = true := by
  simp [outlierPulse, locked, within_stepThreshold_eq_false beyond]

/-! ### The three outcomes in LOCKED (R11) -/

theorem exec_refPulse_locked {s s1 : State} {msg : Option Label} (h : PulseTaken s msg s1) (locked : s.tb.disc = .locked) :
    exec .refPulse s = .next (lockedPulse (pulseError s.tb.count s.tb.len) msg s1) := by
  have taken : refPulse s = lockedPulse (pulseError s.tb.count s.tb.len) msg s1 := by
    simp [refPulse_taken h, takenPulse, h.tb_eq, locked]
  exact congrArg _ taken

/-- The first two outliers in a row are counted. -/
theorem lockedPulse_outlier {s : State} {e : Int} (msg : Option Label) (beyond : 419430 < e ∨ e < -419430)
    (few : s.tb.outlier < 2) : lockedPulse e msg s = s.setTb { s.tb with outlier := s.tb.outlier + 1 } := by
  have third : ¬ 3 ≤ s.tb.outlier + 1 := by omega
  simp [lockedPulse, within_stepThreshold_eq_false beyond, third]

/-- The third outlier in a row moves LOCKED to ACQUIRE. -/
theorem lockedPulse_third {s : State} {e : Int} (msg : Option Label) (locked : s.tb.disc = .locked)
    (beyond : 419430 < e ∨ e < -419430) (two : 2 ≤ s.tb.outlier) : lockedPulse e msg s =
      post .stateChanged 0 (pair 3 2) (s.setTb { s.tb with disc := .acquire, outlier := 0, good := 0 }) := by
  have third : 3 ≤ s.tb.outlier + 1 := by omega
  have moves : (s.setTb { s.tb with outlier := 0, good := 0 }).tb.disc ≠ .acquire := by simp [locked]
  calc lockedPulse e msg s
      = setDisc .acquire (s.setTb { s.tb with outlier := 0, good := 0 }) := by
        simp only [lockedPulse, within_stepThreshold_eq_false beyond, Bool.not_false, if_true, if_pos third]
    _ = post .stateChanged 0 (pair 3 2) (s.setTb { s.tb with disc := .acquire, outlier := 0, good := 0 }) := by
        rw [setDisc_change _ moves]
        simp [locked, State.setTb, Discipline.code]

theorem learn_eq (e : Int) (t : TimeBase) : learn e t = { t with
    freq := if t.slew = 0 ∧ t.prevMark = true then clampInt (-26214400) 26214400 (t.freq + 64 * e) else t.freq } := by
  unfold learn
  split <;> rfl

/-- Any other pulse is accepted: it learns (R12), P becomes its error, and its message is checked (R18). -/
theorem lockedPulse_accepted {s : State} {e : Int} (msg : Option Label) (low : -419430 ≤ e) (high : e ≤ 419430) :
    lockedPulse e msg s = checkPulse e msg (s.setTb { s.tb with
      lastAccepted := some s.now, curMark := true, missed := 0, slew := e, outlier := 0
      freq := if s.tb.slew = 0 ∧ s.tb.prevMark = true then clampInt (-26214400) 26214400 (s.tb.freq + 64 * e)
        else s.tb.freq }) := by
  have inside : within e Config.stepThreshold = true := within_iff.mpr ⟨low, high⟩
  simp [lockedPulse, inside, acceptPulse, learn_eq, State.setTb]

/-! ### The label check of a pulse and the Time Base (R18, R19) -/

/-- A relabel in mid-second writes the label; the blocks it reaches leave the Time Base alone. -/
theorem relabel_tb (delta : Int) (l : Label) (s : State) : (relabel delta l s).tb = { s.tb with label := some l } := by
  simp [relabel, (relabelWindows_frame _).tb, (calendarCompare_frame _ _ _).tb, (quarterStep_frame _ _ _).tb,
    (dialsFull_frame _).tb, (dateChange_frame _ _ _).tb, (postStep_frame _ _).tb]

theorem countMismatch_tb (delta : Int) (s : State) :
    (countMismatch delta s).tb = { s.tb with mismatch := min 255 (s.tb.mismatch + 1) } := by
  simp [countMismatch]

/-- The label check writes the label and the mismatch count alone. -/
theorem labelCheck_tb (msg implied : Label) (s : State) :
    ∃ l n, (labelCheck msg implied s).tb = { s.tb with label := l, mismatch := n } := by
  unfold labelCheck
  split
  · exact ⟨s.tb.label, 0, rfl⟩
  · dsimp only
    split
    · split
      next l _ => exact ⟨_, _, by rw [relabel_tb, matchLabels, State.setRef_tb, State.setTb_tb, countMismatch_tb]⟩
      next => exact ⟨s.tb.label, _, countMismatch_tb _ s⟩
    · exact ⟨s.tb.label, _, countMismatch_tb _ s⟩

theorem checkPulse_none (e : Int) (s : State) : checkPulse e none s = s := rfl

theorem checkPulse_tb (e : Int) (msg : Option Label) (s : State) :
    ∃ l n, (checkPulse e msg s).tb = { s.tb with label := l, mismatch := n } := by
  unfold checkPulse
  split
  next m l _ => exact labelCheck_tb m (impliedLabel e l) s
  next => exact ⟨s.tb.label, s.tb.mismatch, rfl⟩

/-! ### The outlier count at a boundary -/

@[simp] theorem missedTest_outlier (s : State) : (missedTest s).tb.outlier = s.tb.outlier := by
  have h := congrArg TimeBase.outlier (missedTest_tb s)
  simp only [apply_ite TimeBase.outlier, ite_self] at h
  exact h
@[simp] theorem holdoverRise_outlier (s : State) : (holdoverRise s).tb.outlier = s.tb.outlier := by
  rw [holdoverRise_tb]; split <;> rfl
@[simp] theorem leaveUnset_outlier (waited : Bool) (s : State) : (leaveUnset waited s).tb.outlier = s.tb.outlier := by
  rw [leaveUnset_tb]; split <;> rfl

/-- Only a pulse counts or clears outliers; the beginning of a second does neither. -/
theorem beginSecond_outlier (l : Option Label) (s : State) : (beginSecond l s).tb.outlier = s.tb.outlier := by
  simp [beginSecond_tb, TimeBase.takePending_eq, TimeBase.newSecond]

theorem localSecondBoundary_outlier (s : State) : (localSecondBoundary s).tb.outlier = s.tb.outlier := by
  unfold localSecondBoundary
  split
  · rfl
  · simp [boundary, finishSecond_tb, beginSecond_outlier]

/-! ### The statement -/

/-- Settles O22, from the three outcomes of a taken pulse in LOCKED, what the label check writes of the Time Base, and
the outlier count at a boundary. -/
theorem aPulseInLocked : Obligations.APulseInLocked := by
  refine ⟨fun s msg s1 taken locked => ⟨fun beyond few => ?outlier, fun beyond two => ?third, fun low high => ?accepted⟩,
    checkPulse_none, fun e msg s => ?check, fun s t _ ran => ?boundary⟩
  case outlier =>
    obtain rfl := taken.eq_of_outlier (outlierPulse_of_beyond locked beyond)
    exact ⟨s1.ref.message, by rw [exec_refPulse_locked taken locked, lockedPulse_outlier msg beyond few]; rfl⟩
  case third =>
    obtain rfl := taken.eq_of_outlier (outlierPulse_of_beyond locked beyond)
    exact ⟨s1.ref.message, by rw [exec_refPulse_locked taken locked, lockedPulse_third msg locked beyond two]; rfl⟩
  case accepted =>
    have now : s1.now = s.now := by rw [State.now, State.now, taken.tb_eq]
    rw [exec_refPulse_locked taken locked, lockedPulse_accepted msg low high, taken.tb_eq, now]
    rfl
  case check =>
    obtain ⟨l, n, written⟩ := checkPulse_tb e msg s
    simp [written]
  case boundary =>
    cases ran
    exact localSecondBoundary_outlier s

end Sys2Proof.Machine
end

section
/-! SUPPORT. The Sunday class (R35): the codes it can be set to, what CIVIL_CONFIG answers, and the lookup of a Sunday
that no entry names (R37). -/

namespace Sys2Proof.Machine

/-! ### The two codes -/

theorem sundayClassOf_of_le {n : Nat} (h : n ≤ 1) :
    sundayClassOf n = some (if n = 0 then .ordinary else .feast) := by
  obtain rfl | rfl := Nat.le_one_iff_eq_zero_or_eq_one.mp h <;> rfl

theorem sundayClassOf_of_lt {n : Nat} (h : 1 < n) : sundayClassOf n = none := by
  have zero : n ≠ 0 := by omega
  have one : n ≠ 1 := by omega
  simp [sundayClassOf, zero, one]

/-- A Sunday class is reported with the code that set it. -/
theorem code_of_sundayClassOf {n : Nat} {c : DayClass} (h : sundayClassOf n = some c) : c.code = n := by
  unfold sundayClassOf at h
  split at h
  case isTrue zero => cases h; exact zero.symm
  case isFalse =>
    split at h
    case isTrue one => cases h; exact one.symm
    case isFalse => cases h

/-! ### CIVIL_CONFIG -/

theorem exec_civilConfig (p : Port) (tag : Byte) (cls : Nat) (s : State) :
    exec (.civilConfig p tag cls) s = .next (request .civilConfig p tag (actCivilConfig cls) s) := rfl

theorem actCivilConfig_accepted {cls : Nat} {c : DayClass} (s : State) (h : sundayClassOf cls = some c) :
    actCivilConfig cls s = accept (be1 cls) { s with civil := { s.civil with sundayClass := c } } := by
  simp [actCivilConfig, h, code_of_sundayClassOf h]

theorem actCivilConfig_range {cls : Nat} (s : State) (h : sundayClassOf cls = none) :
    actCivilConfig cls s = refuse .range s := by
  simp [actCivilConfig, h]

/-- CIVIL_CONFIG is a request of L1 alone. -/
theorem permits_civilConfig (p : Port) : Req.civilConfig.permits p = decide (p = .l1) := by
  cases p <;> rfl

/-- At a free L1 the answer is what the Civil Time Unit replies. -/
theorem exec_civilConfig_l1 {s : State} (tag : Byte) (cls : Nat) (free : PortFree .l1 s) :
    exec (.civilConfig .l1 tag cls) s = .next (answered .l1 tag (actCivilConfig cls s).status
      (actCivilConfig cls s).payload (actCivilConfig cls s).state) := by
  rw [exec_civilConfig, request_reaches tag _ ⟨free, permits_civilConfig .l1⟩]

/-! ### The lookup -/

/-- A Sunday that no entry names has the Sunday class as it stands when the class is looked up. -/
theorem classOf_sunday {s : State} {d : Nat} (unlisted : ∀ e ∈ s.days.entries, e.date ≠ d) (sunday : weekday d = 6) :
    s.classOf d = s.civil.sundayClass := by
  have unfound : s.days.entries.find? (fun e => e.date == d) = none := by simpa using unlisted
  simp [State.classOf, unfound, sunday]

/-! ### The statement -/

/-- Settles O29, from the two codes of the Sunday class, the port that may set it, the lookup of an unlisted Sunday,
and the frames of the two steps of a warm reset. -/
theorem theSundayClass : Obligations.TheSundayClass := by
  refine ⟨fun tag s cls free le => ?accepted, fun tag s cls free lt => ?range,
    fun p tag s cls free other => ?denied, fun s t ran => ?cold, fun s t ran => ?entry, fun s t ran => ?completion⟩
  case accepted =>
    intro c t
    refine ⟨?_, fun d unlisted sunday => classOf_sunday (s := t) unlisted sunday⟩
    rw [exec_civilConfig_l1 tag cls free, actCivilConfig_accepted s (sundayClassOf_of_le le)]
    rfl
  case range =>
    rw [exec_civilConfig_l1 tag cls free, actCivilConfig_range s (sundayClassOf_of_lt lt)]
    rfl
  case denied =>
    have notPermitted : Req.civilConfig.permits p = false := by simp [permits_civilConfig, other]
    rw [exec_civilConfig, request_denied tag _ free notPermitted]
  case cold =>
    cases ran
    rfl
  case entry =>
    cases ran
    rw [(warmResetEntry_frame s).civil]
  case completion =>
    cases ran
    rw [(warmResetCompletion_frame s).civil]

end Sys2Proof.Machine
end

section
/-! SUPPORT. The full decision of a dial (R45, R49): the target and the distance, the table of R49 row by row, and when
advancing is the quicker way. -/

namespace Sys2Proof.Machine

/-! ### The target and the distance (R45) -/

/-- The position is the half-minute of the day on a twelve-hour face of 1,440 half-minutes. -/
theorem dialTarget_eq (c : Label) : dialTarget c = c.sec / 30 % 1440 := by
  simp only [dialTarget, Label.minute]
  split <;> omega

theorem dialTarget_lt (c : Label) : dialTarget c < 1440 := by
  rw [dialTarget_eq]
  exact Nat.mod_lt _ (by decide)

theorem dialDistance_lt (t p : Nat) : dialDistance t p < 1440 := Nat.mod_lt _ (by decide)

/-- As many impulses as the distance bring the hands onto the target. -/
theorem add_dialDistance_mod {t : Nat} (target : t < 1440) (p : Nat) : (p + dialDistance t p) % 1440 = t := by
  unfold dialDistance
  omega

theorem target_of_unset {s : State} (unset : s.tb.label = none) : s.target = none := by
  simp [State.target, State.civilNow, unset]

theorem target_of_label {s : State} {l : Label} (valid : s.tb.label = some l) :
    s.target = some (dialTarget (civilOf s.civil.offset l)) := by
  simp [State.target, State.civilNow, valid]

/-! ### The rows of the table (R49) -/

section
variable {r : Dial} {t : Nat}

theorem fullState_onTarget (zero : dialDistance t r.position = 0) : fullState r t = .run := by
  simp [fullState, zero]

theorem fullState_withinHold (off : dialDistance t r.position ≠ 0)
    (within : 1440 - dialDistance t r.position ≤ r.holdLimit) : fullState r t = .hold := by
  simp [fullState, off, within]

/-- Beyond the hold limit the comparison decides: a quicker advance is one impulse or a catch-up. -/
theorem fullState_quicker (off : dialDistance t r.position ≠ 0)
    (beyond : r.holdLimit < 1440 - dialDistance t r.position)
    (quicker : dialDistance t r.position * r.fast < (1440 - dialDistance t r.position) * (30 - r.fast)) :
    fullState r t = if dialDistance t r.position = 1 then .run else .advance := by
  simp [fullState, off, Nat.not_le.mpr beyond, quicker]

theorem fullState_slower (off : dialDistance t r.position ≠ 0)
    (beyond : r.holdLimit < 1440 - dialDistance t r.position)
    (slower : (1440 - dialDistance t r.position) * (30 - r.fast) ≤ dialDistance t r.position * r.fast) :
    fullState r t = .hold := by
  simp [fullState, off, Nat.not_le.mpr beyond, Nat.not_lt.mpr slower]

end

/-! ### The decision -/

theorem fullDecision_unset (d : Fin 4) {s : State} (unset : s.tb.label = none) :
    fullDecision d s = enterDial d .hold s := by
  simp [fullDecision, target_of_unset unset]

/-- While time is valid the dial enters the state that the table gives for the target of the civil time. -/
theorem fullDecision_eq {d : Fin 4} {s : State} {l : Label} {st : DialState} (valid : s.tb.label = some l)
    (row : fullState (s.dial d) (dialTarget (civilOf s.civil.offset l)) = st) :
    fullDecision d s = enterDial d st s := by
  simp [fullDecision, target_of_label valid, row]

/-! ### Which way is quicker -/

/-- Once `a * f` is added, the two sides are the whole face at `f` seconds an impulse and the wait at 30 seconds a
half-minute. -/
theorem advance_quicker_iff {d a f : Nat} (face : d + a = 1440) (le : f ≤ 30) :
    d * f < a * (30 - f) ↔ 48 * f < a := by
  have advancing : d * f + a * f = 1440 * f := by rw [← Nat.add_mul, face]
  have waiting : a * (30 - f) + a * f = a * 30 := by rw [← Nat.mul_add, Nat.sub_add_cancel le]
  omega

/-! ### The statement -/

/-- Settles O33, from the rows of the table of R49, the target and distance of R45, and the comparison of the two
ways onto the target. -/
theorem theFullDecisionOfADialAndItsDistance : Obligations.TheFullDecisionOfADialAndItsDistance := by
  refine ⟨fun d s _ _ => ⟨fullDecision_unset d, fun l valid =>
      ⟨fun zero => ?onTarget, fun off within => ?withinHold, fun beyond quicker one => ?oneImpulse,
        fun beyond quicker two => ?catchUp, fun off beyond slower => ?slower⟩⟩,
    dialTarget_lt, dialTarget_eq, fun t p target _ => ⟨dialDistance_lt t p, add_dialDistance_mod target p⟩,
    fun d a f => advance_quicker_iff⟩
  case onTarget => exact fullDecision_eq valid (fullState_onTarget zero)
  case withinHold => exact fullDecision_eq valid (fullState_withinHold off within)
  case oneImpulse =>
    exact fullDecision_eq valid ((fullState_quicker (by omega) beyond quicker).trans (if_pos one))
  case catchUp =>
    exact fullDecision_eq valid ((fullState_quicker (by omega) beyond quicker).trans (if_neg (by omega)))
  case slower => exact fullDecision_eq valid (fullState_slower off beyond slower)

end Sys2Proof.Machine
end

section
/-! SUPPORT. Giving up an edit (R114): the places that the tunes take of the pool, what handing a tune to the Strike Unit
leaves of the tunes, and what TUNE_ABORT answers. -/

namespace Sys2Proof.Machine

/-! ### The pool (R110) -/

/-- The places that the tunes take of the pool together. -/
def State.placesTaken (s : State) : Nat := (allTunes.map (fun j => (s.tune j).length)).sum

theorem State.freeCount_eq (s : State) : s.freeCount = 1024 - s.placesTaken := rfl

theorem poolOk_iff {s : State} : PoolOk s ↔ s.placesTaken ≤ 1024 := Iff.rfl

/-- Where one tune alone differs, the places taken differ by its length. -/
theorem placesTaken_add_length {s t : State} {k : Fin 24} (others : ∀ j, j ≠ k → t.tune j = s.tune j) :
    t.placesTaken + (s.tune k).length = s.placesTaken + (t.tune k).length := by
  have apart (u : State) : u.placesTaken = (u.tune k).length + ∑ j ∈ Finset.univ.erase k, (u.tune j).length := by
    rw [State.placesTaken, allTunes, ← Fin.sum_univ_def]
    exact (Finset.add_sum_erase _ (fun j => (u.tune j).length) (Finset.mem_univ k)).symm
  have rest : ∑ j ∈ Finset.univ.erase k, (t.tune j).length = ∑ j ∈ Finset.univ.erase k, (s.tune j).length :=
    Finset.sum_congr rfl fun j hj => by rw [others j (Finset.ne_of_mem_erase hj)]
  rw [apart s, apart t, rest]
  omega

/-- In a pool within its bound a tune that becomes EMPTY gives back its length. -/
theorem freeCount_of_emptied {s t : State} {k : Fin 24} (others : ∀ j, j ≠ k → t.tune j = s.tune j)
    (emptied : (t.tune k).content = .empty) (ok : PoolOk s) : t.freeCount = s.freeCount + (s.tune k).length := by
  have sum := placesTaken_add_length others
  have zero : (t.tune k).length = 0 := by rw [Tune.length, emptied]
  rw [poolOk_iff] at ok
  rw [t.freeCount_eq, s.freeCount_eq]
  omega

theorem Tune.length_editing {r : Tune} {xs : List (Option Note)} {x : Instant} (h : r.content = .editing xs x) :
    r.length = xs.length := by
  rw [Tune.length, h]

/-! ### The change of one tune and its hand-over (R117) -/

theorem tuneHandoff_tune (k j : Fin 24) (s : State) : (tuneHandoff k s).tune j = s.tune j := by
  rw [State.tune, State.tune, (tuneHandoff_frame s k).tunes]

theorem changeTune_tune_self (k : Fin 24) (r : Tune) (s : State) : (changeTune k r s).tune k = r := by
  rw [changeTune, tuneHandoff_tune, State.setTune_tune_self]

theorem changeTune_tune_ne {k j : Fin 24} (h : j ≠ k) (r : Tune) (s : State) :
    (changeTune k r s).tune j = s.tune j := by
  rw [changeTune, tuneHandoff_tune, State.setTune_tune_ne _ h.symm]

/-! ### TUNE_ABORT (R114) -/

/-- A tune is named by its number from 1. -/
theorem named_succ {n : Nat} (k : Fin n) : named n (k.1 + 1) = some k := by
  have inRange : 1 ≤ k.1 + 1 ∧ k.1 + 1 ≤ n := by omega
  simp [named, inRange]

theorem Tune.isEditing_of_editing {r : Tune} {xs : List (Option Note)} {x : Instant} (h : r.content = .editing xs x) :
    r.isEditing = true := by
  rw [Tune.isEditing, h]

theorem Tune.isEditing_eq_false {r : Tune} (h : ∀ xs x, r.content ≠ .editing xs x) : r.isEditing = false := by
  unfold Tune.isEditing
  split
  next xs x editing => exact absurd editing (h xs x)
  next => rfl

theorem abortEdit_editing {k : Fin 24} {s : State} {xs : List (Option Note)} {x : Instant}
    (h : (s.tune k).content = .editing xs x) :
    abortEdit k s = changeTune k { content := .empty, revision := (s.tune k).revision } s := by
  simp only [abortEdit, h]

theorem actTuneAbort_editing {k : Fin 24} {s : State} {xs : List (Option Note)} {x : Instant}
    (h : (s.tune k).content = .editing xs x) :
    actTuneAbort (k.1 + 1) s =
      editReply .ok [] (changeTune k { content := .empty, revision := (s.tune k).revision } s) := by
  simp [actTuneAbort, named_succ, Tune.isEditing_of_editing h, abortEdit_editing h]

theorem actTuneAbort_state {k : Fin 24} {s : State} (h : ∀ xs x, (s.tune k).content ≠ .editing xs x) :
    actTuneAbort (k.1 + 1) s = editReply .state [] s := by
  simp [actTuneAbort, named_succ, Tune.isEditing_eq_false h]

/-- At a free L1, the port whose request TUNE_ABORT is, the answer is what the Tune Store replies. -/
theorem exec_tuneAbort_l1 {s : State} (tag : Byte) (tune : Nat) (free : PortFree .l1 s) :
    exec (.tuneAbort .l1 tag tune) s = .next (answered .l1 tag (actTuneAbort tune s).status
      (actTuneAbort tune s).payload (actTuneAbort tune s).state) := by
  have reached := request_reaches (r := .tuneAbort) tag (actTuneAbort tune) ⟨free, rfl⟩
  exact congrArg _ reached

/-! ### The statement -/

/-- Settles O45, from the two replies of TUNE_ABORT, the tunes after the hand-over, and the free count of a pool in
which one tune is emptied. -/
theorem theAbortOfATune : Obligations.TheAbortOfATune := by
  refine fun k tag s free => ⟨fun xs x editing => ?emptied, fun other => ⟨be2 s.freeCount, ?refused⟩⟩
  case emptied =>
    intro t
    have self : t.tune k = { content := .empty, revision := (s.tune k).revision } := changeTune_tune_self k _ s
    have others : ∀ j, j ≠ k → t.tune j = s.tune j := fun j ne => changeTune_tune_ne ne _ s
    refine ⟨?_, self, others, fun ok => ?_⟩
    · rw [exec_tuneAbort_l1 tag _ free, actTuneAbort_editing editing]
      rfl
    · rw [freeCount_of_emptied others (by rw [self]) ok, Tune.length_editing editing]
  case refused =>
    rw [exec_tuneAbort_l1 tag _ free, actTuneAbort_state other]
    rfl

end Sys2Proof.Machine
end

section
/-! SUPPORT. The share limit (R144): one entry's turn in a walk of the strike queue, what taking up an entry does to the
hammer pulses, the first entry that waits for a share, and what PART_CONFIG answers. -/

namespace Sys2Proof.Machine

/-! ### One entry's turn in a walk of the queue -/

/-- The turn of an entry: it is taken up as it stands in the queue now, if it is still there and the test picks it. -/
def entryTurn (pick : Entry → State → Bool) (s : State) (e : Entry) : State :=
  match s.strike.queue.find? (fun x => x.seq == e.seq) with
  | some x => if pick x s then takeUp x s else s
  | none => s

theorem takeUpEach_eq_foldl (pick : Entry → State → Bool) (s : State) :
    takeUpEach pick s = s.strike.queue.foldl (entryTurn pick) s := rfl

/-- Insertion sequences tell the entries of a queue apart. -/
theorem find?_seq_of_mem {q : List Entry} {e : Entry} (distinct : (q.map (·.seq)).Nodup) (mem : e ∈ q) :
    q.find? (fun x => x.seq == e.seq) = some e := by
  have found : (q.find? (fun x => x.seq == e.seq)).isSome := List.find?_isSome.mpr ⟨e, mem, beq_self_eq_true _⟩
  obtain ⟨x, hx⟩ := Option.isSome_iff_exists.mp found
  have same : x.seq = e.seq := by simpa using List.find?_some hx
  rw [hx, List.inj_on_of_nodup_map distinct (List.mem_of_find?_eq_some hx) mem same]

/-- The turn of an entry that stands in the queue. -/
theorem entryTurn_of_mem {pick : Entry → State → Bool} {s : State} {e : Entry}
    (distinct : (s.strike.queue.map (·.seq)).Nodup) (mem : e ∈ s.strike.queue) :
    entryTurn pick s e = if pick e s then takeUp e s else s := by
  rw [entryTurn, find?_seq_of_mem distinct mem]

/-- Where the test picks nothing, no turn does anything. -/
theorem entryTurn_eq_self {pick : Entry → State → Bool} {s : State} (e : Entry) (unpicked : ∀ x, pick x s = false) :
    entryTurn pick s e = s := by
  unfold entryTurn
  split
  · simp [unpicked]
  · rfl

/-- Turns that do nothing in a state leave a walk over them in that state. -/
theorem foldl_entryTurn_eq_self {pick : Entry → State → Bool} {s : State} {es : List Entry}
    (idle : ∀ e ∈ es, entryTurn pick s e = s) : es.foldl (entryTurn pick) s = s := by
  induction es with
  | nil => rfl
  | cons e es ih =>
    rw [List.foldl_cons, idle e List.mem_cons_self]
    exact ih fun x hx => idle x (List.mem_cons_of_mem e hx)

/-! ### Hammer pulses (R136) -/

theorem pulseEnd_of_recovered {b : Fin 16} {s : State} (h : recovered b s = true) : (s.bell b).pulseEnd = none := by
  obtain ⟨none, -⟩ := Bool.and_eq_true_iff.mp h
  exact Option.isNone_iff_eq_none.mp none

/-- The pulse begun lasts the width of its bell. -/
theorem beginPulse_pulseEnd_self (e : Entry) (s : State) :
    ((beginPulse e s).bell e.bell).pulseEnd = some (s.now + (s.bell e.bell).config.width) := by
  simp [beginPulse, (entryLeft_frame _ e true).pulseEnd, (removeEntry_frame _ e.seq).pulseEnd]

theorem beginPulse_pulseEnd_ne {e : Entry} {b : Fin 16} (h : b ≠ e.bell) (s : State) :
    ((beginPulse e s).bell b).pulseEnd = (s.bell b).pulseEnd := by
  simp [beginPulse, (entryLeft_frame _ e true).pulseEnd, (removeEntry_frame _ e.seq).pulseEnd, State.setBell_bell, h]

section

variable {b : Fin 16} {x : Instant} {s : State}

/-- A pulse is begun only at a bell whose last one is over, so every pulse in progress runs on. -/
theorem serveEntry_keeps_pulse (e : Entry) (runs : (s.bell b).pulseEnd = some x) :
    ((serveEntry e s).bell b).pulseEnd = some x := by
  unfold serveEntry
  split
  case isTrue => rw [(replaceEntry_frame s _).pulseEnd, runs]
  case isFalse settled =>
    have ready : recovered e.bell s = true := by simpa using settled
    have other : b ≠ e.bell := by
      rintro rfl
      simp [pulseEnd_of_recovered ready] at runs
    split
    case isTrue => rw [beginPulse_pulseEnd_ne other, runs]
    case isFalse => rw [(replaceEntry_frame s _).pulseEnd, runs]

theorem skipEntry_keeps_pulse (e : Entry) (f : StrikeFail) (runs : (s.bell b).pulseEnd = some x) :
    ((skipEntry e f s).bell b).pulseEnd = some x := by
  rw [(skipEntry_frame s e f).pulseEnd, runs]

theorem takeUp_keeps_pulse (e : Entry) (runs : (s.bell b).pulseEnd = some x) :
    ((takeUp e s).bell b).pulseEnd = some x := by
  unfold takeUp
  split
  next => exact serveEntry_keeps_pulse e runs
  next f _ =>
    split
    · exact skipEntry_keeps_pulse e f runs
    · split
      next => exact skipEntry_keeps_pulse e f runs
      next c _ =>
        have renamed : ((post .strikeSubstituted (e.bell.1 + 1) (pair (c.1 + 1) e.origin.code)
            (replaceEntry { e with bell := c, substituted := true } s)).bell b).pulseEnd = some x := by
          rw [post_bell, (replaceEntry_frame s _).pulseEnd, runs]
        dsimp only
        split
        next => exact serveEntry_keeps_pulse _ renamed
        next => exact skipEntry_keeps_pulse _ _ renamed

theorem entryTurn_keeps_pulse (pick : Entry → State → Bool) (e : Entry) (runs : (s.bell b).pulseEnd = some x) :
    ((entryTurn pick s e).bell b).pulseEnd = some x := by
  unfold entryTurn
  split
  next y _ =>
    split
    · exact takeUp_keeps_pulse y runs
    · exact runs
  next => exact runs

theorem foldl_entryTurn_keeps_pulse (pick : Entry → State → Bool) (es : List Entry)
    (runs : (s.bell b).pulseEnd = some x) : ((es.foldl (entryTurn pick) s).bell b).pulseEnd = some x := by
  induction es generalizing s with
  | nil => exact runs
  | cons e es ih => exact ih (entryTurn_keeps_pulse pick e runs)

end

/-! ### Taking up an entry for a bell that can be struck (R135, R136) -/

section

variable {e : Entry} {s : State}

theorem takeUp_strikeable (strikeable : strikeFail e.bell s = none) : takeUp e s = serveEntry e s := by
  simp only [takeUp, strikeable]

theorem serveEntry_begins (ready : recovered e.bell s = true) (below : s.energised < s.strike.share) :
    serveEntry e s = beginPulse e s := by
  simp [serveEntry, ready, below]

theorem serveEntry_waits (ready : recovered e.bell s = true) (full : s.strike.share ≤ s.energised) :
    serveEntry e s = replaceEntry { e with wait := .share } s := by
  simp [serveEntry, ready, Nat.not_lt.mpr full]

end

/-! ### Granting shares (R136) -/

/-- An entry is granted a share if it waits for one and the energised count is below K. -/
def shareGranted (e : Entry) (s : State) : Bool := e.wait == .share && decide (s.energised < s.strike.share)

theorem grantShares_eq_foldl (s : State) : grantShares s = s.strike.queue.foldl (entryTurn shareGranted) s :=
  takeUpEach_eq_foldl shareGranted s

theorem shareGranted_of_full {s : State} (e : Entry) (full : s.strike.share ≤ s.energised) : shareGranted e s = false := by
  simp [shareGranted, full]

theorem shareGranted_of_wait_ne {e : Entry} (s : State) (h : e.wait ≠ .share) : shareGranted e s = false := by
  simp [shareGranted, h]

theorem shareGranted_of_below {e : Entry} {s : State} (waits : e.wait = .share) (below : s.energised < s.strike.share) :
    shareGranted e s = true := by
  simp [shareGranted, waits, below]

theorem grantShares_keeps_pulse {b : Fin 16} {x : Instant} {s : State} (runs : (s.bell b).pulseEnd = some x) :
    ((grantShares s).bell b).pulseEnd = some x :=
  foldl_entryTurn_keeps_pulse shareGranted s.strike.queue runs

/-- No share is granted while the energised count is K or more. -/
theorem grantShares_of_full {s : State} (full : s.strike.share ≤ s.energised) : grantShares s = s := by
  rw [grantShares_eq_foldl]
  exact foldl_entryTurn_eq_self fun e _ => entryTurn_eq_self e fun x => shareGranted_of_full x full

/-- The turns before the first entry that waits for a share change nothing; its own begins its pulse. -/
theorem grantShares_first {s : State} {e : Entry} {before after : List Entry}
    (distinct : (s.strike.queue.map (·.seq)).Nodup) (split : s.strike.queue = before ++ e :: after)
    (waits : e.wait = .share) (first : ∀ x ∈ before, x.wait ≠ .share) (strikeable : strikeFail e.bell s = none)
    (ready : recovered e.bell s = true) (below : s.energised < s.strike.share) :
    grantShares s = after.foldl (entryTurn shareGranted) (beginPulse e s) := by
  have skipped : before.foldl (entryTurn shareGranted) s = s := foldl_entryTurn_eq_self fun x hx => by
    rw [entryTurn_of_mem distinct (by simp [split, hx]), shareGranted_of_wait_ne s (first x hx)]
    rfl
  have served : entryTurn shareGranted s e = beginPulse e s := by
    rw [entryTurn_of_mem distinct (by simp [split]), shareGranted_of_below waits below, if_pos rfl,
      takeUp_strikeable strikeable, serveEntry_begins ready below]
  rw [grantShares_eq_foldl, split, List.foldl_append, List.foldl_cons, skipped, served]

/-! ### PART_CONFIG -/

/-- Granting shares leaves K as it was set. -/
theorem grantShares_share (k : Nat) (s : State) :
    (grantShares { s with strike := { s.strike with share := k } }).strike.share = k :=
  (grantShares_frame _).share

/-- PART_CONFIG is a request of L1 alone. -/
theorem permits_partConfig (p : Port) : Req.partConfig.permits p = decide (p = .l1) := by
  cases p <;> rfl

theorem exec_partConfig (p : Port) (tag : Byte) (k : Nat) (s : State) :
    exec (.partConfig p tag k) s = .next (request .partConfig p tag (actPartConfig k) s) := rfl

/-- At a free L1 the clamped K is set and answered, and shares are granted under it. -/
theorem exec_partConfig_l1 {s : State} (tag : Byte) (k : Nat) (free : PortFree .l1 s) :
    exec (.partConfig .l1 tag k) s = .next (answered .l1 tag .ok (be1 (clamp 1 8 k))
      (grantShares { s with strike := { s.strike with share := clamp 1 8 k } })) := by
  rw [exec_partConfig, request_reaches tag _ ⟨free, permits_partConfig .l1⟩]
  rfl

/-! ### The statement -/

/-- Settles O51, from what PART_CONFIG answers at each port, the pulses that a grant of shares keeps, what it does at K
and below it, and the frames of the two steps of a warm reset. -/
theorem theShareLimit : Obligations.TheShareLimit := by
  refine ⟨fun tag k s free => ⟨exec_partConfig_l1 tag k free, grantShares_share _ s⟩,
    fun p tag k s other free => ?denied, fun b x s => grantShares_keeps_pulse, fun s => grantShares_of_full,
    fun e s full strikeable ready => ?waits,
    fun s e before after distinct split waits first strikeable ready below => ?begins,
    fun s t ran => ?cold, fun s t ran => ?entry, fun s t ran => ?completion⟩
  case denied =>
    have notPermitted : Req.partConfig.permits p = false := by simp [permits_partConfig, other]
    rw [exec_partConfig, request_denied tag _ free notPermitted]
  case waits => rw [takeUp_strikeable strikeable, serveEntry_waits ready full]
  case begins =>
    rw [grantShares_first distinct split waits first strikeable ready below]
    exact foldl_entryTurn_keeps_pulse _ after (beginPulse_pulseEnd_self e s)
  case cold =>
    cases ran
    rfl
  case entry =>
    cases ran
    exact (warmResetEntry_frame s).share
  case completion =>
    cases ran
    exact (warmResetCompletion_frame s).share

end Sys2Proof.Machine
end

section
/-! SUPPORT. The effect of a command as a function of the state: every command answers a next state, what it may write,
and the three ways to show that something holds after any command, any frame and any step. -/

namespace Sys2Proof.Machine

set_option Elab.async false

/-! ### The state after a command -/

/-- The state after a command. -/
def after (c : Instr) (s : State) : State :=
  match exec c s with
  | .next t => t
  | .fault _ => s
  | .refused _ => s

/-- Every command answers a next state. -/
theorem exec_eq_next (c : Instr) (s : State) : exec c s = .next (after c s) := by
  cases c <;> rfl

theorem after_eq_of_exec {c : Instr} {s t : State} (ran : exec c s = .next t) : after c s = t := by
  rw [exec_eq_next] at ran
  exact Host.Outcome.next.inj ran

/-- The parts of the state a command may write; a cold start writes all but the lines and the queue. -/
def writes : Instr → List Part
  | .coldStart =>
    [.tb, .ref, .civil, .days, .sun, .dials, .bellConfigs, .holders, .guards, .hammers, .swings, .sessions, .tunes,
      .plans, .queue, .quarters, .held, .tolls, .silence, .share, .cal, .lights, .supply, .hold, .notices, .ports]
  | .localSecondBoundary =>
    [.tb, .civil, .days, .dials, .holders, .guards, .swings, .sessions, .queue, .quarters, .held, .tolls, .cal,
      .lights, .notices, .ports]
  | .missedLimit | .holdoverLimit => [.tb, .notices, .ports]
  | .offsetChangeApplied =>
    [.tb, .civil, .days, .dials, .holders, .guards, .swings, .sessions, .queue, .quarters, .held, .tolls, .cal,
      .lights, .notices, .ports]
  | .refPulse =>
    [.tb, .ref, .civil, .days, .dials, .holders, .guards, .swings, .sessions, .queue, .quarters, .held, .tolls,
      .cal, .lights, .notices, .ports]
  | .refMessageReceived _ | .refMessageGapTimeout | .refMessageExpired => [.ref]
  | .heldQuarterExpiry => [.queue, .quarters, .held, .notices, .ports]
  | .dialImpulseStart _ => [.dials]
  | .dialImpulseEnd _ => [.dials, .notices, .ports]
  | .dialConfChange _ _ => [.dials, .lines]
  | .guardContactChange _ _ _ => [.guards, .lines]
  | .guardContactSettled _ _ | .guardTravelTimeout _ => [.holders, .guards, .swings, .sessions, .notices, .ports]
  | .sensorPulse _ => [.swings, .notices, .ports]
  | .driftSettled _ => [.guards, .swings, .sessions, .notices, .ports]
  | .stopSettled _ | .startTimeout _ | .swingLost _ => [.holders, .guards, .swings, .sessions, .notices, .ports]
  | .sessionStartSlot _ => [.swings, .sessions]
  | .sessionEndTime _ => [.holders, .guards, .swings, .sessions, .notices, .ports]
  | .sessionStopSlot _ => [.swings, .sessions]
  | .strikeEntryDue | .hammerRecoveryEnd _ => [.hammers, .queue, .tolls, .notices, .ports]
  | .hammerPulseEnd _ => [.guards, .hammers, .swings, .sessions, .queue, .tolls, .notices, .ports]
  | .tollEndTime _ => [.queue, .tolls, .notices, .ports]
  | .tuneEditTimeout _ => [.tunes, .queue, .quarters, .held, .notices, .ports]
  | .overrideExpiry _ | .warmupEnd _ | .restrikeExpiry _ => [.lights, .notices, .ports]
  | .senseWatchStart _ => [.lights]
  | .lampSenseChange _ _ => [.lights, .lines]
  | .lampFailed _ => [.lights, .notices, .ports]
  | .mainsOkChange _ => [.supply, .lines]
  | .mainsLost =>
    [.dials, .holders, .guards, .hammers, .swings, .sessions, .queue, .quarters, .held, .tolls, .lights, .supply,
      .notices, .ports]
  | .mainsRestored => [.dials, .guards, .swings, .sessions, .lights, .supply, .notices, .ports]
  | .battLowChange _ => [.supply, .lines]
  | .batteryLowSettled => [.supply, .notices, .ports]
  | .resetNChange _ => [.hold, .notices, .lines]
  | .warmResetEntry =>
    [.ref, .dials, .guards, .hammers, .swings, .sessions, .tunes, .queue, .quarters, .held, .tolls, .lights,
      .hold, .notices, .ports]
  | .warmResetCompletion => [.dials, .guards, .swings, .sessions, .cal, .lights, .hold, .notices, .ports]
  | .frameComplete _ _ =>
    [.tb, .ref, .civil, .days, .sun, .dials, .bellConfigs, .holders, .guards, .hammers, .swings, .sessions,
      .tunes, .plans, .queue, .quarters, .held, .tolls, .silence, .share, .cal, .lights, .notices, .ports]
  | .frameGapTimeout _ | .responseSent _ | .holdoffEnd _ | .partStatus _ _ | .noticeFetch _ _
  | .noticeRouteSet _ _ _ _ _ => [.ports]
  | .portReset _ _ => [.tunes, .queue, .quarters, .held, .notices, .ports]
  | .partConfig _ _ _ => [.hammers, .queue, .tolls, .share, .notices, .ports]
  | .timeRead _ _ => [.ports]
  | .timeSet _ _ _ _ => [.tb, .ports]
  | .refModeSet _ _ _ => [.tb, .ref, .notices, .ports]
  | .timeFaultsClear _ _ => [.tb, .ref, .ports]
  | .offsetSet _ _ _ _ _ | .civilConfig _ _ _ => [.civil, .ports]
  | .dayclassRead _ _ _ => [.ports]
  | .dayclassWrite _ _ _ _ _ => [.days, .ports]
  | .sunRead _ _ _ _ => [.ports]
  | .sunWrite _ _ _ _ _ => [.sun, .ports]
  | .dialRead _ _ _ => [.ports]
  | .dialSet _ _ _ _ _ | .dialStop _ _ _ | .dialStart _ _ _ | .dialConfig _ _ _ => [.dials, .notices, .ports]
  | .bellRead _ _ _ => [.ports]
  | .bellConfig _ _ _ => [.bellConfigs, .holders, .guards, .swings, .sessions, .notices, .ports]
  | .claim _ _ _ _ | .release _ _ _ => [.holders, .guards, .swings, .sessions, .notices, .ports]
  | .bellFaultClear _ _ _ => [.guards, .swings, .sessions, .notices, .ports]
  | .ringRead _ _ _ => [.ports]
  | .ringStart _ _ _ _ _ | .ringCancel _ _ _ => [.holders, .guards, .swings, .sessions, .notices, .ports]
  | .tuneRead _ _ _ _ _ => [.ports]
  | .tuneOpen _ _ _ _ _ => [.tunes, .queue, .quarters, .held, .notices, .ports]
  | .tuneWrite _ _ _ _ _ => [.tunes, .ports]
  | .tuneClose _ _ _ | .tuneAbort _ _ _ | .tuneDelete _ _ _ _ => [.tunes, .queue, .quarters, .held, .notices, .ports]
  | .planRead _ _ _ => [.ports]
  | .planWrite _ _ _ => [.plans, .ports]
  | .strikeStatus _ _ _ => [.ports]
  | .strike _ _ _ _ _ => [.queue, .ports]
  | .tollStart _ _ _ _ _ _ => [.queue, .tolls, .ports]
  | .tollStop _ _ _ => [.queue, .tolls, .notices, .ports]
  | .silenceSet _ _ _ => [.silence, .ports]
  | .eventRead _ _ _ => [.ports]
  | .eventWrite _ _ _ | .eventDelete _ _ _ _ => [.cal, .lights, .notices, .ports]
  | .lightRead _ _ _ => [.ports]
  | .lightConfig _ _ _ | .lightOverride _ _ _ _ _ | .lightFaultClear _ _ _ => [.lights, .notices, .ports]
  | .frameLengthRejected _ _ => [.ports]

/-- A command changes nothing outside the parts it may write. -/
theorem after_frame (c : Instr) (s : State) : Frame (writes c) s (after c s) := by
  cases c with
  | coldStart =>
    intro q outside
    cases q <;> first | exact absurd (by decide) outside | exact rfl
  | localSecondBoundary => exact localSecondBoundary_frame s
  | missedLimit => exact missedLimit_frame s
  | holdoverLimit => exact holdoverLimit_frame s
  | offsetChangeApplied => exact offsetChangeApplied_frame s
  | refPulse => exact refPulse_frame s
  | refMessageReceived bytes => exact refMessageReceived_frame s bytes
  | refMessageGapTimeout => exact refMessageGapTimeout_frame s
  | refMessageExpired => exact refMessageExpired_frame s
  | heldQuarterExpiry => exact heldQuarterExpiry_frame s
  | dialImpulseStart d => exact dialImpulseStart_frame s d
  | dialImpulseEnd d => exact dialImpulseEnd_frame s d
  | dialConfChange d closed => exact dialConfChange_frame s d closed
  | guardContactChange b c closed => exact guardContactChange_frame s b c closed
  | guardContactSettled b c => exact guardContactSettled_frame s b c
  | guardTravelTimeout b => exact guardTravelTimeout_frame s b
  | sensorPulse b => exact sensorPulse_frame s b
  | driftSettled b => exact driftSettled_frame s b
  | stopSettled b => exact stopSettled_frame s b
  | startTimeout b => exact startTimeout_frame s b
  | swingLost b => exact swingLost_frame s b
  | sessionStartSlot n => exact sessionStartSlot_frame s n
  | sessionEndTime n => exact sessionEndTime_frame s n
  | sessionStopSlot n => exact sessionStopSlot_frame s n
  | strikeEntryDue => exact strikeEntryDue_frame s
  | hammerRecoveryEnd b => exact hammerRecoveryEnd_frame s b
  | hammerPulseEnd b => exact hammerPulseEnd_frame s b
  | tollEndTime t => exact tollEndTime_frame s t
  | tuneEditTimeout t => exact tuneEditTimeout_frame s t
  | overrideExpiry c => exact overrideExpiry_frame s c
  | warmupEnd c => exact warmupEnd_frame s c
  | restrikeExpiry c => exact restrikeExpiry_frame s c
  | senseWatchStart c => exact senseWatchStart_frame s c
  | lampSenseChange c current => exact lampSenseChange_frame s c current
  | lampFailed c => exact lampFailed_frame s c
  | mainsOkChange high => exact mainsOkChange_frame s high
  | mainsLost => exact mainsLost_frame s
  | mainsRestored => exact mainsRestored_frame s
  | battLowChange asserted => exact battLowChange_frame s asserted
  | batteryLowSettled => exact batteryLowSettled_frame s
  | resetNChange high => exact resetNChange_frame s high
  | warmResetEntry => exact warmResetEntry_frame s
  | warmResetCompletion => exact warmResetCompletion_frame s
  | frameComplete p bytes => exact frameComplete_frame s p bytes
  | frameGapTimeout p => exact frameGapTimeout_frame s p
  | responseSent p => exact responseSent_frame s p
  | holdoffEnd p => exact holdoffOver_frame s p
  | partStatus p tag => exact partStatus_frame s p tag
  | noticeFetch p tag => exact noticeFetch_frame s p tag
  | noticeRouteSet p tag routing enable holdoff => exact noticeRouteSet_frame s p tag routing enable holdoff
  | portReset p tag => exact portReset_frame s p tag
  | partConfig p tag share => exact partConfig_frame s p tag share
  | timeRead p tag => exact timeRead_frame s p tag
  | timeSet p tag day sec => exact timeSet_frame s p tag day sec
  | refModeSet p tag mode => exact refModeSet_frame s p tag mode
  | timeFaultsClear p tag => exact timeFaultsClear_frame s p tag
  | offsetSet p tag offset day sec => exact offsetSet_frame s p tag offset day sec
  | civilConfig p tag cls => exact civilConfig_frame s p tag cls
  | dayclassRead p tag first => exact dayclassRead_frame s p tag first
  | dayclassWrite p tag revision replace pairs => exact dayclassWrite_frame s p tag revision replace pairs
  | sunRead p tag first count => exact sunRead_frame s p tag first count
  | sunWrite p tag revision first entries => exact sunWrite_frame s p tag revision first entries
  | dialRead p tag dial => exact dialRead_frame s p tag dial
  | dialSet p tag dial position polarity => exact dialSet_frame s p tag dial position polarity
  | dialStop p tag dial => exact dialStop_frame s p tag dial
  | dialStart p tag dial => exact dialStart_frame s p tag dial
  | dialConfig p tag args => exact dialConfig_frame s p tag args
  | bellRead p tag bell => exact bellRead_frame s p tag bell
  | bellConfig p tag args => exact bellConfig_frame s p tag args
  | claim p tag kind mask => exact claim_frame s p tag kind mask
  | release p tag mask => exact release_frame s p tag mask
  | bellFaultClear p tag bell => exact bellFaultClear_frame s p tag bell
  | ringRead p tag session => exact ringRead_frame s p tag session
  | ringStart p tag mask stagger duration => exact ringStart_frame s p tag mask stagger duration
  | ringCancel p tag session => exact ringCancel_frame s p tag session
  | tuneRead p tag tune first count => exact tuneRead_frame s p tag tune first count
  | tuneOpen p tag tune length revision => exact tuneOpen_frame s p tag tune length revision
  | tuneWrite p tag tune first notes => exact tuneWrite_frame s p tag tune first notes
  | tuneClose p tag tune => exact tuneClose_frame s p tag tune
  | tuneAbort p tag tune => exact tuneAbort_frame s p tag tune
  | tuneDelete p tag tune revision => exact tuneDelete_frame s p tag tune revision
  | planRead p tag plan => exact planRead_frame s p tag plan
  | planWrite p tag args => exact planWrite_frame s p tag args
  | strikeStatus p tag first => exact strikeStatus_frame s p tag first
  | strike p tag bell count interval => exact strike_frame s p tag bell count interval
  | tollStart p tag bell interval count minutes => exact tollStart_frame s p tag bell interval count minutes
  | tollStop p tag bell => exact tollStop_frame s p tag bell
  | silenceSet p tag value => exact silenceSet_frame s p tag value
  | eventRead p tag event => exact eventRead_frame s p tag event
  | eventWrite p tag args => exact eventWrite_frame s p tag args
  | eventDelete p tag event revision => exact eventDelete_frame s p tag event revision
  | lightRead p tag channel => exact lightRead_frame s p tag channel
  | lightConfig p tag args => exact lightConfig_frame s p tag args
  | lightOverride p tag channel mode untilMinute => exact lightOverride_frame s p tag channel mode untilMinute
  | lightFaultClear p tag channel => exact lightFaultClear_frame s p tag channel
  | frameLengthRejected p length => exact frameLengthRejected_frame s p length

/-! ### Requests -/

/-- A request is taken at its port by the rules of every request, for some owner. -/
theorem after_request {i : Instr} {r : Req} {p : Port} {tag : Byte} (h : i.request = some (r, p, tag)) :
    ∃ act, ∀ s, after i s = request r p tag act s := by
  cases i <;> cases h <;> exact ⟨_, fun _ => rfl⟩

theorem runRequest_eq_after {i : Instr} {x : Req × Port × Byte} (h : i.request = some x) (s : State) :
    runRequest i s = after i s := by
  cases i <;> first | rfl | cases h

/-- The command a payload spells is the request its code names, at the port and under the tag of its frame. -/
theorem Req.fields_request (r : Req) (p : Port) (tag : Byte) (bs : List Byte) :
    (r.fields p tag bs).request = some (r, p, tag) := by
  cases r <;> rfl

/-- The request a good frame at an idle port runs, if its code, its role and its length are good (R192). -/
theorem handleFrame_keeps {P : State → Prop} {p : Port} {tag code : Byte} {payload : List Byte} {s : State}
    (discarded : P (discardFrame p s)) (owed : (s.port p).responding = true → P (oweBusy p tag s))
    (answers : ∀ st, (s.port p).responding = false → P (respond p tag st [] s))
    (requests : ∀ i r, i.request = some (r, p, tag) → P (after i s)) : P (handleFrame p tag code payload s) := by
  unfold handleFrame
  split
  · exact discarded
  · split
    next busy => exact owed busy
    next idle =>
      have free : (s.port p).responding = false := by simpa using idle
      split
      · exact answers _ free
      next r _ =>
        split
        · exact answers _ free
        · split
          · exact answers _ free
          next i decoded =>
            have spelled : i.request = some (r, p, tag) := by
              unfold Req.decode at decoded
              split at decoded
              · cases decoded
                exact Req.fields_request r p tag payload
              · cases decoded
            rw [runRequest_eq_after spelled]
            exact requests i r spelled

/-- Bytes at a port keep whatever a write of the port and every request keep. -/
theorem frameComplete_keeps {P : State → Prop} {p : Port} (port : ∀ r s, P s → P (s.setPort p r))
    (requests : ∀ i r tag s, i.request = some (r, p, tag) → P s → P (after i s)) (bytes : List Byte) (s : State)
    (ok : P s) : P (frameComplete p bytes s) := by
  have discards : ∀ s, P s → P (discardFrame p s) := fun s => port _ s
  have owes : ∀ tag s, P s → P (oweBusy p tag s) := by
    intro tag s ok
    simp only [oweBusy]
    split
    · exact port _ s ok
    · exact discards s ok
  have completes : ∀ bs s, P s → P (completeFrame p bs s) := by
    intro bs s ok
    simp only [completeFrame]
    split
    · exact handleFrame_keeps (discards s ok) (fun _ => owes _ s ok) (fun _ _ => port _ s ok)
        (fun i r spelled => requests i r _ s spelled ok)
    · exact discards s ok
  have gaps : ∀ s, P s → P (frameGapTimeout p s) := by
    intro s ok
    unfold frameGapTimeout
    split
    · exact port _ s ok
    · exact ok
  have byte : ∀ b s, P s → P (portByte p b s) := by
    intro b s ok
    have gapped := gaps s ok
    simp only [portByte]
    split
    · split
      · exact port _ _ gapped
      · exact gapped
    · split
      · split
        · exact discards _ (port _ _ gapped)
        · exact port _ _ gapped
      · split
        · exact port _ _ gapped
        · exact completes _ _ (port _ _ gapped)
  unfold frameComplete
  induction bytes generalizing s with
  | nil => exact ok
  | cons b bs ih => exact ih (portByte p b s) (byte b s ok)

/-! ### Steps -/

/-- What the queue does not touch, every command and the passing of a count keep, every step keeps. -/
theorem step_keeps {P : State → Prop} (queues : ∀ s cs, P s → P { s with pending := cs })
    (counts : ∀ s, s.tb.count + 1 < s.tb.len → P s →
      P { s with tb := s.tb.tick, ports := mapV LinkPort.proceeds s.ports })
    (commands : ∀ c s, P s → P (after c s)) {s t : State} (ok : P s) (ran : step s = .next t) : P t := by
  unfold step at ran
  split at ran
  next c rest _ =>
    rw [exec_eq_next] at ran
    cases ran
    exact commands c _ (queues s rest ok)
  next =>
    cases ran
    unfold idle
    split
    · unfold tick
      split
      next within => exact counts s within ok
      · exact queues s _ ok
    · exact queues s _ ok

end Sys2Proof.Machine
end

section
/-! SUPPORT. The queue of commands and the taking of requests: what every command does to the queue, and requests out of
turn or beyond their port's role (R186, R189, R191, R192). -/

namespace Sys2Proof.Machine

set_option Elab.async false

/-- Settles O1: a step is `exec` of the command in front. -/
theorem stepTakesTheFrontCommand : Obligations.StepTakesTheFrontCommand := fun _ _ _ => rfl

/-- Settles O3, from the frame of every command, none of which writes the queue. -/
theorem everyCommandCompletesAndLeavesTheQueue : Obligations.EveryCommandCompletesAndLeavesTheQueue := by
  intro c s
  have untouched : Part.pending ∉ writes c := by cases c <;> simp [writes]
  exact ⟨after c s, exec_eq_next c s, (after_frame c s).pending untouched⟩

/-! ### Requests out of turn -/

theorem responding_iff (r : LinkPort) : r.responding = true ↔ r.sending ≠ none ∨ r.owed ≠ [] := by
  simp [LinkPort.responding, Option.isSome_iff_ne_none]

theorem oweBusy_room {p : Port} {s : State} (tag : Byte) (room : (s.port p).owed.length < 4) :
    oweBusy p tag s = s.setPort p { s.port p with owed := (s.port p).owed ++ [tag] } := by
  simp [oweBusy, room]

theorem oweBusy_full {p : Port} {s : State} (tag : Byte) (full : 4 ≤ (s.port p).owed.length) :
    oweBusy p tag s = discardFrame p s := by
  simp [oweBusy, Nat.not_lt.mpr full]

/-- Settles O7: a request is taken by `takeRequest`, which discards in a warm reset and owes BUSY while RESPONDING. -/
theorem requestsOutOfTurnActOnNothing : Obligations.RequestsOutOfTurnActOnNothing := by
  intro i r p tag s spelled
  obtain ⟨act, taken⟩ := after_request spelled
  rw [exec_eq_next, taken]
  refine ⟨fun held => ?_, fun free responding room => ?_, fun free full => ?_⟩
  · rw [request_held tag act held]
    rfl
  · rw [request_responding tag act free ((responding_iff _).mpr responding), oweBusy_room tag room]
  · have owes : (s.port p).owed ≠ [] := List.ne_nil_of_length_pos (Nat.lt_of_lt_of_le (by decide) full)
    rw [request_responding tag act free ((responding_iff _).mpr (.inr owes)), oweBusy_full tag full]
    rfl

/-! ### Roles -/

/-- Settles O8, from the check of the role ahead of every owner, and the table of section 11.2 read off `permits`. -/
theorem rolesPermitOnlyTheirRequests : Obligations.RolesPermitOnlyTheirRequests := by
  refine ⟨fun i r p tag s spelled free denied => ?_, fun r => ?_, fun r => ?_, fun r => ?_⟩
  · obtain ⟨act, taken⟩ := after_request spelled
    rw [exec_eq_next, taken, request_denied tag act free denied]
  all_goals cases r <;> decide

end Sys2Proof.Machine
end

section
/-! SUPPORT. What paces the local second: run time, the count, the length, the residue, the trim and the slew, through
the tests at a boundary, the label check and a reference pulse (R1, R2, R10, R12). -/

namespace Sys2Proof.Machine

set_option Elab.async false

/-- The course of a second: run time, the millisecond, the count, the length and the residue left by it. -/
abbrev TimeBase.clock (t : TimeBase) : Instant × Nat × Nat × Nat × Nat := (t.uptime, t.ms, t.count, t.len, t.residue)

/-- What a pulse may write of the making of the next second: the trim and the slew. -/
abbrev TimeBase.pace (t : TimeBase) : Int × Int := (t.freq, t.slew)

/-- The course of a second and its pace stand alike in two Time Bases. -/
def TimeBase.SamePace (t u : TimeBase) : Prop := u.clock = t.clock ∧ u.pace = t.pace

theorem TimeBase.SamePace.refl (t : TimeBase) : t.SamePace t := ⟨rfl, rfl⟩
theorem TimeBase.SamePace.trans {t u v : TimeBase} (h : t.SamePace u) (k : u.SamePace v) : t.SamePace v :=
  ⟨k.1.trans h.1, k.2.trans h.2⟩

/-! ### The tests at a boundary -/

theorem setDisc_samePace (d : Discipline) (s : State) : s.tb.SamePace (setDisc d s).tb := by
  rw [setDisc_tb]; exact ⟨rfl, rfl⟩

theorem missedMove_samePace (s : State) : s.tb.SamePace (missedMove s).tb := by
  rw [missedMove_tb]; split_ifs <;> exact ⟨rfl, rfl⟩

theorem holdoverRise_samePace (s : State) : s.tb.SamePace (holdoverRise s).tb := by
  rw [holdoverRise_tb]; split_ifs <;> exact ⟨rfl, rfl⟩

theorem missedTest_samePace (s : State) : s.tb.SamePace (missedTest s).tb := by
  have tb := missedTest_tb s
  dsimp only at tb
  rw [tb]; split_ifs <;> exact ⟨rfl, rfl⟩

theorem leaveUnset_samePace (waited : Bool) (s : State) : s.tb.SamePace (leaveUnset waited s).tb := by
  rw [leaveUnset_tb]; split_ifs <;> exact ⟨rfl, rfl⟩

theorem takePending_samePace (t : TimeBase) : t.SamePace t.takePending := by
  rw [TimeBase.takePending_eq]; exact ⟨rfl, rfl⟩

/-- A second begins at count 0, one millisecond after the last of the second before, with the length of R1. -/
theorem beginSecond_samePace (l : Option Label) (s : State) : s.tb.newSecond.SamePace (beginSecond l s).tb := by
  rw [beginSecond_tb]
  exact TimeBase.SamePace.trans (takePending_samePace { s.tb.newSecond with label := l })
    ((holdoverRise_samePace _).trans ((missedTest_samePace _).trans (leaveUnset_samePace _ _)))

theorem finishSecond_samePace (old cmp : Option Label) (s : State) : s.tb.SamePace (finishSecond old cmp s).tb := by
  rw [finishSecond_tb]; exact ⟨rfl, rfl⟩

theorem boundary_samePace (s : State) : s.tb.newSecond.SamePace (boundary s).tb :=
  (beginSecond_samePace _ s).trans (finishSecond_samePace _ _ _)

theorem localSecondBoundary_of_reached {s : State} (h : s.tb.len ≤ s.tb.count + 1) : localSecondBoundary s = boundary s :=
  if_neg (Nat.not_lt.mpr h)
theorem localSecondBoundary_of_within {s : State} (h : s.tb.count + 1 < s.tb.len) : localSecondBoundary s = s := if_pos h

/-! ### The label check -/

theorem checkPulse_samePace (e : Int) (msg : Option Label) (s : State) : s.tb.SamePace (checkPulse e msg s).tb := by
  obtain ⟨l, n, tb⟩ := checkPulse_tb e msg s
  rw [tb]; exact ⟨rfl, rfl⟩

/-- The check of a message at a phase step writes the label and the mismatch count alone. -/
theorem stepCheck_tb (msg : Label) (s : State) :
    ∃ l n, (stepCheck msg s).tb = { s.tb with label := l, mismatch := n } := by
  unfold stepCheck
  split
  · exact ⟨s.tb.label, s.tb.mismatch, rfl⟩
  · split
    · exact ⟨s.tb.label, 0, rfl⟩
    · dsimp only
      split
      · exact ⟨some msg, 0, by simp [matchLabels, countMismatch_tb]⟩
      · exact ⟨s.tb.label, _, countMismatch_tb _ s⟩

theorem stepRelabel_tb (begun checked : Option Label) (s : State) : (stepRelabel begun checked s).tb = s.tb := by
  unfold stepRelabel
  split
  · rfl
  · exact (relabelWindows_frame s).tb

/-! ### A reference pulse -/

/-- A phase step cuts the second: the next one is fixed with a slew of 0 (R10). -/
theorem phaseStep_samePace (e : Int) (msg : Option Label) (s : State) :
    ({ s.tb with slew := 0 } : TimeBase).newSecond.SamePace (phaseStep e msg s).tb := by
  have begun (l : Option Label) : ({ s.tb with slew := 0 } : TimeBase).newSecond.SamePace
      (beginSecond l (s.setTb { s.tb with slew := 0, good := 0 })).tb := beginSecond_samePace l _
  cases msg with
  | none =>
    simp only [phaseStep, stepRelabel_tb]
    exact (begun _).trans (finishSecond_samePace _ _ _)
  | some m =>
    simp only [phaseStep, stepRelabel_tb]
    refine TimeBase.SamePace.trans ?_ (finishSecond_samePace _ _ _)
    obtain ⟨l, n, tb⟩ := stepCheck_tb m
      (beginSecond (if 0 < e then s.label else s.label.map Label.advance) (s.setTb { s.tb with slew := 0, good := 0 }))
    rw [tb]
    exact begun _

/-- A pulse ran on within the second, or cut it and began the next with a slew of 0. -/
def PulseRuns (before after : TimeBase) : Prop :=
  after.clock = before.clock ∨ ({ before with slew := 0 } : TimeBase).newSecond.SamePace after

/-- Writes that leave the course of the second and the trim alone may stand before a pulse. -/
theorem PulseRuns.from {before between after : TimeBase} (h : PulseRuns between after)
    (clock : between.clock = before.clock) (freq : between.freq = before.freq) : PulseRuns before after := by
  rcases h with on | cut
  · exact .inl (on.trans clock)
  · refine .inr ?_
    simp only [Prod.mk.injEq] at clock
    obtain ⟨up, ms, count, len, residue⟩ := clock
    have same : ({ before with slew := 0 } : TimeBase).newSecond.SamePace
        ({ between with slew := 0 } : TimeBase).newSecond := by
      simp [TimeBase.SamePace, TimeBase.newSecond, up, residue, freq]
    exact same.trans cut

theorem learn_clock (e : Int) (t : TimeBase) : (learn e t).clock = t.clock := by rw [learn_eq]

/-- Locking at the third good pulse leaves the course of the second. -/
theorem lock_clock (good : Nat) (s : State) :
    (if 3 ≤ good then setDisc .locked (s.setTb { s.tb with outlier := 0 }) else s).tb.clock = s.tb.clock := by
  split
  · exact (setDisc_samePace _ _).1
  · rfl

theorem acquirePulse_runs (e : Int) (msg : Option Label) (s : State) : PulseRuns s.tb (acquirePulse e msg s).tb := by
  simp only [acquirePulse]
  split
  · exact PulseRuns.from (.inr (phaseStep_samePace e msg (acceptPulse s))) rfl rfl
  · exact .inl ((checkPulse_samePace e msg _).1.trans ((lock_clock _ _).trans (learn_clock e (acceptPulse s).tb)))

theorem lockedPulse_runs (e : Int) (msg : Option Label) (s : State) : PulseRuns s.tb (lockedPulse e msg s).tb := by
  refine .inl ?_
  simp only [lockedPulse]
  split
  · split
    · exact (setDisc_samePace _ _).1
    · rfl
  · exact (checkPulse_samePace e msg _).1.trans (learn_clock e _)

theorem firstLabel_samePace (l : Label) (e : Int) (s : State) : s.tb.SamePace (firstLabel l e s).tb :=
  (show s.tb.SamePace (s.setTb { s.tb with label := some l }).tb from ⟨rfl, rfl⟩).trans (setDisc_samePace .acquire _)

theorem unsetPulse_runs (e : Int) (msg : Option Label) (s : State) : PulseRuns s.tb (unsetPulse e msg s).tb := by
  simp only [unsetPulse]
  split
  · split
    · exact .inl rfl
    · exact PulseRuns.from (.inr (phaseStep_samePace e none (acceptPulse s))) rfl rfl
  · split
    · exact .inl (firstLabel_samePace _ e _).1
    · exact .inr ((beginSecond_samePace none ((acceptPulse s).setTb { (acceptPulse s).tb with slew := 0, good := 0 })).trans
        ((firstLabel_samePace _ e _).trans (finishSecond_samePace _ _ _)))

theorem takenPulse_runs (msg : Option Label) (s : State) : PulseRuns s.tb (takenPulse msg s).tb := by
  have joins (t : TimeBase) : s.tb.clock = t.clock → s.tb.freq = t.freq →
      PulseRuns s.tb (acquirePulse (pulseError s.tb.count s.tb.len) msg (setDisc .acquire (s.setTb t))).tb :=
    fun clock freq => (acquirePulse_runs _ msg _).from ((setDisc_samePace .acquire _).1.trans clock.symm)
      ((congrArg Prod.fst (setDisc_samePace .acquire (s.setTb t)).2).trans freq.symm)
  unfold takenPulse
  dsimp only
  split
  · exact unsetPulse_runs _ msg s
  · exact joins _ rfl rfl
  · exact joins _ rfl rfl
  · exact acquirePulse_runs _ msg s
  · exact lockedPulse_runs _ msg s

theorem refPulse_runs (s : State) : PulseRuns s.tb (refPulse s).tb := by
  have ignored : PulseRuns s.tb s.tb := .inl rfl
  unfold refPulse
  split
  · exact ignored
  · split
    · exact ignored
    · exact takenPulse_runs none s
    · split
      · exact ignored
      next m _ =>
        have consumed : (consumeMessage m s).tb = s.tb := by unfold consumeMessage; split <;> rfl
        have runs := takenPulse_runs (some m.label) (consumeMessage m s)
        rwa [consumed] at runs

end Sys2Proof.Machine
end

section
/-! SUPPORT. Run time, and the settings that only their own command writes (R2, R5, R12, R35): what each command that
writes the Time Base, the receiver or the Civil Time Unit leaves of them. -/

namespace Sys2Proof.Machine

set_option Elab.async false

/-! ### Requests keep what their owner keeps -/

/-- A request keeps what a write of its port and its owner keep. -/
theorem request_keeps {P : State → Prop} {r : Req} {p : Port} {tag : Byte} {act : State → Reply} {s : State}
    (port : ∀ r s, P s → P (s.setPort p r)) (owner : P s → P (act s).state) (ok : P s) : P (request r p tag act s) := by
  simp only [request, takeRequest]
  split
  · exact port _ s ok
  · split
    · simp only [oweBusy]
      split <;> exact port _ s ok
    · refine port _ _ ?_
      split
      · exact owner ok
      · exact ok

/-! ### The course of the second -/

theorem changeMode_samePace (m : RefMode) (s : State) : s.tb.SamePace (changeMode m s).tb := by
  simp only [changeMode]
  split
  · exact TimeBase.SamePace.trans ⟨rfl, rfl⟩ (setDisc_samePace .free _)
  · exact ⟨rfl, rfl⟩

theorem actRefModeSet_samePace (mode : Nat) (s : State) : s.tb.SamePace (actRefModeSet mode s).state.tb := by
  unfold actRefModeSet
  split
  · exact .refl _
  next m _ =>
    split
    · exact .refl _
    · exact changeMode_samePace m s

theorem actTimeSet_samePace (day sec : Nat) (s : State) : s.tb.SamePace (actTimeSet day sec s).state.tb := by
  unfold actTimeSet
  split_ifs <;> exact ⟨rfl, rfl⟩

/-- No request touches the course of a second or its pace. -/
theorem after_request_samePace {i : Instr} {x : Req × Port × Byte} (spelled : i.request = some x) (s : State) :
    s.tb.SamePace (after i s).tb := by
  by_cases writer : Part.tb ∈ writes i
  · cases i with
    | timeSet p tag day sec =>
      exact request_keeps (P := fun u => s.tb.SamePace u.tb) (fun _ _ h => h) (fun _ => actTimeSet_samePace day sec s) (.refl _)
    | refModeSet p tag mode =>
      exact request_keeps (P := fun u => s.tb.SamePace u.tb) (fun _ _ h => h) (fun _ => actRefModeSet_samePace mode s) (.refl _)
    | timeFaultsClear p tag =>
      exact request_keeps (P := fun u => s.tb.SamePace u.tb) (fun _ _ h => h) (fun _ => ⟨rfl, rfl⟩) (.refl _)
    | _ => first | (simp [writes] at writer; done) | cases spelled
  · rw [(after_frame i s).tb writer]
    exact .refl _

/-- But for a cold start, the boundaries and a pulse, no command touches the course of a second or its pace. -/
theorem after_samePace {c : Instr} (cold : c ≠ .coldStart) (ordinary : c ≠ .localSecondBoundary)
    (offset : c ≠ .offsetChangeApplied) (pulse : c ≠ .refPulse) (s : State) : s.tb.SamePace (after c s).tb := by
  cases spelled : c.request with
  | some x => exact after_request_samePace spelled s
  | none =>
    by_cases writer : Part.tb ∈ writes c
    · cases c with
      | coldStart => exact absurd rfl cold
      | localSecondBoundary => exact absurd rfl ordinary
      | offsetChangeApplied => exact absurd rfl offset
      | refPulse => exact absurd rfl pulse
      | missedLimit =>
        show s.tb.SamePace (missedLimit s).tb
        unfold missedLimit
        split
        · exact .refl _
        · exact missedMove_samePace s
      | holdoverLimit =>
        show s.tb.SamePace (holdoverLimit s).tb
        unfold holdoverLimit
        split
        · exact setDisc_samePace .free s
        · exact .refl _
      | frameComplete p bytes =>
        exact frameComplete_keeps (P := fun u => s.tb.SamePace u.tb) (fun _ _ h => h)
          (fun i r tag u h ok => ok.trans (after_request_samePace h u)) bytes s (.refl _)
      | _ => first | (simp [writes] at writer; done) | cases spelled
    · rw [(after_frame c s).tb writer]
      exact .refl _

/-! ### Run time (R2) -/

theorem now_of_clock {t u : TimeBase} (h : u.clock = t.clock) : u.uptime = t.uptime ∧ u.count = t.count ∧ u.len = t.len := by
  simp only [Prod.mk.injEq] at h
  exact ⟨h.1, h.2.2.1, h.2.2.2.1⟩

/-- A second that begins moves run time on by one, to count 0. -/
theorem newSecond_rises {t u : TimeBase} (h : t.newSecond.SamePace u) : u.uptime = t.uptime + 1 ∧ u.count = 0 := by
  obtain ⟨up, count, -⟩ := now_of_clock h.1
  exact ⟨up, count⟩

/-- Settles O4: a boundary and a cut second move run time on by one, a pulse within the second and every other command
leave it. -/
theorem runTimeIsNeverStepped : Obligations.RunTimeIsNeverStepped := by
  intro c s t ran cold
  obtain rfl := after_eq_of_exec ran
  have stands {u : State} (h : u.tb.clock = s.tb.clock) : u.now = s.now ∧ u.tb.count = s.tb.count ∧ u.tb.len = s.tb.len :=
    now_of_clock h
  refine ⟨?_, fun ordinary offset pulse => stands (after_samePace cold ordinary offset pulse s).1⟩
  by_cases ordinary : c = .localSecondBoundary
  · subst ordinary
    show (localSecondBoundary s).now = _ ∨ (localSecondBoundary s).now = _ ∧ (localSecondBoundary s).tb.count = 0
    unfold localSecondBoundary
    split
    · exact .inl rfl
    · exact .inr (newSecond_rises (boundary_samePace s))
  by_cases offset : c = .offsetChangeApplied
  · subst offset
    show (offsetChangeApplied s).now = _ ∨ (offsetChangeApplied s).now = _ ∧ (offsetChangeApplied s).tb.count = 0
    unfold offsetChangeApplied
    split
    · exact .inr (newSecond_rises (boundary_samePace s))
    · exact .inl rfl
  by_cases pulse : c = .refPulse
  · subst pulse
    rcases refPulse_runs s with on | cut
    · exact .inl (stands on).1
    · obtain ⟨up, count⟩ := newSecond_rises cut
      exact .inr ⟨up, count⟩
  exact .inl (stands (after_samePace cold ordinary offset pulse s).1).1

/-! ### The reference mode and the Sunday class -/

/-- The reference mode, the last message and the Sunday class stand alike in two states. -/
structure SameModes (s t : State) : Prop where
  mode : t.ref.mode = s.ref.mode
  message : t.ref.message = s.ref.message
  sunday : t.civil.sundayClass = s.civil.sundayClass

theorem SameModes.refl (s : State) : SameModes s s := ⟨rfl, rfl, rfl⟩
theorem SameModes.trans {s t u : State} (h : SameModes s t) (k : SameModes t u) : SameModes s u :=
  ⟨k.mode.trans h.mode, k.message.trans h.message, k.sunday.trans h.sunday⟩
theorem Frame.sameModes {ps : List Part} {s t : State} (h : Frame ps s t) (ref : Part.ref ∉ ps := by decide)
    (civil : Part.civil ∉ ps := by decide) : SameModes s t :=
  ⟨congrArg RefRx.mode (h.ref ref), congrArg RefRx.message (h.ref ref), congrArg Civil.sundayClass (h.civil civil)⟩

theorem setTb_sameModes (t : TimeBase) (s : State) : SameModes s (s.setTb t) := ⟨rfl, rfl, rfl⟩
theorem acceptPulse_sameModes (s : State) : SameModes s (acceptPulse s) := setTb_sameModes _ s

theorem applyOffset_sameModes (s : State) : SameModes s (applyOffset s) := by
  unfold applyOffset
  split
  · exact .refl s
  · exact ⟨by simp, by simp, by simp⟩

theorem newSecondTail_sameModes (old : Option Label) (delta : Option Int) (s : State) :
    SameModes s (newSecondTail old delta s) := by
  have applied : SameModes s (if changeDue s = true then applyOffset s else s) := by
    split
    · exact applyOffset_sameModes s
    · exact .refl s
  unfold newSecondTail
  dsimp only
  generalize (if changeDue s = true then applyOffset s else s) = u at *
  have dated (bv : Bool) (t : TimeBase) : SameModes s ((dateChange old bv u).setTb t) :=
    (applied.trans (dateChange_frame u old bv).sameModes).trans (State.setTb_frame _ _).sameModes
  split
  · exact dated _ _
  · exact (dated _ _).trans (blocksBoundary_frame _ _ _ _ _).sameModes

theorem finishSecond_sameModes (old cmp : Option Label) (s : State) : SameModes s (finishSecond old cmp s) :=
  (postStep_frame s _).sameModes.trans (newSecondTail_sameModes _ _ _)

theorem boundary_sameModes (s : State) : SameModes s (boundary s) :=
  (beginSecond_frame s _).sameModes.trans (finishSecond_sameModes _ _ _)

theorem matchLabels_sameModes (s : State) : SameModes s (matchLabels s) := ⟨rfl, rfl, rfl⟩

theorem setContinuity_sameModes (c : Option (Label × Int)) (s : State) :
    SameModes s (s.setRef { s.ref with continuity := c }) := ⟨rfl, rfl, rfl⟩

theorem labelCheck_sameModes (msg implied : Label) (s : State) : SameModes s (labelCheck msg implied s) := by
  have counted := (countMismatch_frame s (msg.diff implied)).sameModes
  unfold labelCheck
  dsimp only
  split
  · exact matchLabels_sameModes s
  · split
    · split
      · exact (counted.trans (matchLabels_sameModes _)).trans (relabel_frame _ _ _).sameModes
      · exact counted
    · exact counted.trans (setContinuity_sameModes _ _)

theorem checkPulse_sameModes (e : Int) (msg : Option Label) (s : State) : SameModes s (checkPulse e msg s) := by
  unfold checkPulse
  split
  · exact labelCheck_sameModes _ _ s
  · exact .refl s

theorem stepCheck_sameModes (msg : Label) (s : State) : SameModes s (stepCheck msg s) := by
  unfold stepCheck
  split
  · exact .refl s
  · dsimp only
    split
    · exact matchLabels_sameModes s
    next l _ _ =>
      have counted := (countMismatch_frame s (msg.diff l)).sameModes
      split
      · exact counted.trans ⟨rfl, rfl, rfl⟩
      · exact counted.trans (setContinuity_sameModes _ _)

theorem phaseStep_sameModes (e : Int) (msg : Option Label) (s : State) : SameModes s (phaseStep e msg s) := by
  have begun (l : Option Label) : SameModes s (beginSecond l (s.setTb { s.tb with slew := 0, good := 0 })) :=
    (State.setTb_frame s _).sameModes.trans (beginSecond_frame _ _).sameModes
  have relabelled (a b : Option Label) (u : State) : SameModes u (stepRelabel a b u) :=
    (stepRelabel_frame u a b).sameModes
  cases msg with
  | none => exact ((begun _).trans (finishSecond_sameModes _ _ _)).trans (relabelled _ _ _)
  | some m => exact (((begun _).trans (stepCheck_sameModes m _)).trans (finishSecond_sameModes _ _ _)).trans (relabelled _ _ _)

theorem setDisc_sameModes (d : Discipline) (s : State) : SameModes s (setDisc d s) := (setDisc_frame s d).sameModes

theorem acquirePulse_sameModes (e : Int) (msg : Option Label) (s : State) : SameModes s (acquirePulse e msg s) := by
  have locks (good : Nat) (u : State) :
      SameModes u (if 3 ≤ good then setDisc .locked (u.setTb { u.tb with outlier := 0 }) else u) := by
    split
    · exact (setTb_sameModes _ u).trans (setDisc_sameModes .locked _)
    · exact .refl u
  simp only [acquirePulse]
  split
  · exact (acceptPulse_sameModes s).trans (phaseStep_sameModes e msg _)
  · refine SameModes.trans ?_ (checkPulse_sameModes e msg _)
    have accepted (t : TimeBase) : SameModes s ((acceptPulse s).setTb t) := setTb_sameModes t s
    exact (accepted _).trans (locks _ _)

theorem lockedPulse_sameModes (e : Int) (msg : Option Label) (s : State) : SameModes s (lockedPulse e msg s) := by
  simp only [lockedPulse]
  split
  · split
    · exact (setTb_sameModes _ s).trans (setDisc_sameModes .acquire _)
    · exact ⟨rfl, rfl, rfl⟩
  · exact ((acceptPulse_sameModes s).trans (setTb_sameModes _ _)).trans (checkPulse_sameModes e msg _)

theorem firstLabel_sameModes (l : Label) (e : Int) (s : State) : SameModes s (firstLabel l e s) :=
  (((setTb_sameModes _ s).trans (setDisc_sameModes .acquire _)).trans (setTb_sameModes _ _)).trans (matchLabels_sameModes _)

theorem unsetPulse_sameModes (e : Int) (msg : Option Label) (s : State) : SameModes s (unsetPulse e msg s) := by
  have accepted (t : TimeBase) : SameModes s ((acceptPulse s).setTb t) := setTb_sameModes t s
  simp only [unsetPulse]
  split
  · split
    · exact ⟨rfl, rfl, rfl⟩
    · exact (acceptPulse_sameModes s).trans (phaseStep_sameModes e none _)
  · split
    · exact (accepted _).trans (firstLabel_sameModes _ e _)
    · exact (((accepted _).trans (beginSecond_frame _ none).sameModes).trans (firstLabel_sameModes _ e _)).trans
        (finishSecond_sameModes _ _ _)

theorem takenPulse_sameModes (msg : Option Label) (s : State) : SameModes s (takenPulse msg s) := by
  have joins (t : TimeBase) (e : Int) : SameModes s (acquirePulse e msg (setDisc .acquire (s.setTb t))) :=
    ((setTb_sameModes t s).trans (setDisc_sameModes .acquire _)).trans (acquirePulse_sameModes e msg _)
  unfold takenPulse
  dsimp only
  split
  · exact unsetPulse_sameModes _ msg s
  · exact joins _ _
  · exact joins _ _
  · exact acquirePulse_sameModes _ msg s
  · exact lockedPulse_sameModes _ msg s

/-- What becomes of a reference pulse: it is ignored, taken without a message, or taken with the one that qualifies it,
which its consumption leaves but for its pairing. -/
theorem refPulse_cases (s : State) : refPulse s = s ∨ refPulse s = takenPulse none s ∨
    ∃ m, s.ref.message = some m ∧ refPulse s = takenPulse (some m.label) (consumeMessage m s) := by
  unfold refPulse
  split
  · exact .inl rfl
  · split
    · exact .inl rfl
    · exact .inr (.inl rfl)
    · split
      · exact .inl rfl
      next m qualifies =>
        refine .inr (.inr ⟨m, ?_, rfl⟩)
        unfold qualifying at qualifies
        split at qualifies
        · split at qualifies
          · cases qualifies
            assumption
          · cases qualifies
        · cases qualifies

theorem consumeMessage_cases (m : RefMessage) (s : State) :
    consumeMessage m s = s ∨ consumeMessage m s = s.setRef { s.ref with message := some { m with pairing := .used } } := by
  unfold consumeMessage
  split
  · exact .inl rfl
  · exact .inr rfl

theorem refPulse_modes (s : State) :
    (refPulse s).ref.mode = s.ref.mode ∧ (refPulse s).civil.sundayClass = s.civil.sundayClass := by
  rcases refPulse_cases s with ignored | taken | ⟨m, -, taken⟩
  · rw [ignored]
    exact ⟨rfl, rfl⟩
  · rw [taken]
    exact ⟨(takenPulse_sameModes none s).mode, (takenPulse_sameModes none s).sunday⟩
  · rw [taken]
    have modes := takenPulse_sameModes (some m.label) (consumeMessage m s)
    rcases consumeMessage_cases m s with kept | used
    · rw [kept] at modes ⊢
      exact ⟨modes.mode, modes.sunday⟩
    · rw [used] at modes ⊢
      exact ⟨modes.mode, modes.sunday⟩

/-! ### The receiver's own commands -/

theorem refMessageGapTimeout_mode (s : State) : (refMessageGapTimeout s).ref.mode = s.ref.mode := by
  unfold refMessageGapTimeout; split <;> rfl

theorem messageByte_mode (b : Byte) (s : State) : (messageByte b s).ref.mode = s.ref.mode := by
  have gapped := refMessageGapTimeout_mode s
  simp only [messageByte]
  split
  · split <;> exact gapped
  · split
    · exact gapped
    · split <;> exact gapped

theorem refMessageReceived_mode (bytes : List Byte) (s : State) : (refMessageReceived bytes s).ref.mode = s.ref.mode := by
  unfold refMessageReceived
  induction bytes generalizing s with
  | nil => rfl
  | cons b bs ih => exact (ih _).trans (messageByte_mode b s)

theorem refMessageExpired_mode (s : State) : (refMessageExpired s).ref.mode = s.ref.mode := by
  unfold refMessageExpired; split <;> rfl

theorem warmResetEntry_mode (s : State) : (warmResetEntry s).ref.mode = s.ref.mode := by
  unfold warmResetEntry
  split
  · rfl
  · simp only [enterWarmReset]
    rw [(abortEdits_frame _).ref]
    rfl

/-! ### The statement -/

theorem after_freq {c : Instr} (cold : c ≠ .coldStart) (pulse : c ≠ .refPulse) (s : State) :
    (after c s).tb.freq = s.tb.freq := by
  by_cases ordinary : c = .localSecondBoundary
  · subst ordinary
    show (localSecondBoundary s).tb.freq = _
    unfold localSecondBoundary
    split
    · rfl
    · exact congrArg Prod.fst (boundary_samePace s).2
  by_cases offset : c = .offsetChangeApplied
  · subst offset
    show (offsetChangeApplied s).tb.freq = _
    unfold offsetChangeApplied
    split
    · exact congrArg Prod.fst (boundary_samePace s).2
    · rfl
  exact congrArg Prod.fst (after_samePace cold ordinary offset pulse s).2

theorem after_mode {c : Instr} (cold : c ≠ .coldStart) (frame : ∀ p bs, c ≠ .frameComplete p bs)
    (set : ∀ p g m, c ≠ .refModeSet p g m) (s : State) : (after c s).ref.mode = s.ref.mode := by
  by_cases writer : Part.ref ∈ writes c
  · cases c with
    | coldStart => exact absurd rfl cold
    | frameComplete p bs => exact absurd rfl (frame p bs)
    | refModeSet p g m => exact absurd rfl (set p g m)
    | refPulse => exact (refPulse_modes s).1
    | refMessageReceived bytes => exact refMessageReceived_mode bytes s
    | refMessageGapTimeout => exact refMessageGapTimeout_mode s
    | refMessageExpired => exact refMessageExpired_mode s
    | warmResetEntry => exact warmResetEntry_mode s
    | timeFaultsClear p tag =>
      exact request_keeps (P := fun u => u.ref.mode = s.ref.mode) (fun _ _ h => h) (fun _ => rfl) rfl
    | _ => simp [writes] at writer
  · rw [(after_frame c s).ref writer]

theorem after_sundayClass {c : Instr} (cold : c ≠ .coldStart) (frame : ∀ p bs, c ≠ .frameComplete p bs)
    (config : ∀ p g k, c ≠ .civilConfig p g k) (s : State) : (after c s).civil.sundayClass = s.civil.sundayClass := by
  by_cases writer : Part.civil ∈ writes c
  · cases c with
    | coldStart => exact absurd rfl cold
    | frameComplete p bs => exact absurd rfl (frame p bs)
    | civilConfig p g k => exact absurd rfl (config p g k)
    | refPulse => exact (refPulse_modes s).2
    | localSecondBoundary =>
      show (localSecondBoundary s).civil.sundayClass = _
      unfold localSecondBoundary
      split
      · rfl
      · exact (boundary_sameModes s).sunday
    | offsetChangeApplied =>
      show (offsetChangeApplied s).civil.sundayClass = _
      unfold offsetChangeApplied
      split
      · exact (boundary_sameModes s).sunday
      · rfl
    | offsetSet p tag o day sec =>
      refine request_keeps (P := fun u => u.civil.sundayClass = s.civil.sundayClass) (fun _ _ h => h) (fun _ => ?_) rfl
      unfold actOffsetSet
      split
      · rfl
      · split
        · rfl
        · split <;> rfl
    | _ => simp [writes] at writer
  · rw [(after_frame c s).civil writer]

/-- Settles O5, from the parts each command may write and, where a part holds more than the setting, from what its
writers leave of it. -/
theorem eachSettingHasItsOwnWriter : Obligations.EachSettingHasItsOwnWriter := by
  intro c s t ran cold frame
  obtain rfl := after_eq_of_exec ran
  have fr := after_frame c s
  refine ⟨fun pulse => after_freq cold pulse s, fun set => after_mode cold frame set s,
    fun config => after_sundayClass cold frame config s, fun own => fr .bellConfigs ?_, fun own => fr .plans ?_,
    fun own => fr .silence ?_, fun own => fr .share ?_, fun own => fr .sun ?_,
    fun request => ⟨fr .lines ?_, fr .supply ?_⟩⟩
  case refine_1 | refine_2 | refine_3 | refine_4 => cases c <;> simp_all [writes]
  case refine_5 =>
    cases c with
    | coldStart => exact absurd rfl cold
    | frameComplete p bs => exact absurd rfl (frame p bs)
    | sunWrite p g r f es => exact absurd rfl (own p g r f es)
    | _ => simp [writes]
  case refine_6 | refine_7 => cases c <;> first | (simp [writes]; done) | cases request

end Sys2Proof.Machine
end

section
/-! SUPPORT. The bounds of the Time Base (R1, R3, R4, R9, R11, R14, R15, R18): each operation keeps them, and a label is
carried in every discipline state but UNSET. -/

namespace Sys2Proof.Machine

set_option Elab.async false

/-- The Time Base within its bounds, but for the label: lengths, counts and the trim, and the pending label. -/
structure TimeBase.Bounded (t : TimeBase) : Prop where
  len : 4189710 ≤ t.len ∧ t.len ≤ 4198898
  count : t.count < t.len
  ms : t.ms ≤ 999
  residue : t.residue ≤ 65535
  freq : -26214400 ≤ t.freq ∧ t.freq ≤ 26214400
  slew : -419430 ≤ t.slew ∧ t.slew ≤ 419430
  good : t.good ≤ 2
  outlier : t.outlier ≤ 2
  missed : t.missed ≤ 255
  mismatch : t.mismatch ≤ 255
  holdover : t.holdover ≤ 86400
  inHoldover : t.disc = .holdover → t.holdover < 86400
  label : ∀ l, t.label = some l → l.ok
  pending : ∀ l, t.pendingLabel = some l → l.ok

/-- A label is carried in every discipline state but UNSET (R4). -/
def TimeBase.Labelled (t : TimeBase) : Prop := t.disc = .unset ↔ t.label = none

/-- The label of the last message lies in its range (R16). -/
def RefRx.Bounded (r : RefRx) : Prop := ∀ m, r.message = some m → m.label.ok

theorem timeBaseOk_iff (s : State) : TimeBaseOk s ↔ s.tb.Bounded ∧ s.tb.Labelled ∧ s.ref.Bounded := by
  constructor
  · rintro ⟨⟨l1, l2, c, m⟩, ⟨r, f1, f2, s1, s2⟩, ⟨g, o, mi, mm, h⟩, ih, lab, lo, po, mo⟩
    exact ⟨⟨⟨l1, l2⟩, c, m, r, ⟨f1, f2⟩, ⟨s1, s2⟩, g, o, mi, mm, h, ih, lo, po⟩, lab, mo⟩
  · rintro ⟨⟨⟨l1, l2⟩, c, m, r, ⟨f1, f2⟩, ⟨s1, s2⟩, g, o, mi, mm, h, ih, lo, po⟩, lab, mo⟩
    exact ⟨⟨l1, l2, c, m⟩, ⟨r, f1, f2, s1, s2⟩, ⟨g, o, mi, mm, h⟩, ih, lab, lo, po, mo⟩

/-! ### Labels -/

theorem labelOf_ok (n : Nat) : (labelOf n).ok := by
  simp only [Label.ok, labelOf]; omega
theorem Label.shift_ok (l : Label) (d : Int) : (l.shift d).ok := labelOf_ok _
theorem Label.advance_ok {l : Label} (h : l.ok) : l.advance.ok := by
  obtain ⟨day, sec⟩ := h
  unfold Label.advance
  split
  · exact ⟨day, by dsimp only; omega⟩
  · exact ⟨by dsimp only; split <;> omega, by dsimp only; omega⟩
theorem Label.advance_ok_of_map {o : Option Label} (h : ∀ l, o = some l → l.ok) :
    ∀ l, o.map Label.advance = some l → l.ok := by
  intro l eq
  obtain ⟨k, rfl, rfl⟩ := Option.map_eq_some_iff.mp eq
  exact Label.advance_ok (h k rfl)

/-! ### The length of a second -/

theorem clampInt_bounds {lo hi : Int} (le : lo ≤ hi) (x : Int) : lo ≤ clampInt lo hi x ∧ clampInt lo hi x ≤ hi := by
  simp only [clampInt]; omega

/-- The accumulated trim of a second, in whole counts, is at most 400 either way (R1). -/
theorem trim_bounds {f r : Int} (fl : -26214400 ≤ f) (fh : f ≤ 26214400) (rl : 0 ≤ r) (rh : r ≤ 65535) :
    -400 ≤ (r + f) / 65536 ∧ (r + f) / 65536 ≤ 400 := by omega

theorem TimeBase.newSecond_len {t : TimeBase} (fl : -26214400 ≤ t.freq) (fh : t.freq ≤ 26214400) (r : t.residue ≤ 65535) :
    (t.newSecond.len : Int) = 4194304 + ((t.residue : Int) + t.freq) / 65536 + clampInt (-4194) 4194 t.slew := by
  have trim := trim_bounds fl fh (Int.natCast_nonneg t.residue) (by omega)
  have slew := clampInt_bounds (show (-4194 : Int) ≤ 4194 by decide) t.slew
  simp only [TimeBase.newSecond, slewOf, Config.slewMax, Config.nominalSecond]
  omega

theorem TimeBase.newSecond_residue (t : TimeBase) :
    (t.newSecond.residue : Int) = ((t.residue : Int) + t.freq) - 65536 * (((t.residue : Int) + t.freq) / 65536) := by
  simp only [TimeBase.newSecond]; omega

theorem TimeBase.newSecond_slew (t : TimeBase) : t.newSecond.slew = t.slew - clampInt (-4194) 4194 t.slew := rfl

/-- A second that begins under a label in its range is within the bounds. -/
theorem TimeBase.Bounded.newSecond {t : TimeBase} (h : t.Bounded) {l : Option Label} (lok : ∀ k, l = some k → k.ok) :
    ({ t.newSecond with label := l } : TimeBase).Bounded := by
  have len := TimeBase.newSecond_len h.freq.1 h.freq.2 h.residue
  have residue := TimeBase.newSecond_residue t
  have trim := trim_bounds h.freq.1 h.freq.2 (Int.natCast_nonneg t.residue) (Int.ofNat_le.mpr h.residue)
  have slew := clampInt_bounds (show (-4194 : Int) ≤ 4194 by decide) t.slew
  have smaller : -419430 ≤ t.newSecond.slew ∧ t.newSecond.slew ≤ 419430 := by
    have := h.slew
    rw [TimeBase.newSecond_slew]
    simp only [clampInt]
    omega
  have within : 4189710 ≤ t.newSecond.len ∧ t.newSecond.len ≤ 4198898 := by omega
  have begun : t.newSecond.count = 0 := rfl
  exact { h with
    len := within
    count := by dsimp only; omega
    ms := Nat.zero_le _
    residue := by dsimp only; omega
    slew := smaller
    label := lok }

theorem setTb_bounded {t : TimeBase} (h : t.Bounded) (s : State) : (s.setTb t).tb.Bounded := h

/-! ### The tests at a boundary -/

/-- A change of state keeps the bounds, unless it enters HOLDOVER with the count at its limit. -/
theorem setDisc_bounded {s : State} (h : s.tb.Bounded) {d : Discipline} (room : d = .holdover → s.tb.holdover < 86400) :
    (setDisc d s).tb.Bounded := by
  rw [setDisc_tb]
  exact { h with
    inHoldover := room
    good := by dsimp only; have := h.good; split_ifs <;> omega }

theorem missedMove_bounded {s : State} (h : s.tb.Bounded) : (missedMove s).tb.Bounded := by
  rw [missedMove_tb]
  split_ifs
  · exact { h with holdover := Nat.zero_le _, inHoldover := fun _ => by dsimp only; omega }
  · exact { h with good := Nat.zero_le _, inHoldover := by simp }
  · exact h

theorem missedTest_bounded {s : State} (h : s.tb.Bounded) : (missedTest s).tb.Bounded := by
  have tb := missedTest_tb s
  dsimp only at tb
  have rises : (if s.ref.mode ≠ .off ∧ s.tb.curMark = false then min 255 (s.tb.missed + 1) else s.tb.missed) ≤ 255 := by
    have := h.missed
    split_ifs <;> omega
  rw [tb]
  generalize (if s.ref.mode ≠ .off ∧ s.tb.curMark = false then min 255 (s.tb.missed + 1) else s.tb.missed) = n at rises ⊢
  split_ifs
  · exact { h with missed := rises, holdover := Nat.zero_le _, inHoldover := fun _ => by dsimp only; omega }
  · exact { h with missed := rises, good := Nat.zero_le _, inHoldover := by simp }
  · exact { h with missed := rises }
  · exact { h with missed := rises }

theorem holdoverRise_bounded {s : State} (h : s.tb.Bounded) : (holdoverRise s).tb.Bounded := by
  rw [holdoverRise_tb]
  split
  next holding =>
    have room := h.inHoldover holding
    exact { h with
      holdover := by dsimp only; omega
      inHoldover := by
        dsimp only
        split_ifs
        · simp
        · omega }
  · exact h

theorem leaveUnset_bounded {s : State} (h : s.tb.Bounded) (waited : Bool) : (leaveUnset waited s).tb.Bounded := by
  rw [leaveUnset_tb]
  split
  · exact { h with
      inHoldover := by dsimp only; split_ifs <;> simp
      good := by dsimp only; have := h.good; split_ifs <;> omega }
  · exact h

theorem TimeBase.Bounded.takePending {t : TimeBase} (h : t.Bounded) : t.takePending.Bounded := by
  rw [TimeBase.takePending_eq]
  exact { h with
    label := by
      dsimp only
      split
      · exact h.label
      · exact h.pending
    pending := by simp }

theorem beginSecond_bounded {s : State} (h : s.tb.Bounded) {l : Option Label} (lok : ∀ k, l = some k → k.ok) :
    (beginSecond l s).tb.Bounded := by
  have begun : (s.setTb ({ s.tb.newSecond with label := l } : TimeBase).takePending).tb.Bounded :=
    (h.newSecond lok).takePending
  rw [beginSecond_tb]
  exact leaveUnset_bounded (missedTest_bounded (holdoverRise_bounded begun)) _

theorem finishSecond_bounded {s : State} (h : s.tb.Bounded) (old cmp : Option Label) :
    (finishSecond old cmp s).tb.Bounded := by
  rw [finishSecond_tb]
  exact { h with }

/-! ### The label check -/

/-- What the label check leaves of the Time Base: the label as it was or a shifted one, the mismatch count within 255. -/
theorem labelCheck_bounded {s : State} (h : s.tb.Bounded) (msg implied : Label) :
    (labelCheck msg implied s).tb.Bounded := by
  have counted : { s.tb with mismatch := min 255 (s.tb.mismatch + 1) }.Bounded := { h with mismatch := by dsimp only; omega }
  unfold labelCheck
  dsimp only
  split
  · exact { h with mismatch := Nat.zero_le _ }
  · split
    · split
      next l _ =>
        rw [relabel_tb, matchLabels, State.setRef_tb, State.setTb_tb, countMismatch_tb]
        exact { counted with
          mismatch := Nat.zero_le _
          label := fun k eq => by cases eq; exact Label.shift_ok _ _ }
      · rw [countMismatch_tb]
        exact counted
    · rw [State.setRef_tb, countMismatch_tb]
      exact counted

theorem checkPulse_bounded {s : State} (h : s.tb.Bounded) (e : Int) (msg : Option Label) :
    (checkPulse e msg s).tb.Bounded := by
  unfold checkPulse
  split
  · exact labelCheck_bounded h _ _
  · exact h

theorem stepCheck_bounded {s : State} (h : s.tb.Bounded) {msg : Label} (mok : msg.ok) : (stepCheck msg s).tb.Bounded := by
  have counted : { s.tb with mismatch := min 255 (s.tb.mismatch + 1) }.Bounded := { h with mismatch := by dsimp only; omega }
  unfold stepCheck
  split
  · exact h
  · dsimp only
    split
    · exact { h with mismatch := Nat.zero_le _ }
    · split
      · rw [matchLabels, State.setRef_tb, State.setTb_tb, State.setTb_tb, countMismatch_tb]
        exact { counted with
          mismatch := Nat.zero_le _
          label := fun k eq => by cases eq; exact mok }
      · rw [State.setRef_tb, countMismatch_tb]
        exact counted

/-! ### A reference pulse -/

theorem within_stepThreshold {e : Int} (h : within e Config.stepThreshold = true) : -419430 ≤ e ∧ e ≤ 419430 :=
  within_iff.mp h

theorem acceptPulse_bounded {s : State} (h : s.tb.Bounded) : (acceptPulse s).tb.Bounded := { h with missed := Nat.zero_le _ }

theorem learn_bounded {t : TimeBase} (h : t.Bounded) (e : Int) : (learn e t).Bounded := by
  rw [learn_eq]
  exact { h with
    freq := by
      dsimp only
      split
      · exact clampInt_bounds (by decide) _
      · exact h.freq }

theorem phaseStep_bounded {s : State} (h : s.tb.Bounded) (e : Int) {msg : Option Label} (mok : ∀ m, msg = some m → m.ok) :
    (phaseStep e msg s).tb.Bounded := by
  have cut : (s.setTb { s.tb with slew := 0, good := 0 }).tb.Bounded :=
    setTb_bounded (by exact { h with slew := by dsimp only; omega, good := Nat.zero_le _ }) s
  have lok : ∀ k, (if 0 < e then s.label else s.label.map Label.advance) = some k → k.ok := by
    split
    · exact h.label
    · exact Label.advance_ok_of_map h.label
  have begun := beginSecond_bounded cut lok
  unfold phaseStep
  dsimp only
  rw [stepRelabel_tb]
  cases msg with
  | none => exact finishSecond_bounded begun _ _
  | some m => exact finishSecond_bounded (stepCheck_bounded begun (mok m rfl)) _ _

theorem acquirePulse_bounded {s : State} (h : s.tb.Bounded) (acquiring : s.tb.disc = .acquire) (e : Int)
    {msg : Option Label} (mok : ∀ m, msg = some m → m.ok) : (acquirePulse e msg s).tb.Bounded := by
  have accepted := acceptPulse_bounded h
  simp only [acquirePulse]
  split
  · exact phaseStep_bounded accepted e mok
  next inside =>
    have size := within_stepThreshold (by simpa using inside)
    have few : (if within e Config.lockWindow = true then (acceptPulse s).tb.good + 1 else 0) ≤ 3 := by
      have := accepted.good
      split <;> omega
    refine checkPulse_bounded ?_ e msg
    generalize (if within e Config.lockWindow = true then (acceptPulse s).tb.good + 1 else 0) = good at few
    have learnt := learn_bounded accepted e
    split
    · rw [setDisc_tb]
      have left : (learn e (acceptPulse s).tb).disc = .acquire := by rw [learn_eq]; exact acquiring
      exact { learnt with
        slew := size
        outlier := Nat.zero_le _
        good := by simp [left]
        inHoldover := by simp }
    next third => exact setTb_bounded (by exact { learnt with slew := size, good := by dsimp only; omega }) _

theorem lockedPulse_bounded {s : State} (h : s.tb.Bounded) (e : Int) (msg : Option Label) :
    (lockedPulse e msg s).tb.Bounded := by
  simp only [lockedPulse]
  split
  · split
    · exact setDisc_bounded (setTb_bounded (by exact { h with outlier := Nat.zero_le _, good := Nat.zero_le _ }) s) (by simp)
    · exact setTb_bounded (by exact { h with outlier := by dsimp only; omega }) s
  next inside =>
    have size := within_stepThreshold (by simpa using inside)
    exact checkPulse_bounded
      (setTb_bounded (by exact { learn_bounded (acceptPulse_bounded h) e with slew := size, outlier := Nat.zero_le _ }) _) e msg

theorem firstLabel_bounded {s : State} (h : s.tb.Bounded) {l : Label} (lok : l.ok) (e : Int) :
    (firstLabel l e s).tb.Bounded := by
  have labelled : (s.setTb { s.tb with label := some l }).tb.Bounded :=
    setTb_bounded (by exact { h with label := fun k eq => by cases eq; exact lok }) s
  have acquired := setDisc_bounded labelled (d := .acquire) (by simp)
  have first : (if within e Config.lockWindow = true then 1 else 0) ≤ 2 := by split <;> omega
  exact setTb_bounded (by exact { acquired with good := first, mismatch := Nat.zero_le _ }) s

theorem unsetPulse_bounded {s : State} (h : s.tb.Bounded) (e : Int) {msg : Option Label} (mok : ∀ m, msg = some m → m.ok) :
    (unsetPulse e msg s).tb.Bounded := by
  have accepted := acceptPulse_bounded h
  simp only [unsetPulse]
  split
  · split
    next inside => exact setTb_bounded (by exact { accepted with slew := within_stepThreshold inside }) _
    · exact phaseStep_bounded accepted e (by simp)
  next m =>
    have lok := mok m rfl
    split
    next inside =>
      refine firstLabel_bounded (setTb_bounded (by exact { accepted with slew := within_stepThreshold inside }) _) ?_ e
      split
      · exact lok
      · exact Label.shift_ok m _
    · refine finishSecond_bounded (firstLabel_bounded (beginSecond_bounded ?_ (by simp)) lok e) _ _
      exact setTb_bounded (by exact { accepted with slew := by dsimp only; omega, good := Nat.zero_le _ }) _

theorem takenPulse_bounded {s : State} (h : s.tb.Bounded) {msg : Option Label} (mok : ∀ m, msg = some m → m.ok) :
    (takenPulse msg s).tb.Bounded := by
  have acquiring (u : State) : (setDisc .acquire u).tb.disc = .acquire := by rw [setDisc_tb]
  unfold takenPulse
  dsimp only
  split
  · exact unsetPulse_bounded h _ mok
  · exact acquirePulse_bounded (setDisc_bounded
      (setTb_bounded (by exact { h with good := Nat.zero_le _, outlier := Nat.zero_le _ }) s) (by simp)) (acquiring _) _ mok
  · exact acquirePulse_bounded (setDisc_bounded (setTb_bounded (by exact { h with
      good := Nat.zero_le _, outlier := Nat.zero_le _, holdover := Nat.zero_le _
      inHoldover := fun _ => by dsimp only; omega }) s) (by simp)) (acquiring _) _ mok
  next holds => exact acquirePulse_bounded h holds _ mok
  · exact lockedPulse_bounded h _ msg

end Sys2Proof.Machine
end

section
/-! SUPPORT. The fields of the Time Base at the beginning of a second, one by one (R3, R14, R15, R21). -/

namespace Sys2Proof.Machine

set_option Elab.async false

variable (s : State)

/-! ### The holdover count (R15) -/

theorem holdoverRise_disc : (holdoverRise s).tb.disc =
    if s.tb.disc = .holdover ∧ 86400 ≤ s.tb.holdover + 1 then .free else s.tb.disc := by
  rw [holdoverRise_tb]
  by_cases holding : s.tb.disc = .holdover
  · by_cases limit : 86400 ≤ s.tb.holdover + 1 <;> simp [holding, limit]
  · simp [holding]
theorem holdoverRise_holdover : (holdoverRise s).tb.holdover =
    if s.tb.disc = .holdover then s.tb.holdover + 1 else s.tb.holdover := by
  rw [holdoverRise_tb]; split <;> rfl

/-- All that a rise of the holdover count leaves. -/
theorem holdoverRise_rest : (holdoverRise s).tb =
    { s.tb with disc := (holdoverRise s).tb.disc, holdover := (holdoverRise s).tb.holdover } := by
  rw [holdoverRise_tb]; split <;> rfl

/-! ### The missed-pulse test (R14) -/

/-- No taken pulse marked the second that ended, in a mode that awaits one. -/
abbrev Missing (s : State) : Prop := s.ref.mode ≠ .off ∧ s.tb.curMark = false

/-- The missed count after the test of a second. -/
abbrev missedAfter (s : State) : Nat := if Missing s then min 255 (s.tb.missed + 1) else s.tb.missed

theorem missedTest_disc : (missedTest s).tb.disc =
    if Missing s ∧ 8 ≤ missedAfter s then
      (if s.tb.disc = .locked then .holdover else if s.tb.disc = .acquire then .free else s.tb.disc)
    else s.tb.disc := by
  have h := congrArg TimeBase.disc (missedTest_tb s)
  simpa only [apply_ite TimeBase.disc] using h
theorem missedTest_holdover : (missedTest s).tb.holdover =
    if s.tb.disc = .locked ∧ (missedTest s).tb.disc = .holdover then 0 else s.tb.holdover := by
  have h := congrArg TimeBase.holdover (missedTest_tb s)
  simp only [apply_ite TimeBase.holdover, ite_self] at h
  rw [missedTest_disc, h]
  by_cases locked : s.tb.disc = .locked <;> simp [locked]
  split_ifs <;> simp_all
theorem missedTest_rest : (missedTest s).tb = { s.tb with
    missed := missedAfter s, prevMark := s.tb.curMark, curMark := false, disc := (missedTest s).tb.disc,
    holdover := (missedTest s).tb.holdover, good := (missedTest s).tb.good } := by
  have h := missedTest_tb s
  dsimp only at h
  rw [h]
  split_ifs <;> rfl

/-! ### The first label (R21) -/

theorem leaveUnset_disc (waited : Bool) : (leaveUnset waited s).tb.disc =
    if waited = true ∧ s.tb.disc = .unset then (if s.ref.mode = .off then .free else .acquire) else s.tb.disc := by
  rw [leaveUnset_tb]; split <;> rfl
theorem leaveUnset_rest (waited : Bool) : (leaveUnset waited s).tb =
    { s.tb with disc := (leaveUnset waited s).tb.disc, good := (leaveUnset waited s).tb.good } := by
  rw [leaveUnset_tb]; split <;> rfl

/-! ### The second that begins -/

/-- The state after HOLDOVER's limit. -/
abbrev discAfterHoldover (t : TimeBase) : Discipline := if t.disc = .holdover ∧ 86400 ≤ t.holdover + 1 then .free else t.disc

/-- The state after the missed limit. -/
abbrev discAfterMissed (s : State) : Discipline :=
  if Missing s ∧ 8 ≤ missedAfter s then
    (if discAfterHoldover s.tb = .locked then .holdover else if discAfterHoldover s.tb = .acquire then .free
      else discAfterHoldover s.tb)
  else discAfterHoldover s.tb

/-- The state of the second that begins. -/
abbrev discBegun (s : State) : Discipline :=
  if s.tb.pendingLabel ≠ none ∧ discAfterMissed s = .unset then (if s.ref.mode = .off then .free else .acquire)
  else discAfterMissed s

/-- The holdover count of the second that begins. -/
abbrev holdoverBegun (s : State) : Nat :=
  if s.tb.disc = .holdover then s.tb.holdover + 1
  else if s.tb.disc = .locked ∧ discAfterMissed s = .holdover then 0 else s.tb.holdover

/-- The Time Base at the beginning of a second: its length by R1, its label, and the tests of the second that ended. -/
theorem beginSecond_tb_eq (l : Option Label) : (beginSecond l s).tb = { s.tb.newSecond with
    label := if s.tb.pendingLabel = none then l else s.tb.pendingLabel
    pendingLabel := none
    disc := discBegun s
    holdover := holdoverBegun s
    missed := missedAfter s
    prevMark := s.tb.curMark
    curMark := false
    good := (beginSecond l s).tb.good } := by
  set begun := s.setTb ({ s.tb.newSecond with label := l } : TimeBase).takePending
  set risen := holdoverRise begun
  set tested := missedTest risen
  have ends : beginSecond l s = leaveUnset s.tb.pendingLabel.isSome tested := rfl
  have begins : begun.tb = { s.tb.newSecond with
      label := if s.tb.pendingLabel = none then l else s.tb.pendingLabel, pendingLabel := none } :=
    TimeBase.takePending_eq _
  have risenMode : risen.ref.mode = s.ref.mode := by rw [holdoverRise_ref]; rfl
  have testedMode : tested.ref.mode = s.ref.mode := by rw [missedTest_ref, risenMode]
  have risenDisc : risen.tb.disc = discAfterHoldover s.tb := by
    rw [holdoverRise_disc, begins]
    rfl
  have risenHoldover : risen.tb.holdover = if s.tb.disc = .holdover then s.tb.holdover + 1 else s.tb.holdover := by
    rw [holdoverRise_holdover, begins]
    rfl
  have mark : risen.tb.curMark = s.tb.curMark := by rw [holdoverRise_rest, begins]; rfl
  have missing : Missing risen ↔ Missing s := by rw [Missing, risenMode, mark]
  have missed : risen.tb.missed = s.tb.missed := by rw [holdoverRise_rest, begins]; rfl
  have counted : missedAfter risen = missedAfter s := by simp only [missedAfter, missing, missed]
  have testedDisc : tested.tb.disc = discAfterMissed s := by
    rw [missedTest_disc, risenDisc, counted]
    simp only [missing]
  have testedHoldover : tested.tb.holdover = holdoverBegun s := by
    rw [missedTest_holdover, testedDisc, risenDisc, risenHoldover]
    by_cases holding : s.tb.disc = .holdover
    · have moved : discAfterHoldover s.tb ≠ .locked := by
        unfold discAfterHoldover
        split_ifs <;> simp [holding]
      simp [holdoverBegun, holding, moved]
    · simp [holdoverBegun, discAfterHoldover, holding]
  have finalDisc : (leaveUnset s.tb.pendingLabel.isSome tested).tb.disc = discBegun s := by
    rw [leaveUnset_disc, testedDisc, testedMode]
    simp only [Option.isSome_iff_ne_none]
  rw [ends]
  conv_lhs => rw [leaveUnset_rest]
  rw [finalDisc]
  have testedTb := missedTest_rest risen
  rw [show missedTest risen = tested from rfl, testedDisc, testedHoldover, counted, mark] at testedTb
  have risenTb := holdoverRise_rest begun
  rw [show holdoverRise begun = risen from rfl, risenDisc, risenHoldover, begins] at risenTb
  rw [testedTb, risenTb]

/-- UNSET outlasts the beginning of a second just where no pending label waits (R21). -/
theorem discBegun_eq_unset : discBegun s = .unset ↔ s.tb.disc = .unset ∧ s.tb.pendingLabel = none := by
  have rises : discAfterHoldover s.tb = .unset ↔ s.tb.disc = .unset := by
    by_cases limit : s.tb.disc = .holdover ∧ 86400 ≤ s.tb.holdover + 1
    · simp [discAfterHoldover, limit]
    · simp only [discAfterHoldover, if_neg limit]
  have misses : discAfterMissed s = .unset ↔ s.tb.disc = .unset := by
    rw [← rises]
    simp only [discAfterMissed]
    split_ifs <;> simp_all
  by_cases waits : s.tb.pendingLabel = none
  · simp [discBegun, waits, misses]
  · by_cases unset : discAfterMissed s = .unset
    · simp only [discBegun, waits, unset]
      split_ifs <;> simp_all
    · simp [discBegun, waits, unset]

end Sys2Proof.Machine
end

section
/-! SUPPORT. The Time Base under every command and step: a label in every state but UNSET, and the bounds of the Time
Base and of the last message. -/

namespace Sys2Proof.Machine

set_option Elab.async false

/-! ### A label in every state but UNSET (R4) -/

theorem setDisc_labelled {s : State} {d : Discipline} (h : d = .unset ↔ s.tb.label = none) : (setDisc d s).tb.Labelled := by
  rw [setDisc_tb]
  exact h

theorem TimeBase.Labelled.some {t : TimeBase} (h : t.Labelled) (set : t.disc ≠ .unset) : t.label ≠ none :=
  fun none => set (h.mpr none)

theorem missedMove_labelled {s : State} (h : s.tb.Labelled) : (missedMove s).tb.Labelled := by
  rw [missedMove_tb]
  split_ifs with locked acquiring
  · simpa [TimeBase.Labelled] using h.some (by simp [locked])
  · simpa [TimeBase.Labelled] using h.some (by simp [acquiring])
  · exact h

theorem beginSecond_labelled {s : State} {l : Option Label} (h : s.tb.disc = .unset ↔ l = none) :
    (beginSecond l s).tb.Labelled := by
  rw [beginSecond_tb_eq]
  show discBegun s = .unset ↔ (if s.tb.pendingLabel = none then l else s.tb.pendingLabel) = none
  rw [discBegun_eq_unset, h]
  split_ifs with waits <;> simp [waits]

theorem finishSecond_labelled {s : State} (h : s.tb.Labelled) (old cmp : Option Label) :
    (finishSecond old cmp s).tb.Labelled := by
  rw [finishSecond_tb]
  exact h

theorem labelCheck_labelled {s : State} (h : s.tb.Labelled) (msg implied : Label) : (labelCheck msg implied s).tb.Labelled := by
  unfold labelCheck
  dsimp only
  split
  · exact h
  · split
    · split
      next l carried =>
        rw [relabel_tb, matchLabels, State.setRef_tb, State.setTb_tb, countMismatch_tb]
        have some : s.tb.label = some l := by simpa [State.label, countMismatch_tb] using carried
        have set : s.tb.disc ≠ .unset := fun unset => by simp [h.mp unset] at some
        simpa [TimeBase.Labelled] using set
      · rw [countMismatch_tb]
        exact h
    · rw [State.setRef_tb, countMismatch_tb]
      exact h

theorem checkPulse_labelled {s : State} (h : s.tb.Labelled) (e : Int) (msg : Option Label) :
    (checkPulse e msg s).tb.Labelled := by
  unfold checkPulse
  split
  · exact labelCheck_labelled h _ _
  · exact h

theorem stepCheck_labelled {s : State} (h : s.tb.Labelled) (msg : Label) : (stepCheck msg s).tb.Labelled := by
  unfold stepCheck
  split
  · exact h
  next l carried =>
    have set : s.tb.disc ≠ .unset := fun unset => by simp [State.label, h.mp unset] at carried
    dsimp only
    split
    · exact h
    · split
      · rw [matchLabels, State.setRef_tb, State.setTb_tb, State.setTb_tb, countMismatch_tb]
        simpa [TimeBase.Labelled] using set
      · rw [State.setRef_tb, countMismatch_tb]
        exact h

theorem phaseStep_labelled {s : State} (h : s.tb.Labelled) (e : Int) (msg : Option Label) :
    (phaseStep e msg s).tb.Labelled := by
  have begun : (beginSecond (if 0 < e then s.label else s.label.map Label.advance)
      (s.setTb { s.tb with slew := 0, good := 0 })).tb.Labelled := by
    refine beginSecond_labelled ?_
    split
    · exact h
    · rw [Option.map_eq_none_iff]
      exact h
  unfold phaseStep
  dsimp only
  rw [stepRelabel_tb]
  cases msg with
  | none => exact finishSecond_labelled begun _ _
  | some m => exact finishSecond_labelled (stepCheck_labelled begun m) _ _

theorem acquirePulse_labelled {s : State} (h : s.tb.Labelled) (acquiring : s.tb.disc = .acquire) (e : Int)
    (msg : Option Label) : (acquirePulse e msg s).tb.Labelled := by
  have carried := h.some (by simp [acquiring])
  have learnt : (learn e (acceptPulse s).tb).label = s.tb.label ∧ (learn e (acceptPulse s).tb).disc = s.tb.disc := by
    rw [learn_eq]
    exact ⟨rfl, rfl⟩
  have accepted : (acceptPulse s).tb.Labelled := h
  simp only [acquirePulse]
  split
  · exact phaseStep_labelled accepted e msg
  · refine checkPulse_labelled ?_ e msg
    generalize (if within e Config.lockWindow = true then (acceptPulse s).tb.good + 1 else 0) = good
    split
    · exact setDisc_labelled (by simpa [learnt.1] using carried)
    · show (learn e (acceptPulse s).tb).disc = .unset ↔ (learn e (acceptPulse s).tb).label = none
      rw [learnt.1, learnt.2]
      exact h

theorem lockedPulse_labelled {s : State} (h : s.tb.Labelled) (locked : s.tb.disc = .locked) (e : Int)
    (msg : Option Label) : (lockedPulse e msg s).tb.Labelled := by
  have carried := h.some (by simp [locked])
  have learnt : (learn e (acceptPulse s).tb).label = s.tb.label ∧ (learn e (acceptPulse s).tb).disc = s.tb.disc := by
    rw [learn_eq]
    exact ⟨rfl, rfl⟩
  simp only [lockedPulse]
  split
  · split
    · exact setDisc_labelled (by simpa using carried)
    · exact h
  · refine checkPulse_labelled ?_ e msg
    show (learn e (acceptPulse s).tb).disc = .unset ↔ (learn e (acceptPulse s).tb).label = none
    rw [learnt.1, learnt.2]
    exact h

theorem firstLabel_labelled (l : Label) (e : Int) (s : State) : (firstLabel l e s).tb.Labelled := by
  have acquired : (setDisc .acquire (s.setTb { s.tb with label := some l })).tb.Labelled := setDisc_labelled (by simp)
  exact acquired

theorem takenPulse_labelled {s : State} (h : s.tb.Labelled) (msg : Option Label) : (takenPulse msg s).tb.Labelled := by
  have accepted : (acceptPulse s).tb.Labelled := h
  have joins (t : TimeBase) (carried : t.label = s.tb.label) (set : s.tb.disc ≠ .unset) (e : Int) :
      (acquirePulse e msg (setDisc .acquire (s.setTb t))).tb.Labelled := by
    refine acquirePulse_labelled (setDisc_labelled (by simpa [carried] using h.some set)) ?_ e msg
    rw [setDisc_tb]
  unfold takenPulse
  dsimp only
  split
  · simp only [unsetPulse]
    split
    · split
      · exact h
      · exact phaseStep_labelled accepted _ none
    · split
      · exact firstLabel_labelled _ _ _
      · exact finishSecond_labelled (firstLabel_labelled _ _ _) _ _
  next free => exact joins _ (by rfl) (by simp [free]) _
  next holding => exact joins _ (by rfl) (by simp [holding]) _
  next acquiring => exact acquirePulse_labelled h acquiring _ msg
  next locked => exact lockedPulse_labelled h locked _ msg

/-! ### Commands that write the Time Base -/

theorem refPulse_timeBaseOk {s : State} (ok : TimeBaseOk s) : TimeBaseOk (refPulse s) := by
  obtain ⟨bounded, labelled, message⟩ := (timeBaseOk_iff s).mp ok
  rw [timeBaseOk_iff]
  rcases refPulse_cases s with ignored | taken | ⟨m, held, taken⟩
  · rw [ignored]
    exact ⟨bounded, labelled, message⟩
  · rw [taken]
    refine ⟨takenPulse_bounded bounded (by simp), takenPulse_labelled labelled none, fun m eq => message m ?_⟩
    rwa [(takenPulse_sameModes none s).message] at eq
  · have consumed : (consumeMessage m s).tb = s.tb ∧ (consumeMessage m s).ref.Bounded := by
      rcases consumeMessage_cases m s with kept | used
      · rw [kept]
        exact ⟨rfl, message⟩
      · rw [used]
        exact ⟨rfl, fun k eq => by cases eq; exact message m held⟩
    rw [taken]
    refine ⟨takenPulse_bounded (consumed.1 ▸ bounded) (fun k eq => ?_), takenPulse_labelled (consumed.1 ▸ labelled) _,
      fun k eq => consumed.2 k ?_⟩
    · cases eq
      exact message m held
    · rwa [(takenPulse_sameModes _ _).message] at eq

theorem boundary_timeBaseOk {s : State} (ok : TimeBaseOk s) : TimeBaseOk (boundary s) := by
  obtain ⟨bounded, labelled, message⟩ := (timeBaseOk_iff s).mp ok
  rw [timeBaseOk_iff]
  refine ⟨finishSecond_bounded (beginSecond_bounded bounded (Label.advance_ok_of_map bounded.label)) _ _,
    finishSecond_labelled (beginSecond_labelled ?_) _ _, fun m eq => message m ?_⟩
  · rw [Option.map_eq_none_iff]
    exact labelled
  · rwa [(boundary_sameModes s).message] at eq

theorem missedLimit_timeBaseOk {s : State} (ok : TimeBaseOk s) : TimeBaseOk (missedLimit s) := by
  obtain ⟨bounded, labelled, message⟩ := (timeBaseOk_iff s).mp ok
  unfold missedLimit
  split
  · exact ok
  · rw [timeBaseOk_iff, RefRx.Bounded, (missedMove_frame s).ref]
    exact ⟨missedMove_bounded bounded, missedMove_labelled labelled, message⟩

theorem holdoverLimit_timeBaseOk {s : State} (ok : TimeBaseOk s) : TimeBaseOk (holdoverLimit s) := by
  obtain ⟨bounded, labelled, message⟩ := (timeBaseOk_iff s).mp ok
  unfold holdoverLimit
  split
  next due =>
    rw [timeBaseOk_iff, RefRx.Bounded, setDisc_ref]
    have carried := labelled.some (by simp [due.1])
    exact ⟨setDisc_bounded bounded (by simp), setDisc_labelled (by simpa using carried), message⟩
  · exact ok

theorem changeMode_timeBaseOk {s : State} (ok : TimeBaseOk s) (m : RefMode) : TimeBaseOk (changeMode m s) := by
  obtain ⟨bounded, labelled, message⟩ := (timeBaseOk_iff s).mp ok
  have kept : RefRx.Bounded { s.ref.discardWaiting with mode := m, continuity := none } := by
    intro k eq
    refine message k ?_
    unfold RefRx.discardWaiting at eq
    dsimp only at eq
    split at eq
    next x stored =>
      split at eq
      · cases eq
      · cases eq
        exact stored
    · cases eq
  let t : TimeBase := { s.tb with
    missed := 0, good := 0, outlier := 0, mismatch := 0, curMark := false, prevMark := false
    pendingLabel := if m = .full then none else s.tb.pendingLabel
    holdover := if m = .off ∧ s.tb.disc = .holdover then 0 else s.tb.holdover }
  have cleared : t.Bounded := { bounded with
    missed := Nat.zero_le _
    good := Nat.zero_le _
    outlier := Nat.zero_le _
    mismatch := Nat.zero_le _
    pending := by
      dsimp only [t]
      split
      · simp
      · exact bounded.pending
    holdover := by
      dsimp only [t]
      have := bounded.holdover
      split <;> omega
    inHoldover := fun holding => by
      have := bounded.inHoldover holding
      dsimp only [t]
      split <;> omega }
  rw [timeBaseOk_iff]
  unfold changeMode
  dsimp only
  split
  next off =>
    have carried := labelled.some off.2
    rw [RefRx.Bounded, setDisc_ref]
    exact ⟨setDisc_bounded (setTb_bounded cleared _) (by simp), setDisc_labelled (by simpa using carried), kept⟩
  · exact ⟨cleared, labelled, kept⟩

theorem actTimeSet_timeBaseOk {s : State} (ok : TimeBaseOk s) (day sec : Nat) : TimeBaseOk (actTimeSet day sec s).state := by
  obtain ⟨bounded, labelled, message⟩ := (timeBaseOk_iff s).mp ok
  unfold actTimeSet
  split_ifs with range
  · exact ok
  · exact ok
  · have pending : ∀ l : Label, some { day := day, sec := sec } = some l → l.ok := by
      intro l eq
      cases eq
      dsimp only [Label.ok]
      omega
    exact (timeBaseOk_iff _).mpr ⟨setTb_bounded (by exact { bounded with pending := pending }) s, labelled, message⟩

theorem actRefModeSet_timeBaseOk {s : State} (ok : TimeBaseOk s) (mode : Nat) :
    TimeBaseOk (actRefModeSet mode s).state := by
  unfold actRefModeSet
  split
  · exact ok
  next m _ =>
    split
    · exact ok
    · exact changeMode_timeBaseOk ok m

theorem actTimeFaultsClear_timeBaseOk {s : State} (ok : TimeBaseOk s) : TimeBaseOk (actTimeFaultsClear s).state := by
  obtain ⟨bounded, labelled, message⟩ := (timeBaseOk_iff s).mp ok
  rw [timeBaseOk_iff]
  exact ⟨setTb_bounded (by exact { bounded with
    missed := Nat.zero_le _, outlier := Nat.zero_le _, mismatch := Nat.zero_le _ }) s, labelled, message⟩

/-! ### Commands that write the receiver -/

/-- A receiver written within its bounds keeps the Time Base's. -/
theorem setRef_timeBaseOk {s : State} (ok : TimeBaseOk s) {r : RefRx} (bounded : r.Bounded) : TimeBaseOk (s.setRef r) := by
  obtain ⟨tb, labelled, -⟩ := (timeBaseOk_iff s).mp ok
  exact (timeBaseOk_iff _).mpr ⟨tb, labelled, bounded⟩

theorem rd1_lt (bs : List Byte) (i : Nat) : rd1 bs i < 256 := (bs.getD i 0).isLt

theorem messageOf_ok {bs : List Byte} {l : Label} {q : Byte} (h : messageOf bs = some (l, q)) : l.ok := by
  unfold messageOf at h
  dsimp only at h
  split at h
  next good =>
    cases h
    have high := rd1_lt bs 1
    have low := rd1_lt bs (1 + 1)
    exact ⟨by simp only [rd2]; omega, good.2.1⟩
  · cases h

theorem refMessageGapTimeout_timeBaseOk {s : State} (ok : TimeBaseOk s) : TimeBaseOk (refMessageGapTimeout s) := by
  unfold refMessageGapTimeout
  split
  · exact setRef_timeBaseOk ok ((timeBaseOk_iff s).mp ok).2.2
  · exact ok

theorem messageByte_timeBaseOk {s : State} (ok : TimeBaseOk s) (b : Byte) : TimeBaseOk (messageByte b s) := by
  have gapped := refMessageGapTimeout_timeBaseOk ok
  have message := ((timeBaseOk_iff _).mp gapped).2.2
  simp only [messageByte]
  split
  · split
    · exact setRef_timeBaseOk gapped message
    · exact gapped
  · split
    · exact setRef_timeBaseOk gapped message
    · split
      next l q read => exact setRef_timeBaseOk gapped (fun m eq => by cases eq; exact messageOf_ok read)
      · exact setRef_timeBaseOk gapped message

theorem refMessageReceived_timeBaseOk {s : State} (ok : TimeBaseOk s) (bytes : List Byte) :
    TimeBaseOk (refMessageReceived bytes s) := by
  unfold refMessageReceived
  induction bytes generalizing s with
  | nil => exact ok
  | cons b bs ih => exact ih (messageByte_timeBaseOk ok b)

theorem RefRx.Bounded.expire {r : RefRx} (h : r.Bounded) : r.expire.Bounded := by
  intro m eq
  unfold RefRx.expire at eq
  obtain ⟨k, stored, rfl⟩ := Option.map_eq_some_iff.mp eq
  have := h k stored
  split <;> exact this

theorem refMessageExpired_timeBaseOk {s : State} (ok : TimeBaseOk s) : TimeBaseOk (refMessageExpired s) := by
  unfold refMessageExpired
  split
  · exact setRef_timeBaseOk ok ((timeBaseOk_iff s).mp ok).2.2.expire
  · exact ok

theorem timeBaseOk_of_same {s t : State} (tb : t.tb = s.tb) (message : t.ref.message = s.ref.message) (ok : TimeBaseOk s) :
    TimeBaseOk t := by
  rw [timeBaseOk_iff, RefRx.Bounded, tb, message]
  exact (timeBaseOk_iff s).mp ok

theorem warmResetEntry_timeBaseOk {s : State} (ok : TimeBaseOk s) : TimeBaseOk (warmResetEntry s) := by
  unfold warmResetEntry
  split
  · exact ok
  · have expired := setRef_timeBaseOk ok (r := { s.ref.expire with rx := [] }) ((timeBaseOk_iff s).mp ok).2.2.expire
    exact timeBaseOk_of_same (abortEdits_frame _).tb (congrArg RefRx.message (abortEdits_frame _).ref) expired

/-! ### Every command and step -/

theorem after_request_timeBaseOk {i : Instr} {x : Req × Port × Byte} (spelled : i.request = some x) {s : State}
    (ok : TimeBaseOk s) : TimeBaseOk (after i s) := by
  by_cases writer : Part.tb ∈ writes i ∨ Part.ref ∈ writes i
  · cases i with
    | timeSet p tag day sec =>
      exact request_keeps (P := TimeBaseOk) (fun _ _ h => h) (fun ok => actTimeSet_timeBaseOk ok day sec) ok
    | refModeSet p tag mode =>
      exact request_keeps (P := TimeBaseOk) (fun _ _ h => h) (fun ok => actRefModeSet_timeBaseOk ok mode) ok
    | timeFaultsClear p tag =>
      exact request_keeps (P := TimeBaseOk) (fun _ _ h => h) actTimeFaultsClear_timeBaseOk ok
    | _ => first | (simp [writes] at writer; done) | cases spelled
  · obtain ⟨tb, ref⟩ := not_or.mp writer
    exact timeBaseOk_of_same ((after_frame i s).tb tb) (congrArg RefRx.message ((after_frame i s).ref ref)) ok

theorem after_timeBaseOk (c : Instr) {s : State} (ok : TimeBaseOk s) : TimeBaseOk (after c s) := by
  by_cases writer : Part.tb ∈ writes c ∨ Part.ref ∈ writes c
  · cases spelled : c.request with
    | some x => exact after_request_timeBaseOk spelled ok
    | none =>
      cases c with
      | coldStart => exact timeBaseOk_of_same (s := State.reset) rfl rfl (by simp [TimeBaseOk, State.reset, coldState])
      | localSecondBoundary =>
        show TimeBaseOk (localSecondBoundary s)
        unfold localSecondBoundary
        split
        · exact ok
        · exact boundary_timeBaseOk ok
      | offsetChangeApplied =>
        show TimeBaseOk (offsetChangeApplied s)
        unfold offsetChangeApplied
        split
        · exact boundary_timeBaseOk ok
        · exact ok
      | missedLimit => exact missedLimit_timeBaseOk ok
      | holdoverLimit => exact holdoverLimit_timeBaseOk ok
      | refPulse => exact refPulse_timeBaseOk ok
      | refMessageReceived bytes => exact refMessageReceived_timeBaseOk ok bytes
      | refMessageGapTimeout => exact refMessageGapTimeout_timeBaseOk ok
      | refMessageExpired => exact refMessageExpired_timeBaseOk ok
      | warmResetEntry => exact warmResetEntry_timeBaseOk ok
      | frameComplete p bytes =>
        exact frameComplete_keeps (P := TimeBaseOk) (fun _ _ h => h) (fun i r tag u h ok => after_request_timeBaseOk h ok)
          bytes s ok
      | _ => first | (simp [writes] at writer; done) | cases spelled
  · obtain ⟨tb, ref⟩ := not_or.mp writer
    exact timeBaseOk_of_same ((after_frame c s).tb tb) (congrArg RefRx.message ((after_frame c s).ref ref)) ok

/-- A count within the second keeps the Time Base within its bounds. -/
theorem TimeBase.Bounded.tick {t : TimeBase} (h : t.Bounded) (within : t.count + 1 < t.len) : t.tick.Bounded :=
  { h with
    count := within
    ms := by
      have := h.ms
      simp only [TimeBase.tick]
      split
      next begins => simp only [decide_eq_true_eq] at begins; omega
      · exact this }

/-- Settles O31: every command keeps the bounds by the lemma of each operation that writes the Time Base, and a count
stays below the length. -/
theorem theTimeBaseStaysWithinItsBounds : Obligations.TheTimeBaseStaysWithinItsBounds := by
  intro s t ok ran
  refine step_keeps (P := TimeBaseOk) (fun _ _ h => h) (fun s within h => ?_) (fun c s h => after_timeBaseOk c h) ok ran
  obtain ⟨bounded, labelled, message⟩ := (timeBaseOk_iff s).mp h
  exact (timeBaseOk_iff _).mpr ⟨bounded.tick within, labelled, message⟩

end Sys2Proof.Machine
end

section
/-! SUPPORT. The length of each second and run time within it (R1, R2, R205), and a step with no command waiting. -/

namespace Sys2Proof.Machine

set_option Elab.async false

/-! ### A step with no command waiting -/

theorem step_idle {s : State} (empty : s.pending = []) : step s = .next (idle s) := by simp [step, empty]

theorem idle_of_due {s : State} (h : due s ≠ []) : idle s = { s with pending := due s } := by
  unfold idle
  split
  next none => exact absurd none h
  next => rfl
theorem idle_of_none {s : State} (h : due s = []) : idle s = tick s := by simp [idle, h]

/-- Settles O2, from the three cases of `idle`. -/
theorem emptyQueueLetsTimePass : Obligations.EmptyQueueLetsTimePass := by
  intro s empty
  refine ⟨idle s, step_idle empty, idle_of_due, fun none within => ?_, fun none last => ?_⟩
  · rw [idle_of_none none, tick, if_pos within]
    rfl
  · rw [idle_of_none none, tick, if_neg (Nat.not_lt.mpr last)]

/-! ### The length of a second (R1) -/

/-- A Time Base that runs as one fixed by R1 is itself fixed by R1. -/
theorem SecondFixed.of_samePace {t u : TimeBase} (fl : -26214400 ≤ t.freq) (fh : t.freq ≤ 26214400)
    (residue : t.residue ≤ 65535) (same : t.newSecond.SamePace u) : SecondFixed t.slew t u := by
  obtain ⟨clock, pace⟩ := same
  simp only [Prod.mk.injEq] at clock pace
  obtain ⟨-, -, count, len, left⟩ := clock
  refine ⟨pace.2.trans (TimeBase.newSecond_slew t), ?_, ?_, count⟩
  · rw [left]
    exact TimeBase.newSecond_residue t
  · rw [len]
    exact TimeBase.newSecond_len fl fh residue

/-- A slew that `n` seconds can carry is gone after `n` seconds. -/
theorem newSecond_iterate_slew_zero (n : Nat) {t : TimeBase} (h : -(4194 * n) ≤ t.slew ∧ t.slew ≤ 4194 * n) :
    (TimeBase.newSecond^[n] t).slew = 0 := by
  induction n generalizing t with
  | zero => simp only [Function.iterate_zero, id_eq]; omega
  | succ n ih =>
    rw [Function.iterate_succ_apply]
    refine ih ?_
    rw [TimeBase.newSecond_slew]
    simp only [clampInt]
    push_cast at h
    omega

/-- While more than it can carry is pending, a second takes 4,194. -/
theorem newSecond_iterate_slew (n : Nat) {t : TimeBase} (h : 4194 * n ≤ t.slew) :
    (TimeBase.newSecond^[n] t).slew = t.slew - 4194 * n := by
  induction n generalizing t with
  | zero => simp
  | succ n ih =>
    push_cast at h
    have one : t.newSecond.slew = t.slew - 4194 := by
      rw [TimeBase.newSecond_slew]
      simp only [clampInt]
      omega
    rw [Function.iterate_succ_apply, ih (by omega), one]
    push_cast
    omega

/-- Settles O18: a boundary and a cut second are both fixed by R1, and what is left is arithmetic over R, acc and q. -/
theorem theLengthOfEachSecond : Obligations.TheLengthOfEachSecond := by
  refine ⟨fun s t fl fh residue => ⟨fun last ran => ?boundary, fun ran rises => ?pulse⟩, fun s within => ?within,
    fun s empty none => ⟨fun within => ?count, fun last => ?last⟩, fun f r fl fh rl rh => ?trim,
    fun p f r fl fh rl rh => ?length, fun t low high => ?slewed, fun t most => ?largest⟩
  case boundary =>
    cases ran
    refine SecondFixed.of_samePace fl fh residue ?_
    rw [localSecondBoundary_of_reached last]
    exact boundary_samePace s
  case pulse =>
    cases ran
    rcases refPulse_runs s with on | cut
    · exact absurd (now_of_clock on).1 rises
    · exact SecondFixed.of_samePace (t := { s.tb with slew := 0 }) fl fh residue cut
  case within => exact congrArg _ (localSecondBoundary_of_within within)
  case count =>
    refine ⟨idle s, step_idle empty, ?_⟩
    rw [idle_of_none none, tick, if_pos within]
    exact ⟨rfl, rfl⟩
  case last => rw [step_idle empty, idle_of_none none, tick, if_neg (Nat.not_lt.mpr last)]
  case trim =>
    have := trim_bounds fl fh rl rh
    omega
  case length =>
    have trim := trim_bounds fl fh rl rh
    have slew := clampInt_bounds (show (-4194 : Int) ≤ 4194 by decide) p
    omega
  case slewed => exact newSecond_iterate_slew_zero 101 (by omega)
  case largest =>
    rw [newSecond_iterate_slew 100 (by omega), most]
    rfl

/-! ### Run time within a second (R2) -/

/-- After `k` counts of a second, the millisecond in progress is the one that began last. -/
structure Elapsed (t : TimeBase) (k : Nat) (u : TimeBase) : Prop where
  count : u.count = k
  len : u.len = t.len
  uptime : u.uptime = t.uptime + u.ms
  ms : u.ms ≤ 999
  begun : u.ms * t.len / 1000 ≤ k
  next : k < (u.ms + 1) * t.len / 1000

/-- In a second of at least 1,000 counts the next millisecond begins after at least one more count. -/
theorem msStart_lt_succ {len : Nat} (long : 1000 ≤ len) (k : Nat) : msStart k len < msStart (k + 1) len := by
  have succ : (k + 1) * len = k * len + len := Nat.succ_mul k len
  simp only [msStart, succ]
  omega

theorem Elapsed.tick {t u : TimeBase} {k : Nat} (h : Elapsed t k u) (long : 1000 ≤ t.len) (within : k + 1 < t.len) :
    Elapsed t (k + 1) u.tick := by
  obtain ⟨count, len, uptime, ms, begun, next⟩ := h
  have later := msStart_lt_succ long (u.ms + 1)
  simp only [msStart] at later
  by_cases begins : u.ms < 999 ∧ msStart (u.ms + 1) t.len ≤ k + 1
  · have ticked : u.tick = { u with count := k + 1, ms := u.ms + 1, uptime := u.uptime + 1 } := by
      simp [TimeBase.tick, count, len, begins]
    have start := begins.2
    simp only [msStart] at start
    rw [ticked]
    exact ⟨rfl, len, by dsimp only; rw [uptime, Nat.add_assoc], by dsimp only; omega, start, by dsimp only; omega⟩
  · have ticked : u.tick = { u with count := k + 1 } := by
      simp only [TimeBase.tick, count, len, decide_eq_true_eq, if_neg begins]
    rw [ticked]
    refine ⟨rfl, len, uptime, ms, Nat.le_succ_of_le begun, ?_⟩
    show k + 1 < (u.ms + 1) * t.len / 1000
    by_cases last : u.ms = 999
    · rw [last]
      omega
    · simp only [msStart] at begins
      omega

theorem elapsed_tick_iterate {t : TimeBase} (count : t.count = 0) (ms : t.ms = 0) (long : 1000 ≤ t.len) {k : Nat}
    (within : k < t.len) : Elapsed t k (TimeBase.tick^[k] t) := by
  induction k with
  | zero =>
    simp only [Function.iterate_zero, id_eq]
    exact ⟨count, rfl, by simp [ms], by omega, by simp [ms], by rw [ms]; omega⟩
  | succ k ih =>
    rw [Function.iterate_succ_apply']
    exact (ih (by omega)).tick long within

/-- The last count of a second lies in its last millisecond. -/
theorem Elapsed.last {t u : TimeBase} (h : Elapsed t (t.len - 1) u) (long : 1000 ≤ t.len) : u.ms = 999 := by
  have ms := h.ms
  have next := h.next
  by_contra early
  have short : (u.ms + 1) * t.len ≤ 999 * t.len := Nat.mul_le_mul_right t.len (by omega)
  omega

/-! ### The wrapping of run time (R2, R205) -/

theorem runTime_toNat (t : Instant) : (runTime t).toNat = t % 4294967296 := by simp [runTime]

/-- Within half the circle, the sign of the difference of two run times is that of the instants. -/
theorem runTime_diff_nonneg_iff {now deadline : Nat} (after : now < deadline + 2147483648)
    (before : deadline ≤ now + 2147483648 - 1) : 0 ≤ (runTime now - runTime deadline).toInt ↔ deadline ≤ now := by
  have nat : (runTime now - runTime deadline).toNat =
      (4294967296 - deadline % 4294967296 + now % 4294967296) % 4294967296 := by
    rw [BitVec.toNat_sub, runTime_toNat, runTime_toNat]
  rw [BitVec.toInt_eq_toNat_cond, nat]
  split <;> omega

/-- Settles O19: the counts of a second by induction, and the signed difference by arithmetic modulo 2^32. -/
theorem runTimeWithinASecondAndItsWrapping : Obligations.RunTimeWithinASecondAndItsWrapping := by
  refine ⟨fun t count ms long => ⟨fun k within => ?_, ?_⟩, fun t => ?_, fun now deadline => runTime_diff_nonneg_iff⟩
  · obtain ⟨counted, len, uptime, low, begun, next⟩ := elapsed_tick_iterate count ms long within
    exact ⟨counted, len, uptime, low, begun, next⟩
  · have last := elapsed_tick_iterate count ms long (show t.len - 1 < t.len by omega)
    show (TimeBase.tick^[t.len - 1] t).uptime + 1 = _
    rw [last.uptime, last.last long]
  · rw [beTime, runTime_toNat]

end Sys2Proof.Machine
end

section
/-! SUPPORT. The cold state read record by record (R184), and the invariants at reset. -/

namespace Sys2Proof.Machine

set_option Elab.async false

variable (l : Lines) (q : List Instr)

@[simp] theorem coldState_dial (d : Fin 4) : (coldState l q).dial d = {} := by simp [coldState, State.dial]
@[simp] theorem coldState_bell (b : Fin 16) : (coldState l q).bell b = { guard := coldGuard l b } := by
  simp [coldState, State.bell]
@[simp] theorem coldState_swing (b : Fin 16) : (coldState l q).swing b = {} := by simp [coldState, State.swing]
@[simp] theorem coldState_session (n : Fin 4) : (coldState l q).session n = {} := by simp [coldState, State.session]
@[simp] theorem coldState_tune (t : Fin 24) : (coldState l q).tune t = {} := by simp [coldState, State.tune]
@[simp] theorem coldState_plan (n : PlanName) : (coldState l q).plan n = {} := by cases n <;> rfl
@[simp] theorem coldState_event (e : Fin 96) : (coldState l q).event e = {} := by simp [coldState, State.event]
@[simp] theorem coldState_light (c : Fin 8) : (coldState l q).light c = {} := by simp [coldState, State.light]
@[simp] theorem coldState_toll (t : Fin 4) : (coldState l q).toll t = none := by simp [coldState, State.toll]
@[simp] theorem coldState_port (p : Port) : (coldState l q).port p = coldPort (portIndex p) := by
  simp [coldState, State.port]

theorem coldState_energised : (coldState l q).energised = 0 := by
  simp [State.energised]

/-! ### What the output lines read -/

theorem hammer_eq (s : State) (b : Fin 16) : s.hammer b = (s.bell b).pulseEnd.isSome := rfl
theorem guardEngDrive_eq (s : State) (b : Fin 16) :
    s.guardEngDrive b = ((s.bell b).guard.motion == .running && (s.bell b).guard.state == .engaging) := rfl
theorem guardRelDrive_eq (s : State) (b : Fin 16) :
    s.guardRelDrive b = ((s.bell b).guard.motion == .running && (s.bell b).guard.state == .releasing) := rfl
theorem swingDrive_eq (s : State) (b : Fin 16) : s.swingDrive b = (s.swing b).motor := rfl
theorem dialA_eq (s : State) (d : Fin 4) : s.dialA d = (s.dial d).flight.any (fun i => i.polarity == .positive) := rfl
theorem dialB_eq (s : State) (d : Fin 4) : s.dialB d = (s.dial d).flight.any (fun i => i.polarity == .negative) := rfl
theorem lamp_eq (s : State) (c : Fin 8) : s.lamp c = (s.light c).state.output := rfl
theorem attn_eq (s : State) (p : Port) : s.attn p =
    (!(s.port p).queue.isEmpty && (s.port p).attention && (s.port p).holdoffEnd.isNone && s.warm.held.isNone) := rfl

theorem coldState_allOff : AllOff (coldState l q) := by
  refine ⟨fun b => ?_, fun d => ?_, fun c => ?_⟩
  · simp [hammer_eq, guardEngDrive_eq, guardRelDrive_eq, swingDrive_eq, coldGuard]
  · simp [dialA_eq, dialB_eq]
  · simp [lamp_eq, ChannelState.output]

/-! ### The statements -/

theorem coldState_timeBaseOk : TimeBaseOk (coldState l q) := by simp [TimeBaseOk, coldState]

theorem coldState_portsOk : PortsOk (coldState l q) :=
  ⟨fun p => by simp [PortOk, coldPort], by simp [coldState]⟩

theorem coldState_dialsOk : DialsOk (coldState l q) := by simp [DialsOk]

theorem coldState_poolOk : PoolOk (coldState l q) := by
  simp [PoolOk, Tune.length]

theorem coldState_queueOk : QueueOk (coldState l q) := by simp [QueueOk, coldState]

theorem coldState_sharesOk : SharesOk (coldState l q) := by
  refine ⟨by simp [coldState], by simp [coldState], ?_⟩
  rw [coldState_energised]
  decide

theorem coldState_channelsOk : ChannelsOk (coldState l q) := by simp [ChannelsOk]
theorem coldState_lampsOk : LampsOk (coldState l q) := by simp [LampsOk]

/-- Settles O17: the state right after reset is a cold state, and every cold state meets the invariants. -/
theorem invariantsHoldAtReset : Obligations.InvariantsHoldAtReset :=
  ⟨coldState_timeBaseOk _ _, coldState_portsOk _ _, coldState_dialsOk _ _, coldState_poolOk _ _, coldState_queueOk _ _,
    coldState_sharesOk _ _, fun _ => coldState_allOff _ _, coldState_lampsOk _ _, coldState_channelsOk _ _⟩

/-- Settles O6: cold start is the cold state, read record by record. -/
theorem coldStartSetsEveryColdValue : Obligations.ColdStartSetsEveryColdValue := by
  intro s
  refine ⟨coldState s.lines s.pending, rfl, rfl, rfl, rfl, rfl, rfl, rfl, rfl, rfl, fun i h => ?_, rfl,
    coldState_dial _ _, fun b => ?_, coldState_swing _ _, fun n => ?_, coldState_tune _ _, coldState_plan _ _, rfl, rfl,
    rfl, coldState_toll _ _, rfl, rfl, rfl, coldState_energised _ _, fun e => ?_, rfl, rfl, rfl, coldState_light _ _, rfl,
    rfl, rfl, rfl, rfl, fun p => ?_, ?_, ?_, ?_, rfl, rfl⟩
  · simp [coldState]
  · simp [coldGuard]
  · simp
  · simp
  · simp [coldPort, attn_eq]
  all_goals simp [coldPort, portIndex, defaultRouting]

end Sys2Proof.Machine
end

section
/-! SUPPORT. What posts notices keeps the ports within bounds: one rule per operation of the blocks (R199, R200). -/

namespace Sys2Proof.Machine

set_option Elab.async false

variable (s : State)

/-- The bounds of the ports and of the reset notice list, read from those two alone. -/
def LinksOk (ports : Vector LinkPort 3) (notices : List Notice) : Prop :=
  (∀ p, PortOk ports[portIndex p]) ∧ notices.length ≤ 16

theorem portsOk_iff_linksOk : PortsOk s ↔ LinksOk s.ports s.warm.notices := Iff.rfl

@[simp] theorem linksOk_iff_portsOk : LinksOk s.ports s.warm.notices ↔ PortsOk s := Iff.rfl

/-- A record of state written in place is within bounds by its ports and its list. -/
@[simp] theorem portsOk_mk {tb ref civil days sun dials bells swings sessions tunes ordinary festal strike cal lights
    supply warm ports lines pending} :
    PortsOk ⟨tb, ref, civil, days, sun, dials, bells, swings, sessions, tunes, ordinary, festal, strike, cal, lights,
      supply, warm, ports, lines, pending⟩ ↔ LinksOk ports warm.notices := Iff.rfl

theorem Frame.portsOk {ps : List Part} {s t : State} (h : Frame ps s t) (ports : Part.ports ∉ ps := by decide)
    (notices : Part.notices ∉ ps := by decide) : PortsOk t ↔ PortsOk s := by
  rw [portsOk_iff_linksOk, portsOk_iff_linksOk, h.ports ports, (h .notices notices).1]

theorem portOk_take (n : Notice) (r : LinkPort) : PortOk (r.take n) ↔ PortOk r := by
  unfold LinkPort.take
  split
  · split
    next room => simp [PortOk, room, Nat.le_of_lt room]
    · rfl
  · rfl

/-- A notice finds room or is lost (R186, R200). -/
@[simp] theorem postNotice_portsOk (n : Notice) : PortsOk (postNotice n s) ↔ PortsOk s := by
  unfold postNotice
  split
  · split
    next room => simp [PortsOk, State.port, room, Nat.le_of_lt room]
    · rfl
  · simp [PortsOk, State.port, portOk_take]

@[simp] theorem postAt_portsOk (k : NoticeKind) (i : Nat) (d : BitVec 16) (l : Option Label) :
    PortsOk (postAt k i d l s) ↔ PortsOk s := postNotice_portsOk s _

@[simp] theorem post_portsOk (k : NoticeKind) (i : Nat) (d : BitVec 16) : PortsOk (post k i d s) ↔ PortsOk s :=
  postNotice_portsOk s _

@[simp] theorem State.setDial_portsOk (d : Fin 4) (r : Dial) : PortsOk (s.setDial d r) ↔ PortsOk s := Iff.rfl
@[simp] theorem State.setBell_portsOk (b : Fin 16) (r : Bell) : PortsOk (s.setBell b r) ↔ PortsOk s := Iff.rfl
@[simp] theorem State.setGuard_portsOk (b : Fin 16) (g : Guard) : PortsOk (s.setGuard b g) ↔ PortsOk s := Iff.rfl
@[simp] theorem State.setSwing_portsOk (b : Fin 16) (r : Swing) : PortsOk (s.setSwing b r) ↔ PortsOk s := Iff.rfl
@[simp] theorem State.setSession_portsOk (n : Fin 4) (r : Session) : PortsOk (s.setSession n r) ↔ PortsOk s := Iff.rfl
@[simp] theorem State.setTune_portsOk (t : Fin 24) (r : Tune) : PortsOk (s.setTune t r) ↔ PortsOk s := Iff.rfl
@[simp] theorem State.setEvent_portsOk (e : Fin 96) (r : Event) : PortsOk (s.setEvent e r) ↔ PortsOk s := Iff.rfl
@[simp] theorem State.setLight_portsOk (c : Fin 8) (r : Channel) : PortsOk (s.setLight c r) ↔ PortsOk s := Iff.rfl
@[simp] theorem State.setToll_portsOk (n : Fin 4) (r : Option Toll) : PortsOk (s.setToll n r) ↔ PortsOk s := Iff.rfl
@[simp] theorem State.setTb_portsOk (r : TimeBase) : PortsOk (s.setTb r) ↔ PortsOk s := Iff.rfl
@[simp] theorem State.setRef_portsOk (r : RefRx) : PortsOk (s.setRef r) ↔ PortsOk s := Iff.rfl
@[simp] theorem State.setQueue_portsOk (r : List Entry) : PortsOk (s.setQueue r) ↔ PortsOk s := Iff.rfl
@[simp] theorem State.setLines_portsOk (r : Lines) : PortsOk (s.setLines r) ↔ PortsOk s := Iff.rfl

@[simp] theorem portsOk_ite (c : Prop) [Decidable c] (a b : State) :
    PortsOk (if c then a else b) ↔ if c then PortsOk a else PortsOk b := by split <;> rfl

@[simp] theorem foldl_portsOk {α : Type} {f : State → α → State} (h : ∀ s x, PortsOk (f s x) ↔ PortsOk s)
    (xs : List α) : PortsOk (xs.foldl f s) ↔ PortsOk s := by
  induction xs generalizing s with
  | nil => rfl
  | cons x xs ih => exact (ih _).trans (h s x)

theorem decideBells_portsOk {f : Fin 16 → State → State × Option Status}
    (h : ∀ b s, PortsOk (f b s).1 ↔ PortsOk s) (bs : List (Fin 16)) : PortsOk (decideBells f bs s).1 ↔ PortsOk s := by
  induction bs generalizing s with
  | nil => rfl
  | cons b bs ih => exact (ih _).trans (h b s)

theorem portsOk_of_pair {α : Type} {t : State} {x : State × α} {a : α} (h : x = (t, a))
    (kept : PortsOk x.1 ↔ PortsOk s) : PortsOk t ↔ PortsOk s := by
  subst h
  exact kept

@[simp] theorem tryStart_portsOk (n : Fin 4) : PortsOk (tryStart n s) ↔ PortsOk s :=
  (tryStart_frame s n).portsOk

@[simp] theorem tryStartOf_portsOk (b : Fin 16) : PortsOk (tryStartOf b s) ↔ PortsOk s :=
  (tryStartOf_frame s b).portsOk

@[simp] theorem guardComplete_portsOk (b : Fin 16) : PortsOk (guardComplete b s) ↔ PortsOk s := by
  simp only [guardComplete]
  repeat' split
  all_goals simp

@[simp] theorem guardBegin_portsOk (b : Fin 16) : PortsOk (guardBegin b s) ↔ PortsOk s := by
  simp only [guardBegin]
  repeat' split
  all_goals simp

@[simp] theorem guardEngage_portsOk (b : Fin 16) : PortsOk (guardEngage b s) ↔ PortsOk s := by
  simp only [guardEngage]
  repeat' split
  all_goals simp

@[simp] theorem guardRelease_portsOk (b : Fin 16) : PortsOk (guardRelease b s) ↔ PortsOk s := by
  simp only [guardRelease]
  repeat' split
  all_goals simp

@[simp] theorem changeHolder_portsOk (b : Fin 16) (h : Holder) :
    PortsOk (changeHolder b h s) ↔ PortsOk s := by simp [changeHolder]

@[simp] theorem setHolder_portsOk (b : Fin 16) (h : Holder) : PortsOk (setHolder b h s) ↔ PortsOk s := by
  simp only [setHolder]
  repeat' split
  all_goals simp

@[simp] theorem motorOff_portsOk (b : Fin 16) : PortsOk (motorOff b s) ↔ PortsOk s :=
  (motorOff_frame s b).portsOk

@[simp] theorem settleStopSlot_portsOk (n : Fin 4) : PortsOk (settleStopSlot n s) ↔ PortsOk s :=
  (settleStopSlot_frame s n).portsOk

@[simp] theorem endSession_portsOk (n : Fin 4) : PortsOk (endSession n s) ↔ PortsOk s := by
  simp only [endSession]
  repeat' split
  all_goals simp

@[simp] theorem afterLeaving_portsOk (n : Fin 4) : PortsOk (afterLeaving n s) ↔ PortsOk s := by
  simp only [afterLeaving]
  repeat' split
  all_goals simp

@[simp] theorem leaveEarly_portsOk (b : Fin 16) (h : Holder) : PortsOk (leaveEarly b h s) ↔ PortsOk s := by
  simp only [leaveEarly]
  repeat' split
  all_goals simp

@[simp] theorem guardFaultState_portsOk (b : Fin 16) (c : GuardCause) :
    PortsOk (guardFaultState b c s) ↔ PortsOk s := by simp [guardFaultState]

@[simp] theorem guardFault_portsOk (b : Fin 16) (c : GuardCause) :
    PortsOk (guardFault b c s) ↔ PortsOk s := by simp [guardFault]

@[simp] theorem readGuard_portsOk (b : Fin 16) : PortsOk (readGuard b s) ↔ PortsOk s := by
  simp only [readGuard]
  repeat' split
  all_goals simp

@[simp] theorem enterAtRest_portsOk (b : Fin 16) : PortsOk (enterAtRest b s) ↔ PortsOk s :=
  (enterAtRest_frame s b).portsOk

@[simp] theorem swingFault_portsOk (b : Fin 16) (c : SwingFault) :
    PortsOk (swingFault b c s) ↔ PortsOk s := by simp [swingFault]

@[simp] theorem enterStopping_portsOk (n : Fin 4) (c : EndCause) : PortsOk (enterStopping n c s) ↔ PortsOk s := by
  simp only [enterStopping]
  repeat' split
  all_goals simp

@[simp] theorem handFault_portsOk (b : Fin 16) : PortsOk (handFault b s) ↔ PortsOk s := by
  simp only [handFault]
  repeat' split
  all_goals simp

@[simp] theorem createIn_portsOk (n : Fin 4) (origin : SessionOrigin) (mask : BitVec 16) (stagger : Nat) (duration : Nat) :
    PortsOk (createIn n origin mask stagger duration s) ↔ PortsOk s := by
  simp only [createIn]
  repeat' split
  all_goals simp

@[simp] theorem createSession_portsOk (origin : SessionOrigin) (mask : BitVec 16) (stagger : Nat) (duration : Nat) :
    PortsOk (createSession origin mask stagger duration s).1 ↔ PortsOk s := by
  simp only [createSession]
  repeat' split
  all_goals simp

@[simp] theorem contactTaken_portsOk (b : Fin 16) (c : Contact) (closed : Bool) :
    PortsOk (contactTaken b c closed s) ↔ PortsOk s := by
  simp only [contactTaken]
  repeat' split
  all_goals simp

@[simp] theorem guardHalt_portsOk (b : Fin 16) : PortsOk (guardHalt b s) ↔ PortsOk s :=
  (guardHalt_frame s b).portsOk

@[simp] theorem guardResume_portsOk (b : Fin 16) : PortsOk (guardResume b s) ↔ PortsOk s := by
  simp only [guardResume]
  repeat' split
  all_goals simp

@[simp] theorem sessionSupplyLost_portsOk (n : Fin 4) : PortsOk (sessionSupplyLost n s) ↔ PortsOk s := by
  simp only [sessionSupplyLost]
  repeat' split
  all_goals simp

@[simp] theorem swingsSupplyLost_portsOk : PortsOk (swingsSupplyLost s) ↔ PortsOk s := by simp [swingsSupplyLost]

@[simp] theorem bellCompletion_portsOk (b : Fin 16) : PortsOk (bellCompletion b s) ↔ PortsOk s := by
  simp only [bellCompletion]
  repeat' split
  all_goals simp

@[simp] theorem swingCompletion_portsOk (b : Fin 16) : PortsOk (swingCompletion b s) ↔ PortsOk s :=
  (swingCompletion_frame s b).portsOk

@[simp] theorem guardContactSettled_portsOk (b : Fin 16) (c : Contact) :
    PortsOk (guardContactSettled b c s) ↔ PortsOk s := by
  simp only [guardContactSettled]
  repeat' split
  all_goals simp

@[simp] theorem guardTravelTimeout_portsOk (b : Fin 16) : PortsOk (guardTravelTimeout b s) ↔ PortsOk s := by
  simp only [guardTravelTimeout]
  repeat' split
  all_goals simp

@[simp] theorem pulseTaken_portsOk (b : Fin 16) (interval : Option Nat) :
    PortsOk (pulseTaken b interval s) ↔ PortsOk s := by
  simp only [pulseTaken]
  repeat' split
  all_goals simp

@[simp] theorem sensorPulse_portsOk (b : Fin 16) : PortsOk (sensorPulse b s) ↔ PortsOk s := by
  simp only [sensorPulse]
  repeat' split
  all_goals simp

@[simp] theorem driftSettled_portsOk (b : Fin 16) : PortsOk (driftSettled b s) ↔ PortsOk s := by
  simp only [driftSettled]
  repeat' split
  all_goals simp

@[simp] theorem leaveSettled_portsOk (n : Fin 4) (b : Fin 16) :
    PortsOk (leaveSettled n b s) ↔ PortsOk s := by simp [leaveSettled]

@[simp] theorem stopSettled_portsOk (b : Fin 16) : PortsOk (stopSettled b s) ↔ PortsOk s := by
  simp only [stopSettled]
  repeat' split
  all_goals simp

@[simp] theorem startTimeout_portsOk (b : Fin 16) : PortsOk (startTimeout b s) ↔ PortsOk s := by
  simp only [startTimeout]
  repeat' split
  all_goals simp

@[simp] theorem swingLost_portsOk (b : Fin 16) : PortsOk (swingLost b s) ↔ PortsOk s := by
  simp only [swingLost]
  repeat' split
  all_goals simp

@[simp] theorem sessionEndTime_portsOk (n : Fin 4) : PortsOk (sessionEndTime n s) ↔ PortsOk s := by
  simp only [sessionEndTime]
  repeat' split
  all_goals simp

@[simp] theorem claimBell_portsOk (p : Port) (ropes : Bool) (b : Fin 16) :
    PortsOk (claimBell p ropes b s).1 ↔ PortsOk s := by
  simp only [claimBell]
  repeat' split
  all_goals simp

@[simp] theorem actClaim_portsOk (p : Port) (kind : Nat) (mask : Nat) :
    PortsOk (actClaim p kind mask s).state ↔ PortsOk s := by
  simp only [actClaim]
  repeat' split
  · rfl
  · rfl
  · exact decideBells_portsOk s (fun b s => claimBell_portsOk s ..) _

@[simp] theorem releaseBell_portsOk (p : Port) (b : Fin 16) : PortsOk (releaseBell p b s).1 ↔ PortsOk s := by
  simp only [releaseBell]
  repeat' split
  all_goals simp

@[simp] theorem actRelease_portsOk (p : Port) (mask : Nat) : PortsOk (actRelease p mask s).state ↔ PortsOk s := by
  simp only [actRelease]
  split
  · rfl
  · exact decideBells_portsOk s (fun b s => releaseBell_portsOk s ..) _

@[simp] theorem writeBell_portsOk (b : Fin 16) (c : BellConfig) : PortsOk (writeBell b c s) ↔ PortsOk s := by
  simp only [writeBell]
  repeat' split
  all_goals simp

@[simp] theorem actBellConfig_portsOk (a : BellArgs) : PortsOk (actBellConfig a s).state ↔ PortsOk s := by
  simp only [actBellConfig]
  repeat' split
  all_goals simp

@[simp] theorem clearSwing_portsOk (b : Fin 16) : PortsOk (clearSwing b s).1 ↔ PortsOk s :=
  (clearSwing_frame s b).portsOk

@[simp] theorem clearGuard_portsOk (b : Fin 16) : PortsOk (clearGuard b s).1 ↔ PortsOk s := by
  simp only [clearGuard]
  repeat' split
  all_goals simp

@[simp] theorem actBellFaultClear_portsOk (bell : Nat) : PortsOk (actBellFaultClear bell s).state ↔ PortsOk s := by
  simp only [actBellFaultClear]
  repeat' split
  all_goals simp

@[simp] theorem actRingStart_portsOk (mask : Nat) (stagger : Nat) (duration : Nat) :
    PortsOk (actRingStart mask stagger duration s).state ↔ PortsOk s := by
  simp only [actRingStart]
  split
  · rfl
  · split
    · rfl
    · rfl
    · rfl
    next made => simpa using portsOk_of_pair s made (createSession_portsOk s ..)

@[simp] theorem actRingCancel_portsOk (session : Nat) : PortsOk (actRingCancel session s).state ↔ PortsOk s := by
  simp only [actRingCancel]
  repeat' split
  all_goals simp

@[simp] theorem enqueue_portsOk (due : Instant) (b : Fin 16) (o : Origin) (number : Nat) :
    PortsOk (enqueue due b o number s) ↔ PortsOk s :=
  (enqueue_frame s due b o number).portsOk

@[simp] theorem removeEntry_portsOk (seq : Nat) : PortsOk (removeEntry seq s) ↔ PortsOk s :=
  (removeEntry_frame s seq).portsOk

@[simp] theorem replaceEntry_portsOk (e : Entry) : PortsOk (replaceEntry e s) ↔ PortsOk s :=
  (replaceEntry_frame s e).portsOk

@[simp] theorem endToll_portsOk (n : Fin 4) (c : TollCause) : PortsOk (endToll n c s) ↔ PortsOk s := by
  simp only [endToll]
  repeat' split
  all_goals simp

@[simp] theorem tollServed_portsOk (n : Fin 4) (begun : Bool) (due : Instant) :
    PortsOk (tollServed n begun due s) ↔ PortsOk s := by
  simp only [tollServed]
  repeat' split
  all_goals simp

@[simp] theorem entryLeft_portsOk (e : Entry) (begun : Bool) : PortsOk (entryLeft e begun s) ↔ PortsOk s := by
  simp only [entryLeft]
  repeat' split
  all_goals simp

@[simp] theorem skipEntry_portsOk (e : Entry) (f : StrikeFail) :
    PortsOk (skipEntry e f s) ↔ PortsOk s := by simp [skipEntry]

@[simp] theorem beginPulse_portsOk (e : Entry) : PortsOk (beginPulse e s) ↔ PortsOk s := by simp [beginPulse]

@[simp] theorem serveEntry_portsOk (e : Entry) : PortsOk (serveEntry e s) ↔ PortsOk s := by
  simp only [serveEntry]
  repeat' split
  all_goals simp

@[simp] theorem takeUp_portsOk (e : Entry) : PortsOk (takeUp e s) ↔ PortsOk s := by
  simp only [takeUp]
  repeat' split
  all_goals simp

@[simp] theorem takeUpEach_portsOk (pick : Entry → State → Bool) : PortsOk (takeUpEach pick s) ↔ PortsOk s := by
  refine foldl_portsOk s (fun s e => ?_) _
  split
  · simp
  · rfl

@[simp] theorem grantShares_portsOk : PortsOk (grantShares s) ↔ PortsOk s := by simp [grantShares]

@[simp] theorem serveQueue_portsOk : PortsOk (serveQueue s) ↔ PortsOk s := by simp [serveQueue]

@[simp] theorem releaseHammer_portsOk (b : Fin 16) : PortsOk (releaseHammer b s) ↔ PortsOk s := by
  simp only [releaseHammer]
  repeat' split
  all_goals simp

@[simp] theorem setOutcome_portsOk (o : QuarterOutcome) (index : Nat) : PortsOk (setOutcome o index s) ↔ PortsOk s :=
  (setOutcome_frame s o index).portsOk

@[simp] theorem setHeld_portsOk (h : Option Held) : PortsOk (setHeld h s) ↔ PortsOk s :=
  (setHeld_frame s h).portsOk

@[simp] theorem setMarker_portsOk (index : Nat) : PortsOk (setMarker index s) ↔ PortsOk s :=
  (setMarker_frame s index).portsOk

@[simp] theorem quarterSkipped_portsOk (r : SkipReason) (needed : Nat) :
    PortsOk (quarterSkipped r needed s) ↔ PortsOk s := by simp [quarterSkipped]

@[simp] theorem enqueueNotes_portsOk (base : Instant) (o : Origin) (number : Nat) (ns : List (Fin 16 × Nat)) :
    PortsOk (enqueueNotes base o number ns s) ↔ PortsOk s :=
  (enqueueNotes_frame s base o number ns).portsOk

@[simp] theorem enqueueStrokes_portsOk (start : Instant) (pace : Nat) (b : Fin 16) (count : Nat) :
    PortsOk (enqueueStrokes start pace b count s) ↔ PortsOk s :=
  (enqueueStrokes_frame s start pace b count).portsOk

@[simp] theorem insertChime_portsOk (c : Chime) (base : Instant) (done : QuarterOutcome) :
    PortsOk (insertChime c base done s) ↔ PortsOk s := by
  simp only [insertChime]
  repeat' split
  all_goals simp

@[simp] theorem endHeldFallback_portsOk (base : Instant) : PortsOk (endHeldFallback base s) ↔ PortsOk s := by
  simp only [endHeldFallback]
  repeat' split
  all_goals simp

@[simp] theorem endHeldTune_portsOk (base : Instant) : PortsOk (endHeldTune base s) ↔ PortsOk s := by
  simp only [endHeldTune]
  repeat' split
  all_goals simp

@[simp] theorem dropHeld_portsOk : PortsOk (dropHeld s) ↔ PortsOk s := by
  simp only [dropHeld]
  repeat' split
  all_goals simp

@[simp] theorem tuneHandoff_portsOk (t : Fin 24) : PortsOk (tuneHandoff t s) ↔ PortsOk s := by
  simp only [tuneHandoff]
  repeat' split
  all_goals simp

@[simp] theorem holdQuarter_portsOk (h : Held) : PortsOk (holdQuarter h s) ↔ PortsOk s := by simp [holdQuarter]

@[simp] theorem buildQuarter_portsOk (index : Nat) (c : Label) (plan : PlanName) :
    PortsOk (buildQuarter index c plan s) ↔ PortsOk s := by
  simp only [buildQuarter]
  repeat' split
  all_goals simp

@[simp] theorem decideQuarter_portsOk (index : Nat) : PortsOk (decideQuarter index s) ↔ PortsOk s := by
  simp only [decideQuarter]
  repeat' split
  all_goals simp

@[simp] theorem quarterBoundary_portsOk (l : Label) : PortsOk (quarterBoundary l s) ↔ PortsOk s := by
  simp only [quarterBoundary]
  repeat' split
  all_goals simp

@[simp] theorem quarterStep_portsOk (delta : Int) (l : Label) : PortsOk (quarterStep delta l s) ↔ PortsOk s := by
  simp only [quarterStep]
  repeat' split
  all_goals simp

@[simp] theorem strikeBoundary_portsOk (delta : Option Int) (l : Label) :
    PortsOk (strikeBoundary delta l s) ↔ PortsOk s := by
  simp only [strikeBoundary]
  repeat' split
  all_goals simp

@[simp] theorem startToll_portsOk (b : Fin 16) (interval : Nat) (count : Nat) (minutes : Nat) (o : TollOrigin) :
    PortsOk (startToll b interval count minutes o s).1 ↔ PortsOk s :=
  (startToll_frame s b interval count minutes o).portsOk

@[simp] theorem playTune_portsOk (n : Fin 96) (tune : Nat) : PortsOk (playTune n tune s).1 ↔ PortsOk s :=
  (playTune_frame s n tune).portsOk

@[simp] theorem strikeSupplyLost_portsOk : PortsOk (strikeSupplyLost s) ↔ PortsOk s := by simp [strikeSupplyLost]

@[simp] theorem heldQuarterExpiry_portsOk : PortsOk (heldQuarterExpiry s) ↔ PortsOk s := by
  simp only [heldQuarterExpiry]
  repeat' split
  all_goals simp

@[simp] theorem strikeEntryDue_portsOk : PortsOk (strikeEntryDue s) ↔ PortsOk s := by
  simp only [strikeEntryDue]
  repeat' split
  all_goals simp

@[simp] theorem hammerRecoveryEnd_portsOk (b : Fin 16) : PortsOk (hammerRecoveryEnd b s) ↔ PortsOk s := by
  simp only [hammerRecoveryEnd]
  repeat' split
  all_goals simp

@[simp] theorem hammerPulseEnd_portsOk (b : Fin 16) : PortsOk (hammerPulseEnd b s) ↔ PortsOk s := by
  simp only [hammerPulseEnd]
  repeat' split
  all_goals simp

@[simp] theorem tollEndTime_portsOk (n : Fin 4) : PortsOk (tollEndTime n s) ↔ PortsOk s := by
  simp only [tollEndTime]
  repeat' split
  all_goals simp

@[simp] theorem actPartConfig_portsOk (share : Nat) :
    PortsOk (actPartConfig share s).state ↔ PortsOk s := by simp [actPartConfig]

@[simp] theorem actTollStop_portsOk (bell : Nat) : PortsOk (actTollStop bell s).state ↔ PortsOk s := by
  simp only [actTollStop]
  repeat' split
  all_goals simp

@[simp] theorem changeTune_portsOk (t : Fin 24) (r : Tune) :
    PortsOk (changeTune t r s) ↔ PortsOk s := by simp [changeTune]

@[simp] theorem restartEdit_portsOk (t : Fin 24) : PortsOk (restartEdit t s) ↔ PortsOk s :=
  (restartEdit_frame s t).portsOk

@[simp] theorem abortEdit_portsOk (t : Fin 24) : PortsOk (abortEdit t s) ↔ PortsOk s := by
  simp only [abortEdit]
  repeat' split
  all_goals simp

@[simp] theorem abortEdits_portsOk : PortsOk (abortEdits s) ↔ PortsOk s := by simp [abortEdits]

@[simp] theorem tuneEditTimeout_portsOk (t : Fin 24) : PortsOk (tuneEditTimeout t s) ↔ PortsOk s := by
  simp only [tuneEditTimeout]
  repeat' split
  all_goals simp

@[simp] theorem actTuneOpen_portsOk (tune : Nat) (length : Nat) (revision : Nat) :
    PortsOk (actTuneOpen tune length revision s).state ↔ PortsOk s := by
  simp only [actTuneOpen]
  repeat' split
  all_goals simp

@[simp] theorem actTuneClose_portsOk (tune : Nat) : PortsOk (actTuneClose tune s).state ↔ PortsOk s := by
  simp only [actTuneClose]
  repeat' split
  all_goals simp

@[simp] theorem actTuneAbort_portsOk (tune : Nat) : PortsOk (actTuneAbort tune s).state ↔ PortsOk s := by
  simp only [actTuneAbort]
  repeat' split
  all_goals simp

@[simp] theorem actTuneDelete_portsOk (tune : Nat) (revision : Nat) :
    PortsOk (actTuneDelete tune revision s).state ↔ PortsOk s := by
  simp only [actTuneDelete]
  repeat' split
  all_goals simp

@[simp] theorem enterDial_portsOk (d : Fin 4) (st : DialState) : PortsOk (enterDial d st s) ↔ PortsOk s := by
  simp only [enterDial]
  repeat' split
  all_goals simp

@[simp] theorem fullDecision_portsOk (d : Fin 4) : PortsOk (fullDecision d s) ↔ PortsOk s := by
  simp only [fullDecision]
  repeat' split
  all_goals simp

@[simp] theorem continuingDecision_portsOk (d : Fin 4) : PortsOk (continuingDecision d s) ↔ PortsOk s := by
  simp only [continuingDecision]
  repeat' split
  all_goals simp

@[simp] theorem fullCause_portsOk (d : Fin 4) : PortsOk (fullCause d s) ↔ PortsOk s := by
  simp only [fullCause]
  repeat' split
  all_goals simp

@[simp] theorem continuingCause_portsOk (d : Fin 4) : PortsOk (continuingCause d s) ↔ PortsOk s := by
  simp only [continuingCause]
  repeat' split
  all_goals simp

@[simp] theorem dialsFull_portsOk : PortsOk (dialsFull s) ↔ PortsOk s := by simp [dialsFull]

@[simp] theorem dialsBoundary_portsOk (full : Bool) : PortsOk (dialsBoundary full s) ↔ PortsOk s := by
  simp only [dialsBoundary]
  repeat' split
  all_goals simp

@[simp] theorem dialMissed_portsOk (d : Fin 4) : PortsOk (dialMissed d s) ↔ PortsOk s := by
  simp only [dialMissed]
  repeat' split
  all_goals simp

@[simp] theorem endDecision_portsOk (d : Fin 4) : PortsOk (endDecision d s) ↔ PortsOk s := by
  simp only [endDecision]
  repeat' split
  all_goals simp

@[simp] theorem judgeImpulse_portsOk (d : Fin 4) (i : Impulse) : PortsOk (judgeImpulse d i s) ↔ PortsOk s := by
  simp only [judgeImpulse]
  repeat' split
  all_goals simp

@[simp] theorem dialImpulseEnd_portsOk (d : Fin 4) : PortsOk (dialImpulseEnd d s) ↔ PortsOk s := by
  simp only [dialImpulseEnd]
  repeat' split
  all_goals simp

@[simp] theorem dialSupplyLost_portsOk (d : Fin 4) : PortsOk (dialSupplyLost d s) ↔ PortsOk s := by
  simp only [dialSupplyLost]
  repeat' split
  all_goals simp

@[simp] theorem dialsSupplyLost_portsOk : PortsOk (dialsSupplyLost s) ↔ PortsOk s := by simp [dialsSupplyLost]

@[simp] theorem actDialSet_portsOk (dial : Nat) (position : Nat) (polarity : Nat) :
    PortsOk (actDialSet dial position polarity s).state ↔ PortsOk s := by
  simp only [actDialSet]
  repeat' split
  all_goals simp

@[simp] theorem actDialStop_portsOk (dial : Nat) : PortsOk (actDialStop dial s).state ↔ PortsOk s := by
  simp only [actDialStop]
  repeat' split
  all_goals simp

@[simp] theorem actDialStart_portsOk (dial : Nat) : PortsOk (actDialStart dial s).state ↔ PortsOk s := by
  simp only [actDialStart]
  repeat' split
  all_goals simp

@[simp] theorem writeDial_portsOk (d : Fin 4) (fitted : Bool) (confirm : Bool) (width : Nat) (fast : Nat) (hold : Nat) :
    PortsOk (writeDial d fitted confirm width fast hold s) ↔ PortsOk s := by
  simp only [writeDial]
  repeat' split
  all_goals simp

@[simp] theorem actDialConfig_portsOk (a : DialArgs) : PortsOk (actDialConfig a s).state ↔ PortsOk s := by
  simp only [actDialConfig]
  repeat' split
  all_goals simp

@[simp] theorem tryWatch_portsOk (c : Fin 8) : PortsOk (tryWatch c s) ↔ PortsOk s :=
  (tryWatch_frame s c).portsOk

@[simp] theorem channelNotice_portsOk (c : Fin 8) (left : ChannelState) (entered : ChannelState) (cause : LightCause) :
    PortsOk (channelNotice c left entered cause s) ↔ PortsOk s := by
  simp only [channelNotice]
  repeat' split
  all_goals simp

@[simp] theorem switchOn_portsOk (c : Fin 8) (cause : LightCause) : PortsOk (switchOn c cause s) ↔ PortsOk s := by
  simp only [switchOn]
  repeat' split
  all_goals simp

@[simp] theorem switchOff_portsOk (c : Fin 8) (off : OffCause) (cause : LightCause) :
    PortsOk (switchOff c off cause s) ↔ PortsOk s := by simp [switchOff]

@[simp] theorem recordDerived_portsOk (c : Fin 8) : PortsOk (recordDerived c s) ↔ PortsOk s :=
  (recordDerived_frame s c).portsOk

@[simp] theorem deriveLight_portsOk (c : Fin 8) : PortsOk (deriveLight c s) ↔ PortsOk s := by
  simp only [deriveLight]
  repeat' split
  all_goals simp

@[simp] theorem deriveLights_portsOk : PortsOk (deriveLights s) ↔ PortsOk s := by simp [deriveLights]

@[simp] theorem overrideTest_portsOk (c : Fin 8) : PortsOk (overrideTest c s) ↔ PortsOk s := by
  simp only [overrideTest]
  repeat' split
  all_goals simp

@[simp] theorem overrideTests_portsOk : PortsOk (overrideTests s) ↔ PortsOk s := by simp [overrideTests]

@[simp] theorem lightSupplyLost_portsOk (c : Fin 8) : PortsOk (lightSupplyLost c s) ↔ PortsOk s := by
  simp only [lightSupplyLost]
  repeat' split
  all_goals simp

@[simp] theorem lightsSupplyLost_portsOk : PortsOk (lightsSupplyLost s) ↔ PortsOk s := by simp [lightsSupplyLost]

@[simp] theorem resetNotice_portsOk (c : Fin 8) : PortsOk (resetNotice c s) ↔ PortsOk s := by
  simp only [resetNotice]
  repeat' split
  all_goals simp

@[simp] theorem lightsCompletion_portsOk : PortsOk (lightsCompletion s) ↔ PortsOk s := by simp [lightsCompletion]

@[simp] theorem overrideExpiry_portsOk (c : Fin 8) : PortsOk (overrideExpiry c s) ↔ PortsOk s := by
  simp only [overrideExpiry]
  repeat' split
  all_goals simp

@[simp] theorem warmupEnd_portsOk (c : Fin 8) : PortsOk (warmupEnd c s) ↔ PortsOk s := by
  simp only [warmupEnd]
  repeat' split
  all_goals simp

@[simp] theorem restrikeExpiry_portsOk (c : Fin 8) : PortsOk (restrikeExpiry c s) ↔ PortsOk s := by
  simp only [restrikeExpiry]
  repeat' split
  all_goals simp

@[simp] theorem lampFailed_portsOk (c : Fin 8) : PortsOk (lampFailed c s) ↔ PortsOk s := by
  simp only [lampFailed]
  repeat' split
  all_goals simp

@[simp] theorem writeLight_portsOk (c : Fin 8) (configured : Bool) (kind : LampKind) (follow : Bool) (sense : Bool) (a : LightArgs) :
    PortsOk (writeLight c configured kind follow sense a s) ↔ PortsOk s := by
  simp only [writeLight]
  repeat' split
  all_goals simp

@[simp] theorem actLightConfig_portsOk (a : LightArgs) : PortsOk (actLightConfig a s).state ↔ PortsOk s := by
  simp only [actLightConfig]
  repeat' split
  all_goals simp

@[simp] theorem setOverride_portsOk (c : Fin 8) (m : Override) (x : Option DayMinute) :
    PortsOk (setOverride c m x s).state ↔ PortsOk s := by simp [setOverride]

@[simp] theorem actLightOverride_portsOk (channel : Nat) (mode : Nat) (untilMinute : Nat) :
    PortsOk (actLightOverride channel mode untilMinute s).state ↔ PortsOk s := by
  simp only [actLightOverride]
  repeat' split
  all_goals simp

@[simp] theorem actLightFaultClear_portsOk (channel : Nat) :
    PortsOk (actLightFaultClear channel s).state ↔ PortsOk s := by
  simp only [actLightFaultClear]
  repeat' split
  all_goals simp

@[simp] theorem setCursor_portsOk (m : Option DayMinute) : PortsOk (setCursor m s) ↔ PortsOk s :=
  (setCursor_frame s m).portsOk

@[simp] theorem markFired_portsOk (n : Fin 96) (date : Nat) : PortsOk (markFired n date s) ↔ PortsOk s :=
  (markFired_frame s n date).portsOk

@[simp] theorem eventNotice_portsOk (n : Fin 96) (late : Bool) (session : Nat) (r : EventReason) :
    PortsOk (eventNotice n late session r s) ↔ PortsOk s := by
  simp only [eventNotice]
  repeat' split
  all_goals simp

@[simp] theorem sunTest_portsOk (today : Nat) (date : Nat) (late : Bool) (n : Fin 96) :
    PortsOk (sunTest today date late n s) ↔ PortsOk s := by
  simp only [sunTest]
  repeat' split
  all_goals simp

@[simp] theorem windowSunTest_portsOk (today : Nat) (date : Nat) (late : Bool) (n : Fin 96) :
    PortsOk (windowSunTest today date late n s) ↔ PortsOk s := by
  simp only [windowSunTest]
  repeat' split
  all_goals simp

@[simp] theorem handEvent_portsOk (n : Fin 96) : PortsOk (handEvent n s).1 ↔ PortsOk s := by
  simp only [handEvent]
  split
  · split
    all_goals next made => exact portsOk_of_pair s made (createSession_portsOk s ..)
  · split
    all_goals next made => exact portsOk_of_pair s made (startToll_portsOk s ..)
  all_goals simp

@[simp] theorem fireTest_portsOk (today : Nat) (m : DayMinute) (late : Bool) (n : Fin 96) :
    PortsOk (fireTest today m late n s) ↔ PortsOk s := by
  simp only [fireTest]
  repeat' split
  all_goals simp

@[simp] theorem takeMinute_portsOk (today : Nat) (m : DayMinute) (late : Bool) :
    PortsOk (takeMinute today m late s) ↔ PortsOk s := by
  simp only [takeMinute]
  repeat' split
  all_goals simp

@[simp] theorem missedEventTest_portsOk (today : Nat) (k : DayMinute) (n : Nat) (e : Fin 96) (date : Nat) :
    PortsOk (missedEventTest today k n e date s) ↔ PortsOk s := by
  simp only [missedEventTest]
  repeat' split
  all_goals simp

@[simp] theorem missedEvents_portsOk (today : Nat) (k : DayMinute) (n : Nat) :
    PortsOk (missedEvents today k n s) ↔ PortsOk s := by simp [missedEvents]

@[simp] theorem lateMinutes_portsOk (today : Nat) (k : DayMinute) (m n : Nat) :
    PortsOk (lateMinutes today k m n s) ↔ PortsOk s := by simp [lateMinutes]

@[simp] theorem forwardJump_portsOk (today : Nat) (k : DayMinute) (n held : Nat) (smallStep : Bool) :
    PortsOk (forwardJump today k n held smallStep s) ↔ PortsOk s := by
  simp only [forwardJump]
  repeat' split
  all_goals simp

@[simp] theorem compareCursor_portsOk (c : Label) (begins smallStep : Bool) (heldUntil : Option DayMinute) :
    PortsOk (compareCursor c begins smallStep heldUntil s) ↔ PortsOk s := by
  simp only [compareCursor]
  repeat' split
  all_goals simp

@[simp] theorem calendarCompare_portsOk (boundary : Bool) (smallStep : Bool) :
    PortsOk (calendarCompare boundary smallStep s) ↔ PortsOk s := by
  simp only [calendarCompare]
  repeat' split
  all_goals simp

@[simp] theorem recomputeWindows_portsOk (old : List (Fin 96)) : PortsOk (recomputeWindows old s) ↔ PortsOk s := by
  simp only [recomputeWindows]
  repeat' split
  all_goals simp

@[simp] theorem writeEvent_portsOk (n : Fin 96) (e : Event) :
    PortsOk (writeEvent n e s) ↔ PortsOk s := by simp [writeEvent]

@[simp] theorem actEventWrite_portsOk (a : EventArgs) : PortsOk (actEventWrite a s).state ↔ PortsOk s := by
  simp only [actEventWrite]
  repeat' split
  all_goals simp

@[simp] theorem actEventDelete_portsOk (event : Nat) (revision : Nat) :
    PortsOk (actEventDelete event revision s).state ↔ PortsOk s := by
  simp only [actEventDelete]
  repeat' split
  all_goals simp

@[simp] theorem setDisc_portsOk (d : Discipline) : PortsOk (setDisc d s) ↔ PortsOk s := by
  simp only [setDisc]
  repeat' split
  all_goals simp

@[simp] theorem missedMove_portsOk : PortsOk (missedMove s) ↔ PortsOk s := by
  simp only [missedMove]
  repeat' split
  all_goals simp

@[simp] theorem missedTest_portsOk : PortsOk (missedTest s) ↔ PortsOk s := by
  simp only [missedTest]
  repeat' split
  all_goals simp

@[simp] theorem holdoverRise_portsOk : PortsOk (holdoverRise s) ↔ PortsOk s := by
  simp only [holdoverRise]
  repeat' split
  all_goals simp

@[simp] theorem leaveUnset_portsOk (waited : Bool) : PortsOk (leaveUnset waited s) ↔ PortsOk s := by
  simp only [leaveUnset]
  repeat' split
  all_goals simp

@[simp] theorem beginSecond_portsOk (label : Option Label) :
    PortsOk (beginSecond label s) ↔ PortsOk s := by simp [beginSecond]

@[simp] theorem applyOffset_portsOk : PortsOk (applyOffset s) ↔ PortsOk s := by
  simp only [applyOffset]
  repeat' split
  all_goals simp

@[simp] theorem dateChange_portsOk (old : Option Label) (becameValid : Bool) :
    PortsOk (dateChange old becameValid s) ↔ PortsOk s :=
  (dateChange_frame s old becameValid).portsOk

@[simp] theorem lightsBoundary_portsOk (changed : Bool) : PortsOk (lightsBoundary changed s) ↔ PortsOk s := by
  simp only [lightsBoundary]
  repeat' split
  all_goals simp

@[simp] theorem blocksBoundary_portsOk (old : Option Label) (delta : Option Int) (applied : Bool) (becameValid : Bool) :
    PortsOk (blocksBoundary old delta applied becameValid s) ↔ PortsOk s := by
  simp only [blocksBoundary]
  repeat' split
  all_goals simp

@[simp] theorem newSecondTail_portsOk (old : Option Label) (delta : Option Int) :
    PortsOk (newSecondTail old delta s) ↔ PortsOk s := by
  simp only [newSecondTail]
  repeat' split
  all_goals simp

@[simp] theorem postStep_portsOk (delta : Option Int) : PortsOk (postStep delta s) ↔ PortsOk s := by
  simp only [postStep]
  repeat' split
  all_goals simp

@[simp] theorem finishSecond_portsOk (old : Option Label) (cmp : Option Label) :
    PortsOk (finishSecond old cmp s) ↔ PortsOk s := by simp [finishSecond]

@[simp] theorem boundary_portsOk : PortsOk (boundary s) ↔ PortsOk s := by simp [boundary]

@[simp] theorem relabelWindows_portsOk : PortsOk (relabelWindows s) ↔ PortsOk s := by simp [relabelWindows]

@[simp] theorem stepRelabel_portsOk (begun checked : Option Label) :
    PortsOk (stepRelabel begun checked s) ↔ PortsOk s := by
  simp only [stepRelabel]
  repeat' split
  all_goals simp

@[simp] theorem relabel_portsOk (delta : Int) (l : Label) : PortsOk (relabel delta l s) ↔ PortsOk s := by simp [relabel]

@[simp] theorem localSecondBoundary_portsOk : PortsOk (localSecondBoundary s) ↔ PortsOk s := by
  simp only [localSecondBoundary]
  repeat' split
  all_goals simp

@[simp] theorem missedLimit_portsOk : PortsOk (missedLimit s) ↔ PortsOk s := by
  simp only [missedLimit]
  repeat' split
  all_goals simp

@[simp] theorem holdoverLimit_portsOk : PortsOk (holdoverLimit s) ↔ PortsOk s := by
  simp only [holdoverLimit]
  repeat' split
  all_goals simp

@[simp] theorem offsetChangeApplied_portsOk : PortsOk (offsetChangeApplied s) ↔ PortsOk s := by
  simp only [offsetChangeApplied]
  repeat' split
  all_goals simp

@[simp] theorem acceptPulse_portsOk : PortsOk (acceptPulse s) ↔ PortsOk s :=
  (acceptPulse_frame s).portsOk

@[simp] theorem matchLabels_portsOk : PortsOk (matchLabels s) ↔ PortsOk s :=
  (matchLabels_frame s).portsOk

@[simp] theorem countMismatch_portsOk (delta : Int) :
    PortsOk (countMismatch delta s) ↔ PortsOk s := by simp [countMismatch]

@[simp] theorem labelCheck_portsOk (msg : Label) (implied : Label) :
    PortsOk (labelCheck msg implied s) ↔ PortsOk s := by
  simp only [labelCheck]
  repeat' split
  all_goals simp

@[simp] theorem stepCheck_portsOk (msg : Label) : PortsOk (stepCheck msg s) ↔ PortsOk s := by
  simp only [stepCheck]
  repeat' split
  all_goals simp

@[simp] theorem phaseStep_portsOk (e : Int) (msg : Option Label) : PortsOk (phaseStep e msg s) ↔ PortsOk s := by
  simp only [phaseStep]
  repeat' split
  all_goals simp

@[simp] theorem checkPulse_portsOk (e : Int) (msg : Option Label) : PortsOk (checkPulse e msg s) ↔ PortsOk s := by
  simp only [checkPulse]
  repeat' split
  all_goals simp

@[simp] theorem acquirePulse_portsOk (e : Int) (msg : Option Label) : PortsOk (acquirePulse e msg s) ↔ PortsOk s := by
  simp only [acquirePulse]
  repeat' split
  all_goals simp

@[simp] theorem lockedPulse_portsOk (e : Int) (msg : Option Label) : PortsOk (lockedPulse e msg s) ↔ PortsOk s := by
  simp only [lockedPulse]
  repeat' split
  all_goals simp

@[simp] theorem firstLabel_portsOk (l : Label) (e : Int) : PortsOk (firstLabel l e s) ↔ PortsOk s := by
  simp only [firstLabel]
  repeat' split
  all_goals simp

@[simp] theorem unsetPulse_portsOk (e : Int) (msg : Option Label) : PortsOk (unsetPulse e msg s) ↔ PortsOk s := by
  simp only [unsetPulse]
  repeat' split
  all_goals simp

@[simp] theorem takenPulse_portsOk (msg : Option Label) : PortsOk (takenPulse msg s) ↔ PortsOk s := by
  simp only [takenPulse]
  repeat' split
  all_goals simp

@[simp] theorem consumeMessage_portsOk (m : RefMessage) : PortsOk (consumeMessage m s) ↔ PortsOk s :=
  (consumeMessage_frame s m).portsOk

@[simp] theorem refPulse_portsOk : PortsOk (refPulse s) ↔ PortsOk s := by
  simp only [refPulse]
  repeat' split
  all_goals simp

@[simp] theorem changeMode_portsOk (m : RefMode) : PortsOk (changeMode m s) ↔ PortsOk s := by
  simp only [changeMode]
  repeat' split
  all_goals simp

@[simp] theorem actRefModeSet_portsOk (mode : Nat) : PortsOk (actRefModeSet mode s).state ↔ PortsOk s := by
  simp only [actRefModeSet]
  repeat' split
  all_goals simp

@[simp] theorem reportLow_portsOk : PortsOk (reportLow s) ↔ PortsOk s := by
  simp only [reportLow]
  repeat' split
  all_goals simp

@[simp] theorem blocksLost_portsOk : PortsOk (blocksLost s) ↔ PortsOk s := by simp [blocksLost]

@[simp] theorem mainsLost_portsOk : PortsOk (mainsLost s) ↔ PortsOk s := by
  simp only [mainsLost]
  repeat' split
  all_goals simp

@[simp] theorem blocksRestored_portsOk : PortsOk (blocksRestored s) ↔ PortsOk s := by simp [blocksRestored]

@[simp] theorem mainsRestored_portsOk : PortsOk (mainsRestored s) ↔ PortsOk s := by
  simp only [mainsRestored]
  repeat' split
  all_goals simp

@[simp] theorem batteryLowSettled_portsOk : PortsOk (batteryLowSettled s) ↔ PortsOk s := by
  simp only [batteryLowSettled]
  repeat' split
  all_goals simp

@[simp] theorem resetNChange_portsOk (high : Bool) : PortsOk (resetNChange high s) ↔ PortsOk s := by
  simp only [resetNChange]
  repeat' split
  all_goals simp

@[simp] theorem heldDeadlines_portsOk : PortsOk (heldDeadlines s) ↔ PortsOk s := by simp [heldDeadlines]

end Sys2Proof.Machine
end

section
/-! SUPPORT. Every command keeps the ports within bounds: the writers of a port one by one, the others by what they
post. -/

namespace Sys2Proof.Machine

set_option Elab.async false

variable {s : State} {p : Port}

theorem setPort_portsOk {r : LinkPort} (h : PortOk r) (ok : PortsOk s) : PortsOk (s.setPort p r) := by
  refine ⟨fun q => ?_, ok.2⟩
  by_cases same : q = p
  · subst same
    rwa [State.setPort_port_self]
  · rw [State.setPort_port_ne _ (Ne.symm same)]
    exact ok.1 q

@[simp] theorem linksOk_lost (ports : Vector LinkPort 3) (notices : List Notice) :
    LinksOk (mapV (fun p : LinkPort => { p with lost := true }) ports) notices ↔ LinksOk ports notices := by
  simp [LinksOk, PortOk]

theorem fitPayload_length (pl : List Byte) : (fitPayload pl).length ≤ 248 := by
  unfold fitPayload
  split
  · assumption
  · exact List.length_take_le _ _

@[simp] theorem frame_length (tag code : Byte) (pl : List Byte) : (frame tag code pl).length = pl.length + 6 := by
  simp [frame, be1, be2]

theorem respond_portsOk (tag : Byte) (st : Status) (pl : List Byte) (ok : PortsOk s) :
    PortsOk (respond p tag st pl s) := by
  obtain ⟨queue, owed, discard, holdoff, -, -, -, rx⟩ := ok.1 p
  have fits := fitPayload_length pl
  refine setPort_portsOk ⟨queue, owed, discard, holdoff, by simp, by simp, ?_, rx⟩ ok
  simp only [Option.some.injEq, forall_eq', frame_length]
  omega

theorem discarded_portOk {r : LinkPort} (ok : PortOk r) : PortOk r.discarded := by
  obtain ⟨queue, owed, -, holdoff, rest⟩ := ok
  exact ⟨queue, owed, Nat.min_le_left _ _, holdoff, rest⟩

theorem discardFrame_portsOk (ok : PortsOk s) : PortsOk (discardFrame p s) :=
  setPort_portsOk (discarded_portOk (ok.1 p)) ok

/-- A BUSY is owed only at a port that responds (R191). -/
theorem oweBusy_portsOk (tag : Byte) (busy : (s.port p).responding = true) (ok : PortsOk s) :
    PortsOk (oweBusy p tag s) := by
  obtain ⟨queue, owed, discard, holdoff, behind, rest⟩ := ok.1 p
  have sends : (s.port p).sending ≠ none := (responding_iff _).1 busy |>.elim id behind
  simp only [oweBusy]
  split
  next room =>
    refine setPort_portsOk ⟨queue, ?_, discard, holdoff, fun _ => sends, rest⟩ ok
    simpa using room
  · exact discardFrame_portsOk ok

/-- What keeps the ports within bounds as an owner does so as a request. -/
theorem request_portsOk {r : Req} {tag : Byte} {act : State → Reply}
    (acts : ∀ s, PortsOk s → PortsOk (act s).state) (ok : PortsOk s) : PortsOk (request r p tag act s) := by
  simp only [request, takeRequest]
  split
  · exact discardFrame_portsOk ok
  · split
    next busy => exact oweBusy_portsOk tag busy ok
    · apply respond_portsOk
      split
      · exact acts s ok
      · exact ok

/-! ### Bytes -/

theorem hunting_portOk {r : LinkPort} (ok : PortOk r) (short : List Byte) (at_most : short.length ≤ 1) (x : Instant) :
    PortOk { r with rx := short, lastByte := x } := by
  obtain ⟨queue, owed, discard, holdoff, behind, between, sent, -⟩ := ok
  exact ⟨queue, owed, discard, holdoff, behind, between, sent, fun long => absurd long (by simp; omega)⟩

theorem frameGapTimeout_portsOk (p : Port) (ok : PortsOk s) : PortsOk (frameGapTimeout p s) := by
  unfold frameGapTimeout
  split
  · exact setPort_portsOk (hunting_portOk (discarded_portOk (ok.1 p)) [] (by simp) _) ok
  · exact ok

theorem setRx_portsOk {rx : List Byte}
    (fits : 2 ≤ rx.length → 2 ≤ rd1 rx 1 ∧ rd1 rx 1 ≤ 250 ∧ rx.length < rd1 rx 1 + 4) (ok : PortsOk s) :
    PortsOk (s.setRx p rx) := by
  obtain ⟨queue, owed, discard, holdoff, behind, between, sent, -⟩ := ok.1 p
  exact setPort_portsOk ⟨queue, owed, discard, holdoff, behind, between, sent, fits⟩ ok

theorem hunt_portsOk (rx : List Byte) (short : rx.length ≤ 1) (ok : PortsOk s) : PortsOk (s.setRx p rx) :=
  setRx_portsOk (fun long => absurd long (by omega)) ok

theorem rd1_append {bs cs : List Byte} {i : Nat} (within : i < bs.length) : rd1 (bs ++ cs) i = rd1 bs i := by
  simp [rd1, List.getElem?_append_left within]

/-! ### The writers of a port -/

theorem actNoticeFetch_portsOk (ok : PortsOk s) : PortsOk (actNoticeFetch p s).state := by
  obtain ⟨queue, rest⟩ := ok.1 p
  exact setPort_portsOk ⟨by simp [LinkPort.fetched]; omega, rest⟩ ok

theorem actNoticeRouteSet_portsOk {routing enable holdoff : Nat} (ok : PortsOk s) :
    PortsOk (actNoticeRouteSet p routing enable holdoff s).state := by
  obtain ⟨queue, owed, discard, -, rest⟩ := ok.1 p
  unfold actNoticeRouteSet
  split
  · exact ok
  · exact setPort_portsOk ⟨queue, owed, discard, by simp [clamp], rest⟩ ok

theorem actPortReset_portsOk (ok : PortsOk s) : PortsOk (actPortReset p s).state := by
  obtain ⟨-, owed, -, -, rest⟩ := ok.1 p
  have reset : PortsOk (s.setPort p (LinkPort.reset (portIndex p) (s.port p))) :=
    setPort_portsOk ⟨Nat.zero_le _, owed, Nat.zero_le _, by simp [LinkPort.reset, coldPort], rest⟩ ok
  simp only [actPortReset, accept_state]
  split
  · exact (abortEdits_portsOk _).2 reset
  · exact reset

theorem responseSent_portsOk (p : Port) (ok : PortsOk s) : PortsOk (responseSent p s) := by
  obtain ⟨queue, owed, discard, holdoff, -, -, -, rx⟩ := ok.1 p
  simp only [responseSent]
  split
  · exact ok
  next none_owed =>
    exact setPort_portsOk ⟨queue, owed, discard, holdoff, by simp [none_owed], by simp, by simp, rx⟩ ok
  next more =>
    rw [more, List.length_cons] at owed
    exact setPort_portsOk ⟨queue, Nat.le_of_succ_le owed, discard, holdoff, by simp, by simp, by simp, rx⟩ ok

theorem holdoffOver_portsOk (p : Port) (ok : PortsOk s) : PortsOk (holdoffOver p s) := by
  simp only [holdoffOver]
  split
  · exact setPort_portsOk (ok.1 p) ok
  · exact ok

theorem warmResetEntry_portsOk (ok : PortsOk s) : PortsOk (warmResetEntry s) := by
  unfold warmResetEntry
  split
  · exact ok
  · refine (abortEdits_portsOk _).2 ⟨fun p => ?_, by simp⟩
    simp [State.port, PortOk, coldPort]

theorem warmResetCompletion_portsOk (ok : PortsOk s) : PortsOk (warmResetCompletion s) := by
  unfold warmResetCompletion
  split
  · exact ok
  · split
    · have emptied : PortsOk { s with warm := {} } := ⟨ok.1, by simp⟩
      simpa [completeWarmReset, linksOk_lost] using emptied
    · exact ok

/-! ### Commands -/

/-- Every request keeps the ports within bounds. -/
theorem after_request_portsOk {i : Instr} {x : Req × Port × Byte} (spelled : i.request = some x) (ok : PortsOk s) :
    PortsOk (after i s) := by
  cases i with
  | partStatus => exact request_portsOk (fun s => (actPartStatus_frame s _).portsOk.2) ok
  | noticeFetch => exact request_portsOk (fun _ => actNoticeFetch_portsOk) ok
  | noticeRouteSet => exact request_portsOk (fun _ => actNoticeRouteSet_portsOk) ok
  | portReset => exact request_portsOk (fun _ => actPortReset_portsOk) ok
  | partConfig => exact request_portsOk (fun s => (actPartConfig_portsOk s ..).2) ok
  | timeRead => exact request_portsOk (fun s => (Frame.refl [] s).portsOk.2) ok
  | timeSet => exact request_portsOk (fun s => (actTimeSet_frame s _ _).portsOk.2) ok
  | refModeSet => exact request_portsOk (fun s => (actRefModeSet_portsOk s ..).2) ok
  | timeFaultsClear => exact request_portsOk (fun s => (actTimeFaultsClear_frame s).portsOk.2) ok
  | offsetSet => exact request_portsOk (fun s => (actOffsetSet_frame s _ _ _).portsOk.2) ok
  | civilConfig => exact request_portsOk (fun s => (actCivilConfig_frame s _).portsOk.2) ok
  | dayclassRead => exact request_portsOk (fun s => (actDayclassRead_frame s _).portsOk.2) ok
  | dayclassWrite => exact request_portsOk (fun s => (actDayclassWrite_frame s _ _ _).portsOk.2) ok
  | sunRead => exact request_portsOk (fun s => (actSunRead_frame s _ _).portsOk.2) ok
  | sunWrite => exact request_portsOk (fun s => (actSunWrite_frame s _ _ _).portsOk.2) ok
  | dialRead => exact request_portsOk (fun s => (actDialRead_frame s _).portsOk.2) ok
  | dialSet => exact request_portsOk (fun s => (actDialSet_portsOk s ..).2) ok
  | dialStop => exact request_portsOk (fun s => (actDialStop_portsOk s ..).2) ok
  | dialStart => exact request_portsOk (fun s => (actDialStart_portsOk s ..).2) ok
  | dialConfig => exact request_portsOk (fun s => (actDialConfig_portsOk s ..).2) ok
  | bellRead => exact request_portsOk (fun s => (actBellRead_frame s _).portsOk.2) ok
  | bellConfig => exact request_portsOk (fun s => (actBellConfig_portsOk s ..).2) ok
  | claim => exact request_portsOk (fun s => (actClaim_portsOk s ..).2) ok
  | release => exact request_portsOk (fun s => (actRelease_portsOk s ..).2) ok
  | bellFaultClear => exact request_portsOk (fun s => (actBellFaultClear_portsOk s ..).2) ok
  | ringRead => exact request_portsOk (fun s => (actRingRead_frame s _).portsOk.2) ok
  | ringStart => exact request_portsOk (fun s => (actRingStart_portsOk s ..).2) ok
  | ringCancel => exact request_portsOk (fun s => (actRingCancel_portsOk s ..).2) ok
  | tuneRead => exact request_portsOk (fun s => (actTuneRead_frame s _ _ _).portsOk.2) ok
  | tuneOpen => exact request_portsOk (fun s => (actTuneOpen_portsOk s ..).2) ok
  | tuneWrite => exact request_portsOk (fun s => (actTuneWrite_frame s _ _ _).portsOk.2) ok
  | tuneClose => exact request_portsOk (fun s => (actTuneClose_portsOk s ..).2) ok
  | tuneAbort => exact request_portsOk (fun s => (actTuneAbort_portsOk s ..).2) ok
  | tuneDelete => exact request_portsOk (fun s => (actTuneDelete_portsOk s ..).2) ok
  | planRead => exact request_portsOk (fun s => (actPlanRead_frame s _).portsOk.2) ok
  | planWrite => exact request_portsOk (fun s => (actPlanWrite_frame s _).portsOk.2) ok
  | strikeStatus => exact request_portsOk (fun s => (actStrikeStatus_frame s _).portsOk.2) ok
  | strike => exact request_portsOk (fun s => (actStrike_frame s _ _ _).portsOk.2) ok
  | tollStart => exact request_portsOk (fun s => (actTollStart_frame s _ _ _ _ _).portsOk.2) ok
  | tollStop => exact request_portsOk (fun s => (actTollStop_portsOk s ..).2) ok
  | silenceSet => exact request_portsOk (fun s => (actSilenceSet_frame s _).portsOk.2) ok
  | eventRead => exact request_portsOk (fun s => (actEventRead_frame s _).portsOk.2) ok
  | eventWrite => exact request_portsOk (fun s => (actEventWrite_portsOk s ..).2) ok
  | eventDelete => exact request_portsOk (fun s => (actEventDelete_portsOk s ..).2) ok
  | lightRead => exact request_portsOk (fun s => (actLightRead_frame s _).portsOk.2) ok
  | lightConfig => exact request_portsOk (fun s => (actLightConfig_portsOk s ..).2) ok
  | lightOverride => exact request_portsOk (fun s => (actLightOverride_portsOk s ..).2) ok
  | lightFaultClear => exact request_portsOk (fun s => (actLightFaultClear_portsOk s ..).2) ok
  | _ => cases spelled

theorem handleFrame_portsOk {tag code : Byte} {payload : List Byte} (ok : PortsOk s) :
    PortsOk (handleFrame p tag code payload s) :=
  handleFrame_keeps (discardFrame_portsOk ok) (fun busy => oweBusy_portsOk tag busy ok)
    (fun st _ => respond_portsOk tag st [] ok) (fun _ _ spelled => after_request_portsOk spelled ok)

theorem completeFrame_portsOk (bs : List Byte) (ok : PortsOk s) : PortsOk (completeFrame p bs s) := by
  simp only [completeFrame]
  split
  · exact handleFrame_portsOk ok
  · exact discardFrame_portsOk ok

theorem portByte_portsOk (b : Byte) (ok : PortsOk s) : PortsOk (portByte p b s) := by
  have gapped := frameGapTimeout_portsOk p ok
  obtain ⟨-, -, -, -, -, -, -, fits⟩ := gapped.1 p
  simp only [portByte]
  split
  · split
    · exact hunt_portsOk [b] (by simp) gapped
    · exact gapped
  next receiving =>
    split
    next one =>
      split
      · exact discardFrame_portsOk (hunt_portsOk [] (by simp) gapped)
      next good =>
        refine setRx_portsOk (fun _ => ?_) gapped
        have len : rd1 (((frameGapTimeout p s).port p).rx ++ [b]) 1 = b.toNat := by
          simp [rd1, one]
        simp only [badLength, decide_eq_true_eq] at good
        simp only [len, List.length_append, one, List.length_singleton]
        omega
    next several =>
      have long : 2 ≤ ((frameGapTimeout p s).port p).rx.length := by
        have := List.length_pos_iff.2 receiving
        omega
      split
      next room =>
        refine setRx_portsOk (fun _ => ?_) gapped
        rw [rd1_append (by omega), List.length_append, List.length_singleton]
        exact ⟨(fits long).1, (fits long).2.1, room⟩
      · exact completeFrame_portsOk _ (hunt_portsOk [] (by simp) gapped)

theorem frameComplete_portsOk (p : Port) (bytes : List Byte) (ok : PortsOk s) : PortsOk (frameComplete p bytes s) := by
  unfold frameComplete
  induction bytes generalizing s with
  | nil => exact ok
  | cons b bs ih => exact ih (portByte_portsOk b ok)

theorem frameLengthRejected_portsOk (p : Port) (n : Byte) (ok : PortsOk s) :
    PortsOk (frameLengthRejected p n s) := by
  simp only [frameLengthRejected]
  split
  · exact discardFrame_portsOk (hunt_portsOk [] (by simp) (frameGapTimeout_portsOk p ok))
  · exact frameGapTimeout_portsOk p ok

/-- Every command keeps the ports within bounds. -/
theorem after_portsOk (c : Instr) (ok : PortsOk s) : PortsOk (after c s) := by
  cases c with
  | coldStart => exact coldState_portsOk ..
  | localSecondBoundary => exact (localSecondBoundary_portsOk s ..).2 ok
  | missedLimit => exact (missedLimit_portsOk s ..).2 ok
  | holdoverLimit => exact (holdoverLimit_portsOk s ..).2 ok
  | offsetChangeApplied => exact (offsetChangeApplied_portsOk s ..).2 ok
  | refPulse => exact (refPulse_portsOk s ..).2 ok
  | refMessageReceived => exact (refMessageReceived_frame s _).portsOk.2 ok
  | refMessageGapTimeout => exact (refMessageGapTimeout_frame s).portsOk.2 ok
  | refMessageExpired => exact (refMessageExpired_frame s).portsOk.2 ok
  | heldQuarterExpiry => exact (heldQuarterExpiry_portsOk s ..).2 ok
  | dialImpulseStart => exact (dialImpulseStart_frame s _).portsOk.2 ok
  | dialImpulseEnd => exact (dialImpulseEnd_portsOk s ..).2 ok
  | dialConfChange => exact (dialConfChange_frame s _ _).portsOk.2 ok
  | guardContactChange => exact (guardContactChange_frame s _ _ _).portsOk.2 ok
  | guardContactSettled => exact (guardContactSettled_portsOk s ..).2 ok
  | guardTravelTimeout => exact (guardTravelTimeout_portsOk s ..).2 ok
  | sensorPulse => exact (sensorPulse_portsOk s ..).2 ok
  | driftSettled => exact (driftSettled_portsOk s ..).2 ok
  | stopSettled => exact (stopSettled_portsOk s ..).2 ok
  | startTimeout => exact (startTimeout_portsOk s ..).2 ok
  | swingLost => exact (swingLost_portsOk s ..).2 ok
  | sessionStartSlot => exact (sessionStartSlot_frame s _).portsOk.2 ok
  | sessionEndTime => exact (sessionEndTime_portsOk s ..).2 ok
  | sessionStopSlot => exact (sessionStopSlot_frame s _).portsOk.2 ok
  | strikeEntryDue => exact (strikeEntryDue_portsOk s ..).2 ok
  | hammerRecoveryEnd => exact (hammerRecoveryEnd_portsOk s ..).2 ok
  | hammerPulseEnd => exact (hammerPulseEnd_portsOk s ..).2 ok
  | tollEndTime => exact (tollEndTime_portsOk s ..).2 ok
  | tuneEditTimeout => exact (tuneEditTimeout_portsOk s ..).2 ok
  | overrideExpiry => exact (overrideExpiry_portsOk s ..).2 ok
  | warmupEnd => exact (warmupEnd_portsOk s ..).2 ok
  | restrikeExpiry => exact (restrikeExpiry_portsOk s ..).2 ok
  | senseWatchStart => exact (senseWatchStart_frame s _).portsOk.2 ok
  | lampSenseChange => exact (lampSenseChange_frame s _ _).portsOk.2 ok
  | lampFailed => exact (lampFailed_portsOk s ..).2 ok
  | mainsOkChange => exact (mainsOkChange_frame s _).portsOk.2 ok
  | mainsLost => exact (mainsLost_portsOk s ..).2 ok
  | mainsRestored => exact (mainsRestored_portsOk s ..).2 ok
  | battLowChange => exact (battLowChange_frame s _).portsOk.2 ok
  | batteryLowSettled => exact (batteryLowSettled_portsOk s ..).2 ok
  | resetNChange => exact (resetNChange_portsOk s ..).2 ok
  | warmResetEntry => exact warmResetEntry_portsOk ok
  | warmResetCompletion => exact warmResetCompletion_portsOk ok
  | frameComplete => exact frameComplete_portsOk _ _ ok
  | frameGapTimeout => exact frameGapTimeout_portsOk _ ok
  | responseSent => exact responseSent_portsOk _ ok
  | holdoffEnd => exact holdoffOver_portsOk _ ok
  | frameLengthRejected => exact frameLengthRejected_portsOk _ _ ok
  | _ => exact after_request_portsOk rfl ok

/-- Settles O16: what posts notices finds room or loses them, and the writers of a port keep its record. -/
theorem portsStayWithinBounds : Obligations.PortsStayWithinBounds := by
  intro s t ok ran
  refine step_keeps (P := PortsOk) (fun _ _ ok => ok) (fun s _ ok => ⟨fun p => ?_, ok.2⟩)
    (fun c _ ok => after_portsOk c ok) ok ran
  obtain ⟨queue, owed, discard, holdoff, behind, -, rest⟩ := ok.1 p
  simpa [State.port, LinkPort.proceeds, PortOk] using
    (⟨queue, owed, discard, holdoff, behind, rest⟩ : _ ∧ _ ∧ _ ∧ _ ∧ _ ∧ _)

end Sys2Proof.Machine
end

section
/-! SUPPORT. What a boundary, a relabel and a pulse keep: the Time Base moves only its own parts and run time forward,
and the rest is done by the operations of the blocks, named once. -/

namespace Sys2Proof.Machine

set_option Elab.async false

/-- The parts the Time Base, the civil unit and the notices write for themselves. -/
abbrev ownParts : List Part := [.tb, .ref, .civil, .days, .cal, .notices, .ports]

/-- Only those parts moved, and run time did not fall. -/
structure TimePasses (s t : State) : Prop where
  frame : Frame ownParts s t
  now : s.now ≤ t.now

namespace TimePasses

theorem trans {s t u : State} (h : TimePasses s t) (k : TimePasses t u) : TimePasses s u :=
  ⟨h.frame.trans k.frame, Nat.le_trans h.now k.now⟩

theorem of_frame {ps : List Part} {s t : State} (h : Frame ps s t) (own : ps ⊆ ownParts := by decide)
    (tb : Part.tb ∉ ps := by decide) : TimePasses s t := ⟨h.mono own, Nat.le_of_eq (h.now tb).symm⟩

theorem of_samePace {ps : List Part} {s t : State} (h : Frame ps s t) (same : s.tb.SamePace t.tb)
    (own : ps ⊆ ownParts := by decide) : TimePasses s t := ⟨h.mono own, Nat.le_of_eq (now_of_clock same.1).1.symm⟩

theorem setTb (s : State) {t : TimeBase} (up : t.uptime = s.tb.uptime := by rfl) : TimePasses s (s.setTb t) :=
  ⟨(State.setTb_frame s t).mono (by decide), Nat.le_of_eq up.symm⟩

theorem setRef (s : State) (r : RefRx) : TimePasses s (s.setRef r) := of_frame (State.setRef_frame s r)
theorem setDisc (s : State) (d : Discipline) : TimePasses s (setDisc d s) := of_samePace (setDisc_frame s d) (setDisc_samePace d s)
theorem acceptPulse (s : State) : TimePasses s (acceptPulse s) := setTb s
theorem matchLabels (s : State) : TimePasses s (matchLabels s) := (setTb s).trans (setRef _ _)

theorem missedMove (s : State) : TimePasses s (missedMove s) := of_samePace (missedMove_frame s) (missedMove_samePace s)

theorem countMismatch (s : State) (delta : Int) : TimePasses s (countMismatch delta s) :=
  (setTb s).trans (of_frame (post_frame _ _ _ _))

theorem beginSecond (s : State) (l : Option Label) : TimePasses s (beginSecond l s) := by
  refine ⟨(beginSecond_frame s l).mono (by decide), ?_⟩
  simp only [State.now, (newSecond_rises (beginSecond_samePace l s)).1]
  exact Nat.le_succ _

theorem stepCheck (s : State) (msg : Label) : TimePasses s (stepCheck msg s) := by
  refine of_samePace (stepCheck_frame s msg) ?_
  obtain ⟨l, n, tb⟩ := stepCheck_tb msg s
  rw [tb]
  exact ⟨rfl, rfl⟩

theorem firstLabel (s : State) (l : Label) (e : Int) : TimePasses s (firstLabel l e s) :=
  (((setTb s).trans (setDisc _ .acquire)).trans (setTb _)).trans (matchLabels _)

end TimePasses

/-- A property is kept by the passing of time and by what the Time Base hands to the blocks. -/
structure BlocksKeep (P : State → Prop) : Prop where
  own : ∀ {s t}, TimePasses s t → P s → P t
  full : ∀ d {s}, P s → P (fullCause d s)
  continuing : ∀ d {s}, P s → P (continuingCause d s)
  quarter : ∀ l {s}, P s → P (quarterBoundary l s)
  step : ∀ delta l {s}, P s → P (quarterStep delta l s)
  hand : ∀ n {s}, P s → P (handEvent n s).1
  derive : ∀ c {s}, P s → P (deriveLight c s)
  expire : ∀ c {s}, P s → P (overrideTest c s)

theorem foldl_keeps {α : Type} {P : State → Prop} {f : State → α → State} (h : ∀ s x, P s → P (f s x)) (xs : List α)
    {s : State} (ok : P s) : P (xs.foldl f s) := by
  induction xs generalizing s with
  | nil => exact ok
  | cons x xs ih => exact ih (h s x ok)

namespace BlocksKeep

variable {P : State → Prop} {s : State} (k : BlocksKeep P)
include k

theorem frame {ps : List Part} {t : State} (h : Frame ps s t) (ok : P s) (own : ps ⊆ ownParts := by decide)
    (tb : Part.tb ∉ ps := by decide) : P t := k.own (.of_frame h own tb) ok

/-! ### The blocks -/

theorem dialsFull (ok : P s) : P (dialsFull s) := foldl_keeps (fun _ d => k.full d) _ ok

theorem dialsBoundary (full : Bool) (ok : P s) : P (dialsBoundary full s) := by
  unfold Machine.dialsBoundary
  split
  · exact k.dialsFull ok
  · split
    · split
      · exact foldl_keeps (fun _ d => k.continuing d) _ ok
      · exact ok
    · exact ok

theorem deriveLights (ok : P s) : P (deriveLights s) := foldl_keeps (fun _ c => k.derive c) _ ok
theorem overrideTests (ok : P s) : P (overrideTests s) := foldl_keeps (fun _ c => k.expire c) _ ok

theorem recomputeWindows (old : List (Fin 96)) (ok : P s) : P (recomputeWindows old s) := by
  have set := k.frame (withCal_frame s { s.cal with active := activeNow s }) ok
  unfold Machine.recomputeWindows
  dsimp only
  split
  · exact set
  · exact k.deriveLights set

theorem strikeBoundary (delta : Option Int) (l : Label) (ok : P s) : P (strikeBoundary delta l s) := by
  unfold Machine.strikeBoundary
  split
  · exact k.quarter l ok
  · split
    · exact k.step _ l (k.quarter l ok)
    · exact k.quarter l (k.step _ l ok)

/-! ### The calendar -/

theorem fireTest (today : Nat) (m : DayMinute) (late : Bool) (n : Fin 96) (ok : P s) :
    P (fireTest today m late n s) := by
  unfold Machine.fireTest
  split
  · exact k.frame (eventNotice_frame _ _ _ _ _) (k.hand n (k.frame (markFired_frame _ _ _) ok))
  · exact ok

theorem takeMinute (today : Nat) (m : DayMinute) (late : Bool) (ok : P s) : P (takeMinute today m late s) := by
  have tested := foldl_keeps (P := P) (fun s n => k.frame (sunTest_frame s today m.day late n)) allEvents ok
  unfold Machine.takeMinute
  refine foldl_keeps (fun _ n => k.fireTest today m late n) _ ?_
  dsimp only
  split
  · exact tested
  · exact k.frame (withCal_frame _ _) (foldl_keeps (fun s n => k.frame (windowSunTest_frame s today m.day late n)) _ tested)

theorem compareCursor (c : Label) (begins smallStep : Bool) (held : Option DayMinute) (ok : P s) :
    P (compareCursor c begins smallStep held s) := by
  have missed (j : DayMinute) (n : Nat) : P (missedEvents c.day j n s) := k.frame (missedEvents_frame s _ _ _) ok
  have jumped (j : DayMinute) (n m : Nat) : P (forwardJump c.day j n m smallStep s) := by
    unfold forwardJump lateMinutes
    split
    · refine foldl_keeps (P := P) (fun _ _ ok => ?_) _ (missed j m)
      exact k.takeMinute _ _ _ ok
    · exact missed _ _
  unfold Machine.compareCursor
  refine k.frame (setCursor_frame _ _) ?_
  dsimp only
  split
  · split
    · exact k.takeMinute _ _ _ ok
    · exact ok
  · split
    · exact ok
    · split
      · exact k.takeMinute _ _ _ ok
      · split
        · exact k.takeMinute _ _ _ (jumped _ _ _)
        · exact jumped _ _ _

theorem calendarCompare (boundary smallStep : Bool) (ok : P s) : P (calendarCompare boundary smallStep s) := by
  unfold Machine.calendarCompare
  split
  · exact ok
  · exact k.compareCursor _ _ _ _ (k.frame (withCal_frame _ _) ok)

/-! ### A boundary -/

theorem lightsBoundary (changed : Bool) (ok : P s) : P (lightsBoundary changed s) := by
  unfold Machine.lightsBoundary
  cases changed
  · exact k.deriveLights ok
  · exact k.deriveLights (k.overrideTests (k.recomputeWindows _ ok))

theorem blocksBoundary (old : Option Label) (delta : Option Int) (applied valid : Bool) (ok : P s) :
    P (blocksBoundary old delta applied valid s) := by
  unfold Machine.blocksBoundary
  refine k.lightsBoundary _ (k.calendarCompare _ _ ?_)
  split
  · exact k.strikeBoundary _ _ (k.dialsBoundary _ ok)
  · exact k.dialsBoundary _ ok

theorem newSecondTail (old : Option Label) (delta : Option Int) (ok : P s) : P (newSecondTail old delta s) := by
  have applied : P (if changeDue s then applyOffset s else s) := by
    split
    · exact k.frame (applyOffset_frame s) ok
    · exact ok
  unfold Machine.newSecondTail
  dsimp only
  generalize (if changeDue s then applyOffset s else s) = u at *
  have dated (valid : Bool) : P (dateChange old valid u) := k.frame (dateChange_frame u old valid) applied
  split
  · exact k.own (.setTb _) (dated _)
  · exact k.blocksBoundary _ _ _ _ (k.own (.setTb _) (dated _))

theorem finishSecond (old cmp : Option Label) (ok : P s) : P (finishSecond old cmp s) :=
  k.newSecondTail _ _ (k.frame (postStep_frame s _) ok)

theorem boundary (ok : P s) : P (boundary s) := k.finishSecond _ _ (k.own (.beginSecond s _) ok)

theorem localSecondBoundary (ok : P s) : P (localSecondBoundary s) := by
  unfold Machine.localSecondBoundary
  split
  · exact ok
  · exact k.boundary ok

theorem offsetChangeApplied (ok : P s) : P (offsetChangeApplied s) := by
  unfold Machine.offsetChangeApplied
  split
  · exact k.boundary ok
  · exact ok

theorem missedLimit (ok : P s) : P (missedLimit s) := by
  unfold Machine.missedLimit
  split
  · exact ok
  · exact k.own (.missedMove s) ok

theorem holdoverLimit (ok : P s) : P (holdoverLimit s) := by
  unfold Machine.holdoverLimit
  split
  · exact k.own (.setDisc s .free) ok
  · exact ok

/-! ### A relabel and a pulse -/

theorem relabelWindows (ok : P s) : P (relabelWindows s) := k.overrideTests (k.recomputeWindows _ ok)

theorem relabel (delta : Int) (l : Label) (ok : P s) : P (relabel delta l s) :=
  k.relabelWindows (k.calendarCompare _ _ (k.step _ _ (k.dialsFull (k.frame (dateChange_frame _ _ _)
    (k.frame (postStep_frame _ _) (k.own (.setTb s) ok))))))

theorem labelCheck (msg implied : Label) (ok : P s) : P (labelCheck msg implied s) := by
  unfold Machine.labelCheck
  dsimp only
  split
  · exact k.own (.matchLabels s) ok
  · have counted := k.own (.countMismatch s (msg.diff implied)) ok
    split
    · split
      · exact k.relabel _ _ (k.own (.matchLabels _) counted)
      · exact counted
    · exact k.own (.setRef _ _) counted

theorem checkPulse (e : Int) (msg : Option Label) (ok : P s) : P (checkPulse e msg s) := by
  unfold Machine.checkPulse
  split
  · exact k.labelCheck _ _ ok
  · exact ok

theorem phaseStep (e : Int) (msg : Option Label) (ok : P s) : P (phaseStep e msg s) := by
  have begun (l : Option Label) : P (beginSecond l (s.setTb { s.tb with slew := 0, good := 0 })) :=
    k.own (.beginSecond _ l) (k.own (.setTb s) ok)
  have relabelled (a b : Option Label) (u : State) (ok : P u) : P (stepRelabel a b u) := by
    unfold stepRelabel
    split
    · exact ok
    · exact k.relabelWindows ok
  cases msg with
  | none => exact relabelled _ _ _ (k.finishSecond _ _ (begun _))
  | some m => exact relabelled _ _ _ (k.finishSecond _ _ (k.own (.stepCheck _ m) (begun _)))

theorem acquirePulse (e : Int) (msg : Option Label) (ok : P s) : P (acquirePulse e msg s) := by
  have locks (good : Nat) {u : State} (ok : P u) :
      P (if 3 ≤ good then setDisc .locked (u.setTb { u.tb with outlier := 0 }) else u) := by
    split
    · exact k.own ((TimePasses.setTb u).trans (.setDisc _ _)) ok
    · exact ok
  simp only [Machine.acquirePulse]
  split
  · exact k.phaseStep e msg (k.own (.acceptPulse s) ok)
  · exact k.checkPulse e msg (locks _ (k.own (.setTb s (by simp [learn_eq, Machine.acceptPulse])) ok))

theorem lockedPulse (e : Int) (msg : Option Label) (ok : P s) : P (lockedPulse e msg s) := by
  simp only [Machine.lockedPulse]
  split
  · split
    · exact k.own ((TimePasses.setTb s).trans (.setDisc _ _)) ok
    · exact k.own (.setTb s) ok
  · exact k.checkPulse e msg (k.own (.setTb s (by simp [learn_eq, Machine.acceptPulse])) ok)

theorem unsetPulse (e : Int) (msg : Option Label) (ok : P s) : P (unsetPulse e msg s) := by
  have accepted : P (Machine.acceptPulse s) := k.own (.acceptPulse s) ok
  simp only [Machine.unsetPulse]
  split
  · split
    · exact k.own (.setTb _) accepted
    · exact k.phaseStep e none accepted
  · split
    · exact k.own ((TimePasses.setTb _).trans (.firstLabel _ _ e)) accepted
    · exact k.finishSecond _ _ (k.own (((TimePasses.setTb _).trans (.beginSecond _ none)).trans (.firstLabel _ _ e)) accepted)

theorem takenPulse (msg : Option Label) (ok : P s) : P (takenPulse msg s) := by
  have joins (e : Int) {t : TimeBase} (up : t.uptime = s.tb.uptime := by rfl) :
      P (Machine.acquirePulse e msg (setDisc .acquire (s.setTb t))) :=
    k.acquirePulse e msg (k.own ((TimePasses.setTb s up).trans (.setDisc _ _)) ok)
  unfold Machine.takenPulse
  dsimp only
  split
  · exact k.unsetPulse _ msg ok
  · exact joins _
  · exact joins _
  · exact k.acquirePulse _ msg ok
  · exact k.lockedPulse _ msg ok

theorem refPulse (ok : P s) : P (refPulse s) := by
  rcases refPulse_cases s with ignored | alone | ⟨m, -, paired⟩
  · rwa [ignored]
  · rw [alone]
    exact k.takenPulse none ok
  · rw [paired]
    refine k.takenPulse _ ?_
    rcases consumeMessage_cases m s with kept | used
    · rwa [kept]
    · rw [used]
      exact k.own (.setRef _ _) ok

end BlocksKeep

/-- A property is kept, besides, by the completion of a warm reset. -/
structure ResetKeep (P : State → Prop) : Prop extends BlocksKeep P where
  hold : ∀ {s t}, Frame [.hold, .notices, .ports] s t → P s → P t
  bell : ∀ b {s}, P s → P (bellCompletion b s)
  swing : ∀ b {s}, P s → P (swingCompletion b s)
  report : ∀ c {s}, P s → P (resetNotice c s)
  restrike : ∀ c {s}, P s → P (restrikeExpiry c s)

/-- A property is kept, besides, by the loss and the return of mains. -/
structure SupplyKeep (P : State → Prop) : Prop extends ResetKeep P where
  supply : ∀ r {s}, P s → P { s with supply := r }
  lostDial : ∀ d {s}, P s → P (dialSupplyLost d s)
  halt : ∀ b {s}, P s → P (guardHalt b s)
  lostSwings : ∀ {s}, P s → P (swingsSupplyLost s)
  lostStrike : ∀ {s}, P s → P (strikeSupplyLost s)
  lostLight : ∀ c {s}, P s → P (lightSupplyLost c s)
  resume : ∀ b {s}, P s → P (guardResume b s)

theorem ResetKeep.completeWarmReset {P : State → Prop} (k : ResetKeep P) {s : State} (entry : Instant) (ok : P s) :
    P (completeWarmReset entry s) := by
  have freed := k.frame (post_frame _ .warmResetDone 0 (BitVec.ofNat 16 (sat 65535 (s.now - entry))))
    (k.hold ((withWarm_frame s {}).mono (by decide)) ok)
  have noticed := foldl_keeps (P := P) (fun s n => k.frame (postNotice_frame s n)) s.warm.notices freed
  have lost (u : State) (ok : P u) : P (if s.warm.lost then
      { u with ports := mapV (fun p : LinkPort => { p with lost := true }) u.ports } else u) := by
    split
    · exact k.frame (withPorts_frame u _) ok
    · exact ok
  exact foldl_keeps (fun _ c => k.restrike c) _ (k.overrideTests (k.deriveLights (foldl_keeps (fun _ c => k.report c) _
    (k.dialsFull (k.frame (withCal_frame _ _) (foldl_keeps (fun _ b => k.swing b) _
      (foldl_keeps (fun _ b => k.bell b) _ (lost _ noticed))))))))

theorem ResetKeep.warmResetCompletion {P : State → Prop} (k : ResetKeep P) {s : State} (ok : P s) :
    P (warmResetCompletion s) := by
  unfold Machine.warmResetCompletion
  split
  · exact ok
  · split
    · exact k.completeWarmReset _ ok
    · exact ok

namespace SupplyKeep

variable {P : State → Prop} {s : State} (k : SupplyKeep P)
include k

theorem blocksLost (ok : P s) : P (blocksLost s) :=
  foldl_keeps (fun _ c => k.lostLight c) _ (k.lostStrike (k.lostSwings (foldl_keeps (fun _ b => k.halt b) _
    (foldl_keeps (fun _ d => k.lostDial d) _ ok))))

theorem reportLow (ok : P s) : P (reportLow s) := by
  unfold Machine.reportLow
  split
  · exact k.frame (post_frame _ _ _ _) (k.supply _ ok)
  · exact ok

theorem mainsLost (ok : P s) : P (mainsLost s) := by
  unfold Machine.mainsLost
  split
  · exact ok
  · have told := k.reportLow (k.frame (post_frame _ .mainsLost 0 (supplySeconds s))
      (k.supply { s.supply with state := .battery, debounce := none, since := s.now, reported := false } ok))
    dsimp only
    split
    · exact told
    · exact k.blocksLost told

theorem mainsRestored (ok : P s) : P (mainsRestored s) := by
  unfold Machine.mainsRestored
  split
  · exact ok
  · have told := k.frame (post_frame _ .mainsRestored 0 (supplySeconds s))
      (k.supply { s.supply with state := .mains, debounce := none, since := s.now } ok)
    dsimp only
    split
    · exact told
    · exact k.deriveLights (foldl_keeps (fun _ b => k.resume b) _ (k.dialsFull told))

theorem batteryLowSettled (ok : P s) : P (batteryLowSettled s) := by
  unfold Machine.batteryLowSettled
  split
  · exact ok
  · exact k.reportLow (k.supply _ ok)

end SupplyKeep

end Sys2Proof.Machine
end

section
/-! SUPPORT. Every command keeps the records of the dials in their ranges (R44): the writers of a dial one by one. -/

namespace Sys2Proof.Machine

set_option Elab.async false

/-- A dial record within its ranges (R44). -/
def Dial.Ok (r : Dial) : Prop :=
  r.position < 1440 ∧ r.misses ≤ 3 ∧ 200 ≤ r.width ∧ r.width ≤ 2000 ∧ 1 ≤ r.fast ∧ r.fast ≤ 10 ∧
    r.width + 200 ≤ r.fast * 1000 ∧ r.holdLimit ≤ 720 ∧ r.revision ≤ 254

theorem dialsOk_iff (s : State) : DialsOk s ↔ ∀ d, (s.dial d).Ok := Iff.rfl

theorem Frame.dialsOk {ps : List Part} {s t : State} (h : Frame ps s t) (ok : DialsOk s)
    (dials : Part.dials ∉ ps := by decide) : DialsOk t := by
  intro d
  simp only [State.dial, h.dials dials]
  exact ok d

theorem Dial.Ok.repositioned {r : Dial} (ok : r.Ok) {position misses : Nat} (at_most : position < 1440) (few : misses ≤ 3)
    (t : Polarity) (flight : Option Impulse) (last : Option Instant) (owed : Owed) (st : DialState) :
    Dial.Ok { r with
      position := position, misses := misses, polarity := t, flight := flight, lastStart := last, owed := owed, state := st } :=
  ⟨at_most, few, ok.2.2⟩

theorem Dial.Ok.delivered {r : Dial} (ok : r.Ok) (i : Impulse) : (r.delivered i).Ok :=
  ⟨Nat.mod_lt _ (by decide), Nat.zero_le _, ok.2.2⟩

theorem Dial.Ok.missed {r : Dial} (ok : r.Ok) : Dial.Ok { r with misses := min 3 (r.misses + 1) } :=
  ⟨ok.1, Nat.min_le_left _ _, ok.2.2⟩

variable {s : State}

theorem setDial_dialsOk {d : Fin 4} {r : Dial} (h : r.Ok) (ok : DialsOk s) : DialsOk (s.setDial d r) := by
  intro e
  by_cases same : e = d
  · subst same
    rwa [State.setDial_dial_self]
  · rw [State.setDial_dial_ne _ (Ne.symm same)]
    exact ok e

/-! ### Decisions and impulses -/

theorem enterDial_dialsOk (d : Fin 4) (st : DialState) (ok : DialsOk s) : DialsOk (enterDial d st s) := by
  unfold enterDial
  dsimp only
  split
  · exact ok
  · exact (post_frame _ _ _ _).dialsOk (setDial_dialsOk (ok d) ok)

theorem fullDecision_dialsOk (d : Fin 4) (ok : DialsOk s) : DialsOk (fullDecision d s) := by
  unfold fullDecision
  split <;> exact enterDial_dialsOk d _ ok

theorem continuingDecision_dialsOk (d : Fin 4) (ok : DialsOk s) : DialsOk (continuingDecision d s) := by
  unfold continuingDecision
  split
  · exact ok
  · exact enterDial_dialsOk d _ ok

theorem fullCause_dialsOk (d : Fin 4) (ok : DialsOk s) : DialsOk (fullCause d s) := by
  unfold fullCause
  dsimp only
  split
  · exact ok
  · split
    · exact setDial_dialsOk (ok d) ok
    · exact fullDecision_dialsOk d ok

theorem continuingCause_dialsOk (d : Fin 4) (ok : DialsOk s) : DialsOk (continuingCause d s) := by
  unfold continuingCause
  dsimp only
  split
  · exact ok
  · split
    · exact setDial_dialsOk (ok d) ok
    · exact continuingDecision_dialsOk d ok

theorem dialImpulseStart_dialsOk (d : Fin 4) (ok : DialsOk s) : DialsOk (dialImpulseStart d s) := by
  unfold dialImpulseStart
  dsimp only
  split
  · exact ok
  · exact setDial_dialsOk (ok d) ok

theorem dialMissed_dialsOk (d : Fin 4) (ok : DialsOk s) : DialsOk (dialMissed d s) := by
  have counted := (post_frame (s.setDial d { s.dial d with misses := min 3 ((s.dial d).misses + 1) }) .dialMiss (d.1 + 1)
    (dialMissDetail (min 3 ((s.dial d).misses + 1)) (s.dial d).position)).dialsOk
    (setDial_dialsOk (Dial.Ok.missed (ok d)) ok)
  unfold dialMissed
  dsimp only
  split
  · exact enterDial_dialsOk d _ counted
  · exact counted

theorem endDecision_dialsOk (d : Fin 4) (ok : DialsOk s) : DialsOk (endDecision d s) := by
  have settled : DialsOk (s.setDial d { s.dial d with owed := .none }) := setDial_dialsOk (ok d) ok
  unfold endDecision
  dsimp only
  split
  · exact settled
  · split
    · exact fullDecision_dialsOk d settled
    · exact continuingDecision_dialsOk d settled

theorem judgeImpulse_dialsOk (d : Fin 4) (i : Impulse) (ok : DialsOk s) : DialsOk (judgeImpulse d i s) := by
  unfold judgeImpulse
  dsimp only
  split
  · exact setDial_dialsOk (ok d) ok
  · split
    · exact setDial_dialsOk (Dial.Ok.delivered (r := { s.dial d with flight := none }) (ok d) i) ok
    · exact dialMissed_dialsOk d (setDial_dialsOk (ok d) ok)

theorem dialImpulseEnd_dialsOk (d : Fin 4) (ok : DialsOk s) : DialsOk (dialImpulseEnd d s) := by
  unfold dialImpulseEnd
  split
  · exact ok
  · split
    · exact ok
    · exact endDecision_dialsOk d (judgeImpulse_dialsOk d _ ok)

theorem dialConfChange_dialsOk (d : Fin 4) (closed : Bool) (ok : DialsOk s) : DialsOk (dialConfChange d closed s) := by
  unfold dialConfChange
  dsimp only
  split
  · exact ok
  · split
    · exact setDial_dialsOk (ok d) ok
    · exact ok

theorem dialSupplyLost_dialsOk (d : Fin 4) (ok : DialsOk s) : DialsOk (dialSupplyLost d s) := by
  have judged (c : Bool) (i : Impulse) : DialsOk (s.setDial d
      (if c then Dial.delivered { s.dial d with flight := none } i else { s.dial d with flight := none })) := by
    cases c
    · exact setDial_dialsOk (ok d) ok
    · exact setDial_dialsOk (Dial.Ok.delivered (r := { s.dial d with flight := none }) (ok d) i) ok
  unfold dialSupplyLost
  dsimp only
  split
  · exact ok
  · split
    · exact judged _ _
    · exact endDecision_dialsOk d (judged _ _)

/-! ### Requests -/

theorem actDialSet_dialsOk (dial position polarity : Nat) (ok : DialsOk s) :
    DialsOk (actDialSet dial position polarity s).state := by
  unfold actDialSet
  split
  next d pol _ _ =>
    dsimp only
    split
    · exact ok
    next fits =>
      split
      · exact ok
      · have placed (f : Option Impulse) (o : Owed) (st : DialState) : DialsOk (s.setDial d { s.dial d with
            position := position, polarity := pol, misses := 0, flight := f, owed := o, state := st }) :=
          setDial_dialsOk (Dial.Ok.repositioned (ok d) (by omega) (by decide) _ _ _ _ _) ok
        simp only [accept_state]
        split
        · exact placed _ _ _
        · split
          · exact placed _ _ _
          · exact fullDecision_dialsOk d (placed _ _ _)
  · exact ok

theorem actDialStop_dialsOk (dial : Nat) (ok : DialsOk s) : DialsOk (actDialStop dial s).state := by
  unfold actDialStop
  split
  · exact ok
  next d _ =>
    dsimp only
    split
    · exact ok
    · split
      · exact ok
      · simp only [accept_state]
        split
        · exact ok
        · exact enterDial_dialsOk d _ (setDial_dialsOk (ok d) ok)

theorem actDialStart_dialsOk (dial : Nat) (ok : DialsOk s) : DialsOk (actDialStart dial s).state := by
  unfold actDialStart
  split
  · exact ok
  next d _ =>
    have cleared (o : Owed) : DialsOk (s.setDial d { s.dial d with misses := 0, owed := o }) :=
      setDial_dialsOk (Dial.Ok.repositioned (ok d) (ok d).1 (by decide) _ _ _ _ _) ok
    dsimp only
    split
    · exact ok
    · split
      · exact ok
      · simp only [accept_state]
        split
        · split
          · exact enterDial_dialsOk d _ (cleared _)
          · exact cleared _
        · exact fullDecision_dialsOk d (cleared _)

theorem nextRevision_le (r : Nat) : nextRevision r ≤ 254 := by
  unfold nextRevision
  split <;> omega

/-- The stored configuration of a dial is in range, its fast interval long enough for its width (R61). -/
theorem configured_dialOk (r : Dial) (ok : r.Ok) (fitted confirm : Bool) (width fast hold misses : Nat) (few : misses ≤ 3)
    (flight : Option Impulse) (owed : Owed) : Dial.Ok { r with
      fitted := fitted, confirm := confirm, width := clamp 200 2000 width
      fast := fastFor (clamp 200 2000 width) fast, holdLimit := clamp 0 720 hold
      revision := nextRevision r.revision, misses := misses, flight := flight, owed := owed } := by
  refine ⟨ok.1, few, ?_, ?_, ?_, ?_, ?_, ?_, nextRevision_le _⟩
  all_goals simp only [clamp, fastFor]; omega

theorem actDialConfig_dialsOk (a : DialArgs) (ok : DialsOk s) : DialsOk (actDialConfig a s).state := by
  unfold actDialConfig
  split
  next d f c _ _ _ =>
    dsimp only
    split
    · exact ok
    · have few : (if (s.dial d).confirm = c then (s.dial d).misses else 0) ≤ 3 := by
        split
        · exact (ok d).2.1
        · exact Nat.zero_le 3
      simp only [accept_state, writeDial]
      split
      · exact setDial_dialsOk (configured_dialOk _ (ok d) f c _ _ _ _ few _ _) ok
      · exact enterDial_dialsOk d _ (setDial_dialsOk (configured_dialOk _ (ok d) f c _ _ _ _ few _ _) ok)
  · exact ok

/-! ### Commands -/

theorem dialsOk_supplyKeep : SupplyKeep DialsOk where
  own h ok := h.frame.dialsOk ok
  full d _ ok := fullCause_dialsOk d ok
  continuing d _ ok := continuingCause_dialsOk d ok
  quarter l s ok := (quarterBoundary_frame s l).dialsOk ok
  step delta l s ok := (quarterStep_frame s delta l).dialsOk ok
  hand n s ok := (handEvent_frame s n).dialsOk ok
  derive c s ok := (deriveLight_frame s c).dialsOk ok
  expire c s ok := (overrideTest_frame s c).dialsOk ok
  hold h ok := h.dialsOk ok
  supply r s ok := (withSupply_frame s r).dialsOk ok
  lostDial d _ ok := dialSupplyLost_dialsOk d ok
  halt b s ok := (guardHalt_frame s b).dialsOk ok
  lostSwings {s} ok := (swingsSupplyLost_frame s).dialsOk ok
  lostStrike {s} ok := (strikeSupplyLost_frame s).dialsOk ok
  lostLight c s ok := (lightSupplyLost_frame s c).dialsOk ok
  resume b s ok := (guardResume_frame s b).dialsOk ok
  bell b s ok := (bellCompletion_frame s b).dialsOk ok
  swing b s ok := (swingCompletion_frame s b).dialsOk ok
  report c s ok := (resetNotice_frame s c).dialsOk ok
  restrike c s ok := (restrikeExpiry_frame s c).dialsOk ok

theorem warmResetEntry_dialsOk (ok : DialsOk s) : DialsOk (warmResetEntry s) := by
  unfold warmResetEntry
  split
  · exact ok
  · refine (abortEdits_frame _).dialsOk fun d => ?_
    simpa [State.dial, Dial.warmReset] using ok d

/-- Every request keeps the dials in their ranges. -/
theorem after_request_dialsOk {i : Instr} {x : Req × Port × Byte} (spelled : i.request = some x) (ok : DialsOk s) :
    DialsOk (after i s) := by
  by_cases writer : Part.dials ∈ writes i
  · cases i with
    | dialSet p tag dial position polarity =>
      exact request_keeps (fun _ _ => id) (actDialSet_dialsOk dial position polarity) ok
    | dialStop p tag dial => exact request_keeps (fun _ _ => id) (actDialStop_dialsOk dial) ok
    | dialStart p tag dial => exact request_keeps (fun _ _ => id) (actDialStart_dialsOk dial) ok
    | dialConfig p tag args => exact request_keeps (fun _ _ => id) (actDialConfig_dialsOk args) ok
    | _ => first | (simp [writes] at writer; done) | cases spelled
  · exact (after_frame i s).dialsOk ok writer

/-- Every command keeps the dials in their ranges. -/
theorem after_dialsOk (c : Instr) (ok : DialsOk s) : DialsOk (after c s) := by
  by_cases writer : Part.dials ∈ writes c
  · cases c with
    | coldStart => exact coldState_dialsOk _ _
    | localSecondBoundary => exact dialsOk_supplyKeep.localSecondBoundary ok
    | offsetChangeApplied => exact dialsOk_supplyKeep.offsetChangeApplied ok
    | refPulse => exact dialsOk_supplyKeep.refPulse ok
    | dialImpulseStart d => exact dialImpulseStart_dialsOk d ok
    | dialImpulseEnd d => exact dialImpulseEnd_dialsOk d ok
    | dialConfChange d closed => exact dialConfChange_dialsOk d closed ok
    | mainsLost => exact dialsOk_supplyKeep.mainsLost ok
    | mainsRestored => exact dialsOk_supplyKeep.mainsRestored ok
    | warmResetEntry => exact warmResetEntry_dialsOk ok
    | warmResetCompletion => exact dialsOk_supplyKeep.warmResetCompletion ok
    | frameComplete p bytes =>
      exact frameComplete_keeps (fun _ _ => id) (fun _ _ _ _ spelled ok => after_request_dialsOk spelled ok) bytes s ok
    | _ => first | (simp [writes] at writer; done) | exact after_request_dialsOk rfl ok
  · exact (after_frame c s).dialsOk ok writer

theorem step_dialsOk {t : State} (ok : DialsOk s) (ran : step s = .next t) : DialsOk t :=
  step_keeps (fun _ _ => id) (fun _ _ => id) (fun c _ => after_dialsOk c) ok ran

end Sys2Proof.Machine
end

section
/-! SUPPORT. Every command keeps the tunes within the pool of 1,024 places (R110): the writers of a tune one by one. -/

namespace Sys2Proof.Machine

set_option Elab.async false

variable {s : State}

theorem poolOk_of_tunes {t : State} (h : t.tunes = s.tunes) (ok : PoolOk s) : PoolOk t := by
  have same (k : Fin 24) : t.tune k = s.tune k := by rw [State.tune, State.tune, h]
  simpa only [PoolOk, same] using ok

theorem Frame.poolOk {ps : List Part} {s t : State} (h : Frame ps s t) (ok : PoolOk s)
    (tunes : Part.tunes ∉ ps := by decide) : PoolOk t := poolOk_of_tunes (h.tunes tunes) ok

/-- A tune written in the places that are free or were its own keeps the pool within its bound. -/
theorem setTune_poolOk {t : Fin 24} {r : Tune} (room : r.length ≤ s.freeCount + (s.tune t).length) (ok : PoolOk s) :
    PoolOk (s.setTune t r) := by
  have sum := placesTaken_add_length (s := s) (t := s.setTune t r) (k := t)
    (fun j ne => State.setTune_tune_ne s ne.symm r)
  rw [State.setTune_tune_self] at sum
  rw [poolOk_iff] at ok ⊢
  rw [State.freeCount_eq] at room
  omega

theorem changeTune_poolOk {t : Fin 24} {r : Tune} (room : r.length ≤ s.freeCount + (s.tune t).length) (ok : PoolOk s) :
    PoolOk (changeTune t r s) := (tuneHandoff_frame _ t).poolOk (setTune_poolOk room ok)

theorem restartEdit_poolOk (t : Fin 24) (ok : PoolOk s) : PoolOk (restartEdit t s) := by
  unfold restartEdit
  split
  next slots _ editing =>
    refine setTune_poolOk ?_ ok
    rw [Tune.length_editing editing]
    exact Nat.le_add_left _ _
  · exact ok

theorem abortEdit_poolOk (t : Fin 24) (ok : PoolOk s) : PoolOk (abortEdit t s) := by
  unfold abortEdit
  split
  · exact changeTune_poolOk (Nat.zero_le _) ok
  · exact ok

theorem abortEdits_poolOk (ok : PoolOk s) : PoolOk (abortEdits s) := by
  unfold abortEdits
  exact foldl_keeps (P := PoolOk) (fun _ t => abortEdit_poolOk t) _ ok

theorem tuneEditTimeout_poolOk (t : Fin 24) (ok : PoolOk s) : PoolOk (tuneEditTimeout t s) := by
  unfold tuneEditTimeout
  split
  · split
    · exact ok
    · exact abortEdit_poolOk t ok
  · exact ok

/-! ### Requests -/

theorem actTuneOpen_poolOk (tune length revision : Nat) (ok : PoolOk s) :
    PoolOk (actTuneOpen tune length revision s).state := by
  unfold actTuneOpen
  split
  · exact ok
  next t _ =>
    dsimp only
    split
    · exact restartEdit_poolOk t ok
    · split
      · exact restartEdit_poolOk t ok
      · split
        · exact restartEdit_poolOk t ok
        · split
          · exact ok
          next room =>
            refine changeTune_poolOk ?_ ok
            simpa [Tune.length] using Nat.not_lt.1 room

theorem storedNotes_length {slot : Nat} {notes : List RawNote} {ns : List (Option Note)}
    (stored : storedNotes slot notes = some ns) : ns.length = notes.length := by
  induction notes generalizing slot ns with
  | nil =>
    cases stored
    rfl
  | cons n rest ih =>
    unfold storedNotes at stored
    split at stored
    next b ns' _ tail =>
      cases stored
      simp [ih tail]
    · cases stored

theorem writeSlots_length {first : Nat} {ns slots : List (Option Note)} (fits : first - 1 + ns.length ≤ slots.length) :
    (writeSlots first ns slots).length = slots.length := by
  simp only [writeSlots, List.length_append, List.length_take, List.length_drop]
  omega

theorem actTuneWrite_poolOk (tune first : Nat) (notes : List RawNote) (ok : PoolOk s) :
    PoolOk (actTuneWrite tune first notes s).state := by
  unfold actTuneWrite
  split
  · exact ok
  next t _ =>
    split
    next slots _ editing =>
      split
      · exact restartEdit_poolOk t ok
      next ns stored =>
        split
        · exact restartEdit_poolOk t ok
        next inside =>
          refine setTune_poolOk ?_ ok
          have fits : first - 1 + ns.length ≤ slots.length := by
            rw [storedNotes_length stored]
            omega
          rw [Tune.length_editing editing]
          simp [Tune.length, writeSlots_length fits]
    · exact ok

theorem actTuneClose_poolOk (tune : Nat) (ok : PoolOk s) : PoolOk (actTuneClose tune s).state := by
  unfold actTuneClose
  split
  · exact ok
  next t _ =>
    dsimp only
    split
    next slots _ editing =>
      split
      · exact restartEdit_poolOk t ok
      · refine changeTune_poolOk ?_ ok
        rw [Tune.length_editing editing]
        exact Nat.le_add_left_of_le (List.length_filterMap_le _ _)
    · exact ok

theorem actTuneAbort_poolOk (tune : Nat) (ok : PoolOk s) : PoolOk (actTuneAbort tune s).state := by
  unfold actTuneAbort
  split
  · exact ok
  next t _ =>
    split
    · exact abortEdit_poolOk t ok
    · exact ok

theorem actTuneDelete_poolOk (tune revision : Nat) (ok : PoolOk s) : PoolOk (actTuneDelete tune revision s).state := by
  unfold actTuneDelete
  split
  · exact ok
  next t _ =>
    dsimp only
    split
    · exact restartEdit_poolOk t ok
    · split
      · exact restartEdit_poolOk t ok
      · split
        · exact ok
        · exact changeTune_poolOk (Nat.zero_le _) ok

theorem actPortReset_poolOk (p : Port) (ok : PoolOk s) : PoolOk (actPortReset p s).state := by
  simp only [actPortReset, accept_state]
  split
  · exact abortEdits_poolOk (poolOk_of_tunes rfl ok)
  · exact poolOk_of_tunes rfl ok

/-! ### Commands -/

/-- Every request keeps the tunes within the pool. -/
theorem after_request_poolOk {i : Instr} {x : Req × Port × Byte} (spelled : i.request = some x) (ok : PoolOk s) :
    PoolOk (after i s) := by
  by_cases writer : Part.tunes ∈ writes i
  · cases i with
    | portReset p tag => exact request_keeps (P := PoolOk) (fun _ _ => poolOk_of_tunes rfl) (actPortReset_poolOk p) ok
    | tuneOpen p tag tune length revision => exact request_keeps (P := PoolOk) (fun _ _ => poolOk_of_tunes rfl) (actTuneOpen_poolOk tune length revision) ok
    | tuneWrite p tag tune first notes => exact request_keeps (P := PoolOk) (fun _ _ => poolOk_of_tunes rfl) (actTuneWrite_poolOk tune first notes) ok
    | tuneClose p tag tune => exact request_keeps (P := PoolOk) (fun _ _ => poolOk_of_tunes rfl) (actTuneClose_poolOk tune) ok
    | tuneAbort p tag tune => exact request_keeps (P := PoolOk) (fun _ _ => poolOk_of_tunes rfl) (actTuneAbort_poolOk tune) ok
    | tuneDelete p tag tune revision => exact request_keeps (P := PoolOk) (fun _ _ => poolOk_of_tunes rfl) (actTuneDelete_poolOk tune revision) ok
    | _ => first | (simp [writes] at writer; done) | cases spelled
  · exact (after_frame i s).poolOk ok writer

/-- Every command keeps the tunes within the pool. -/
theorem after_poolOk (c : Instr) (ok : PoolOk s) : PoolOk (after c s) := by
  by_cases writer : Part.tunes ∈ writes c
  · cases c with
    | coldStart => exact coldState_poolOk _ _
    | tuneEditTimeout t => exact tuneEditTimeout_poolOk t ok
    | warmResetEntry =>
      show PoolOk (warmResetEntry s)
      unfold warmResetEntry
      split
      · exact ok
      · exact abortEdits_poolOk (poolOk_of_tunes rfl ok)
    | frameComplete p bytes =>
      exact frameComplete_keeps (P := PoolOk) (fun _ _ => poolOk_of_tunes rfl) (fun _ _ _ _ spelled ok => after_request_poolOk spelled ok) bytes s ok
    | _ => first | (simp [writes] at writer; done) | exact after_request_poolOk (s := s) rfl ok
  · exact (after_frame c s).poolOk ok writer

theorem step_poolOk {t : State} (ok : PoolOk s) (ran : step s = .next t) : PoolOk t :=
  step_keeps (P := PoolOk) (fun _ _ => poolOk_of_tunes rfl) (fun _ _ => poolOk_of_tunes rfl) (fun c _ => after_poolOk c) ok ran

end Sys2Proof.Machine
end

section
/-! SUPPORT. Every command keeps the strike queue in its order and its bounds (R132): the operations on the queue first,
then the taking up of entries, the quarters, the tolls and the requests. -/

namespace Sys2Proof.Machine

set_option Elab.async false

variable {s : State}

/-! ### The operations on the queue -/

theorem queueOk_of_queue {t : State} (queue : t.strike.queue = s.strike.queue) (next : t.strike.nextSeq = s.strike.nextSeq)
    (ok : QueueOk s) : QueueOk t := by
  simpa only [QueueOk, queue, next] using ok

theorem Frame.queueOk {ps : List Part} {s t : State} (h : Frame ps s t) (ok : QueueOk s)
    (queue : Part.queue ∉ ps := by decide) : QueueOk t := queueOk_of_queue (h.queue queue) (h.nextSeq queue) ok

/-- A queue within its bounds that has room for one entry more. -/
def RoomyQueue (s : State) : Prop := QueueOk s ∧ s.strike.queue.length < 64

theorem Frame.roomyQueue {ps : List Part} {s t : State} (h : Frame ps s t) (ok : RoomyQueue s)
    (queue : Part.queue ∉ ps := by decide) : RoomyQueue t := ⟨h.queueOk ok.1 queue, by rw [h.queue queue]; exact ok.2⟩

theorem enqueue_queueOk (due : Instant) (b : Fin 16) (o : Origin) (number : Nat) (ok : RoomyQueue s) :
    QueueOk (enqueue due b o number s) := by
  obtain ⟨⟨-, ordered, distinct, issued⟩, room⟩ := ok
  have fresh : s.strike.nextSeq ∉ s.strike.queue.map (·.seq) := by
    rintro used
    obtain ⟨e, mem, seq⟩ := List.mem_map.1 used
    exact absurd seq (Nat.ne_of_lt (issued e mem))
  refine ⟨?_, insertEntry_ordered _ ordered, ?_, fun e mem => ?_⟩
  · rw [enqueue_queue, length_insertEntry]
    exact room
  · rw [enqueue_queue, ((insertEntry_perm _ _).map _).nodup_iff, List.map_cons, List.nodup_cons]
    exact ⟨fresh, distinct⟩
  · rw [enqueue_queue, mem_insertEntry] at mem
    rcases mem with rfl | old
    · exact Nat.lt_succ_self _
    · exact Nat.lt_succ_of_lt (issued e old)

/-- Entries that leave the queue leave the others as they stood. -/
theorem filterQueue_queueOk (keep : Entry → Bool) (ok : QueueOk s) : QueueOk (s.setQueue (s.strike.queue.filter keep)) := by
  obtain ⟨short, ordered, distinct, issued⟩ := ok
  exact ⟨Nat.le_trans (List.length_filter_le _ _) short, ordered.filter _,
    distinct.sublist (List.filter_sublist.map _), fun e mem => issued e (List.mem_of_mem_filter mem)⟩

/-- An entry of the queue that is removed leaves room. -/
theorem removeEntry_roomy {e : Entry} (mem : e ∈ s.strike.queue) (ok : QueueOk s) : RoomyQueue (removeEntry e.seq s) := by
  refine ⟨filterQueue_queueOk _ ok, Nat.lt_of_lt_of_le ?_ ok.1⟩
  exact List.length_filter_lt_length_iff_exists.2 ⟨e, mem, by simp⟩

/-- An entry put in the place of one with its insertion sequence and its due time keeps the queue in order. -/
theorem replaceEntry_queueOk {e r : Entry} (mem : e ∈ s.strike.queue) (seq : r.seq = e.seq) (due : r.due = e.due)
    (ok : QueueOk s) : QueueOk (replaceEntry r s) := by
  obtain ⟨short, ordered, distinct, issued⟩ := ok
  have dues : ∀ x ∈ s.strike.queue, (if x.seq = r.seq then r else x).due = x.due := by
    intro x inside
    split
    next same =>
      rw [List.inj_on_of_nodup_map distinct inside mem (same.trans seq)]
      exact due
    · rfl
  refine ⟨?_, ?_, ?_, fun x inside => ?_⟩
  · rw [length_replaceEntry]
    exact short
  · have ordered' := List.pairwise_map.2 ordered
    rw [← List.map_congr_left dues] at ordered'
    simpa only [replaceEntry, State.setQueue, List.pairwise_map] using ordered'
  · rw [replaceEntry_seqs]
    exact distinct
  · have seqs := List.mem_map_of_mem (f := Entry.seq) inside
    rw [replaceEntry_seqs] at seqs
    obtain ⟨y, old, same⟩ := List.mem_map.1 seqs
    exact same ▸ issued y old

theorem mem_replaceEntry {e r : Entry} (mem : e ∈ s.strike.queue) (seq : r.seq = e.seq) :
    r ∈ (replaceEntry r s).strike.queue := List.mem_map.2 ⟨e, mem, if_pos seq.symm⟩

/-! ### Taking up entries -/

theorem endToll_queueOk (n : Fin 4) (c : TollCause) (ok : QueueOk s) : QueueOk (endToll n c s) := by
  unfold endToll
  split
  · exact ok
  · exact (State.setToll_frame _ n none).queueOk ((post_frame _ _ _ _).queueOk (filterQueue_queueOk _ ok))

theorem tollServed_queueOk (n : Fin 4) (begun : Bool) (due : Instant) (ok : RoomyQueue s) :
    QueueOk (tollServed n begun due s) := by
  unfold tollServed
  split
  · exact ok.1
  · dsimp only
    split
    · exact endToll_queueOk n .count ok.1
    · exact enqueue_queueOk _ _ _ _ ok

theorem entryLeft_queueOk (e : Entry) (begun : Bool) (ok : RoomyQueue s) : QueueOk (entryLeft e begun s) := by
  unfold entryLeft
  split
  · exact tollServed_queueOk _ begun _ ok
  · exact ok.1

theorem skipEntry_queueOk {e : Entry} (f : StrikeFail) (mem : e ∈ s.strike.queue) (ok : QueueOk s) :
    QueueOk (skipEntry e f s) :=
  entryLeft_queueOk e false ((post_frame _ _ _ _).roomyQueue (removeEntry_roomy mem ok))

theorem beginPulse_queueOk {e : Entry} (mem : e ∈ s.strike.queue) (ok : QueueOk s) : QueueOk (beginPulse e s) :=
  entryLeft_queueOk e true (removeEntry_roomy mem ok)

theorem serveEntry_queueOk {e : Entry} (mem : e ∈ s.strike.queue) (ok : QueueOk s) : QueueOk (serveEntry e s) := by
  unfold serveEntry
  split
  · exact replaceEntry_queueOk mem rfl rfl ok
  · split
    · exact beginPulse_queueOk mem ok
    · exact replaceEntry_queueOk mem rfl rfl ok

theorem takeUp_queueOk {e : Entry} (mem : e ∈ s.strike.queue) (ok : QueueOk s) : QueueOk (takeUp e s) := by
  unfold takeUp
  split
  · exact serveEntry_queueOk mem ok
  · split
    · exact skipEntry_queueOk _ mem ok
    · split
      · exact skipEntry_queueOk _ mem ok
      next b _ =>
        have told := post_frame (replaceEntry { e with bell := b, substituted := true } s) .strikeSubstituted
          (e.bell.1 + 1) (pair (b.1 + 1) e.origin.code)
        have ok' := told.queueOk (replaceEntry_queueOk mem rfl rfl ok)
        have mem' := mem_replaceEntry (r := { e with bell := b, substituted := true }) mem rfl
        rw [← told.queue] at mem'
        dsimp only
        split
        · exact serveEntry_queueOk mem' ok'
        · exact skipEntry_queueOk _ mem' ok'

theorem takeUpEach_queueOk (pick : Entry → State → Bool) (ok : QueueOk s) : QueueOk (takeUpEach pick s) := by
  unfold takeUpEach
  refine foldl_keeps (P := QueueOk) (fun u e ok => ?_) _ ok
  split
  next x found =>
    split
    · exact takeUp_queueOk (List.mem_of_find?_eq_some found) ok
    · exact ok
  · exact ok

/-! ### Quarters and tunes -/

theorem enqueueNotes_queueOk (base : Instant) (o : Origin) (number : Nat) (ns : List (Fin 16 × Nat))
    (room : ns.length ≤ s.room) (ok : QueueOk s) : QueueOk (enqueueNotes base o number ns s) := by
  unfold enqueueNotes
  induction ns generalizing s with
  | nil => exact ok
  | cons n ns ih =>
    simp only [State.room, List.length_cons] at room
    refine ih ?_ (enqueue_queueOk _ _ _ _ ⟨ok, by omega⟩)
    simp only [State.room, enqueue_queue, length_insertEntry]
    omega

/-- Strokes in a row are notes at their times. -/
theorem foldl_enqueue_queueOk (times : List Nat) (due : State → Nat → Instant) (b : Fin 16) (o : Origin) (number : Nat → Nat)
    (room : times.length ≤ s.room) (ok : QueueOk s) :
    QueueOk (times.foldl (fun s k => enqueue (due s k) b o (number k) s) s) := by
  induction times generalizing s with
  | nil => exact ok
  | cons k ks ih =>
    simp only [State.room, List.length_cons] at room
    refine ih ?_ (enqueue_queueOk _ _ _ _ ⟨ok, by omega⟩)
    simp only [State.room, enqueue_queue, length_insertEntry]
    omega

theorem enqueueNotes_room (base : Instant) (o : Origin) (number : Nat) (ns : List (Fin 16 × Nat)) (s : State) :
    (enqueueNotes base o number ns s).room = s.room - ns.length := by
  unfold enqueueNotes
  induction ns generalizing s with
  | nil => rfl
  | cons n ns ih =>
    rw [List.foldl_cons, ih]
    simp only [State.room, enqueue_queue, length_insertEntry, List.length_cons]
    omega

theorem noteTimesFrom_length (x : Nat) (ns : List Note) : (noteTimesFrom x ns).length = ns.length := by
  induction ns generalizing x with
  | nil => rfl
  | cons n ns ih => simp [noteTimesFrom, ih]

@[simp] theorem noteTimes_length (ns : List Note) : (noteTimes ns).length = ns.length := by
  cases ns with
  | nil => rfl
  | cons n ns => simp [noteTimes, noteTimesFrom_length]

/-- A quarter's entries join the queue only where there is room for them all (R129). -/
theorem insertChime_queueOk (c : Chime) (base : Instant) (done : QuarterOutcome) (ok : QueueOk s) :
    QueueOk (insertChime c base done s) := by
  have strokes (start : Instant) {u : State} (room : c.strokes ≤ u.room) (ok : QueueOk u) :
      QueueOk (match named 16 c.hourBell with
        | some b => enqueueStrokes start c.pace b c.strokes u
        | none => u) := by
    split
    · exact foldl_enqueue_queueOk (List.range c.strokes) (fun _ k => start + k * c.pace) _ .hour (· + 1)
        (by simpa using room) ok
    · exact ok
  unfold insertChime
  cases tune : c.tune with
  | none =>
    dsimp only
    split
    · exact (quarterSkipped_frame _ _ _).queueOk ((setOutcome_frame _ _ _).queueOk ok)
    next room => exact (setOutcome_frame _ _ _).queueOk (strokes _ (by simpa using room) ok)
  | some t =>
    dsimp only
    split
    · exact (quarterSkipped_frame _ _ _).queueOk ((setOutcome_frame _ _ _).queueOk ok)
    next room =>
      refine (setOutcome_frame _ _ _).queueOk (strokes _ ?_ (enqueueNotes_queueOk _ _ _ _ ?_ ok))
      · rw [enqueueNotes_room, noteTimes_length]
        omega
      · rw [noteTimes_length]
        omega

theorem endHeldFallback_queueOk (base : Instant) (ok : QueueOk s) : QueueOk (endHeldFallback base s) := by
  unfold endHeldFallback
  split
  · exact ok
  · exact (setHeld_frame _ none).queueOk (insertChime_queueOk _ _ _ ok)

theorem endHeldTune_queueOk (base : Instant) (ok : QueueOk s) : QueueOk (endHeldTune base s) := by
  unfold endHeldTune
  split
  · exact ok
  · exact (setHeld_frame _ none).queueOk (insertChime_queueOk _ _ _ ok)

theorem tuneHandoff_queueOk (t : Fin 24) (ok : QueueOk s) : QueueOk (tuneHandoff t s) := by
  unfold tuneHandoff
  split
  · exact ok
  · split
    · split
      · exact endHeldTune_queueOk _ ok
      · exact endHeldFallback_queueOk _ ok
      · exact ok
    · exact ok

theorem changeTune_queueOk (t : Fin 24) (r : Tune) (ok : QueueOk s) : QueueOk (changeTune t r s) :=
  tuneHandoff_queueOk t ok

theorem abortEdit_queueOk (t : Fin 24) (ok : QueueOk s) : QueueOk (abortEdit t s) := by
  unfold abortEdit
  split
  · exact changeTune_queueOk t _ ok
  · exact ok

theorem abortEdits_queueOk (ok : QueueOk s) : QueueOk (abortEdits s) := by
  unfold abortEdits
  exact foldl_keeps (P := QueueOk) (fun _ t => abortEdit_queueOk t) _ ok

theorem tuneEditTimeout_queueOk (t : Fin 24) (ok : QueueOk s) : QueueOk (tuneEditTimeout t s) := by
  unfold tuneEditTimeout
  split
  · split
    · exact ok
    · exact abortEdit_queueOk t ok
  · exact ok

theorem heldQuarterExpiry_queueOk (ok : QueueOk s) : QueueOk (heldQuarterExpiry s) := by
  unfold heldQuarterExpiry
  split
  · exact ok
  · split
    · exact ok
    · exact endHeldFallback_queueOk _ ok

theorem buildQuarter_queueOk (index : Nat) (c : Label) (plan : PlanName) (ok : QueueOk s) :
    QueueOk (buildQuarter index c plan s) := by
  unfold buildQuarter
  dsimp only
  generalize (if slotOf c = 4 ∧ (s.plan plan).hourBell ≠ 0 then strokesOf (c.minute / 60) else 0) = strokes
  split
  · exact (post_frame _ _ _ _).queueOk ((setOutcome_frame _ _ _).queueOk ((setHeld_frame _ _).queueOk
      (endHeldFallback_queueOk _ ok)))
  · exact insertChime_queueOk _ _ _ ok
  · split
    · exact (setOutcome_frame _ _ _).queueOk ok
    · exact insertChime_queueOk _ _ _ ok

theorem decideQuarter_queueOk (index : Nat) (ok : QueueOk s) : QueueOk (decideQuarter index s) := by
  unfold decideQuarter
  dsimp only
  split
  · exact (quarterSkipped_frame _ _ _).queueOk ((setOutcome_frame _ _ _).queueOk ok)
  · split
    · exact (setOutcome_frame _ _ _).queueOk ok
    · split
      · exact (setOutcome_frame _ _ _).queueOk ok
      · exact buildQuarter_queueOk _ _ _ ok

theorem quarterBoundary_queueOk (l : Label) (ok : QueueOk s) : QueueOk (quarterBoundary l s) := by
  unfold quarterBoundary
  split
  · exact decideQuarter_queueOk _ ((setMarker_frame _ _).queueOk ok)
  · exact ok

theorem quarterStep_queueOk (delta : Int) (l : Label) (ok : QueueOk s) : QueueOk (quarterStep delta l s) := by
  unfold quarterStep
  dsimp only
  split
  · exact ok
  · split
    · exact decideQuarter_queueOk _ ((setMarker_frame _ _).queueOk ok)
    · exact (quarterSkipped_frame _ _ _).queueOk ((setOutcome_frame _ _ _).queueOk ((setMarker_frame _ _).queueOk ok))

/-! ### Tolls and tune events -/

theorem startToll_queueOk (b : Fin 16) (interval count minutes : Nat) (o : TollOrigin) (ok : QueueOk s) :
    QueueOk (startToll b interval count minutes o s).1 := by
  unfold startToll
  dsimp only
  split
  · exact ok
  · split
    · exact ok
    · split
      · split <;> exact ok
      · split
        · exact ok
        · split
          · exact ok
          next room =>
            refine enqueue_queueOk _ _ _ _ ⟨ok, ?_⟩
            simp only [State.room] at room
            simp only [State.setToll]
            omega

theorem playTune_queueOk (n : Fin 96) (tune : Nat) (ok : QueueOk s) : QueueOk (playTune n tune s).1 := by
  unfold playTune
  dsimp only
  split
  · exact ok
  · split
    all_goals
      split
      · exact ok
      · split
        · exact ok
        next t _ =>
          split
          · exact ok
          · split
            · exact ok
            next room =>
              refine enqueueNotes_queueOk _ _ _ (noteTimes (s.tune t).notes) ?_ ok
              rw [noteTimes_length]
              exact Nat.not_lt.1 room

theorem handEvent_queueOk (n : Fin 96) (ok : QueueOk s) : QueueOk (handEvent n s).1 := by
  unfold handEvent
  dsimp only
  split
  next mask stagger _ =>
    have made := (createSession_frame s (.event n) mask stagger ((s.event n).duration * 60000)).queueOk ok
    split
    all_goals next pair =>
      rw [pair] at made
      exact made
  next b interval count _ =>
    have started := startToll_queueOk b interval count (min 240 (s.event n).duration) (.event n) ok
    split
    all_goals next pair =>
      rw [pair] at started
      exact started
  · exact playTune_queueOk n _ ok
  · exact ok
  · exact ok

/-! ### Supply, warm reset and requests -/

theorem strikeSupplyLost_queueOk (ok : QueueOk s) : QueueOk (strikeSupplyLost s) := by
  unfold strikeSupplyLost
  refine takeUpEach_queueOk _ ((dropHeld_frame _).queueOk ?_)
  refine foldl_keeps (P := QueueOk) (fun _ n => endToll_queueOk n _) _ ?_
  exact foldl_keeps (P := QueueOk) (fun s b => (releaseHammer_frame s b).queueOk) _ ok

theorem warmResetEntry_queueOk (ok : QueueOk s) : QueueOk (warmResetEntry s) := by
  unfold warmResetEntry
  split
  · exact ok
  · exact abortEdits_queueOk ⟨by simp [Strike.warmReset], by simp [Strike.warmReset], by simp [Strike.warmReset],
      by simp [Strike.warmReset]⟩

theorem actPortReset_queueOk (p : Port) (ok : QueueOk s) : QueueOk (actPortReset p s).state := by
  simp only [actPortReset, accept_state]
  split
  · exact abortEdits_queueOk ok
  · exact ok

theorem enqueuePanel_queueOk (b : Fin 16) (count interval : Nat) (room : count ≤ s.room) (ok : QueueOk s) :
    QueueOk (enqueuePanel b count interval s) :=
  foldl_enqueue_queueOk (List.range count) (fun s k => s.now + k * interval) b .panel (· + 1) (by simpa using room) ok

theorem actStrike_queueOk (bell count interval : Nat) (ok : QueueOk s) : QueueOk (actStrike bell count interval s).state := by
  unfold actStrike
  split
  · exact ok
  · split
    · exact ok
    · split
      · exact ok
      · split
        · exact ok
        · split
          · exact ok
          next room => exact enqueuePanel_queueOk _ _ _ (Nat.not_lt.1 room) ok

theorem actTollStart_queueOk (p : Port) (bell interval count minutes : Nat) (ok : QueueOk s) :
    QueueOk (actTollStart p bell interval count minutes s).state := by
  unfold actTollStart
  split
  · exact ok
  next b _ =>
    dsimp only
    split
    · exact ok
    · have started := startToll_queueOk b (clamp 4 60 interval) count (min 240 minutes) (.port p) ok
      split
      · exact ok
      · exact ok
      · exact ok
      next pair =>
        rw [pair] at started
        exact started

theorem actTollStop_queueOk (bell : Nat) (ok : QueueOk s) : QueueOk (actTollStop bell s).state := by
  unfold actTollStop
  split
  · exact ok
  · split
    · exact ok
    · exact endToll_queueOk _ _ ok

theorem restartEdit_queueOk (t : Fin 24) (ok : QueueOk s) : QueueOk (restartEdit t s) := (restartEdit_frame s t).queueOk ok

theorem actTuneOpen_queueOk (tune length revision : Nat) (ok : QueueOk s) :
    QueueOk (actTuneOpen tune length revision s).state := by
  unfold actTuneOpen
  split
  · exact ok
  next t _ =>
    dsimp only
    split
    · exact restartEdit_queueOk t ok
    · split
      · exact restartEdit_queueOk t ok
      · split
        · exact restartEdit_queueOk t ok
        · split
          · exact ok
          · exact changeTune_queueOk t _ ok

theorem actTuneClose_queueOk (tune : Nat) (ok : QueueOk s) : QueueOk (actTuneClose tune s).state := by
  unfold actTuneClose
  split
  · exact ok
  next t _ =>
    dsimp only
    split
    · split
      · exact restartEdit_queueOk t ok
      · exact changeTune_queueOk t _ ok
    · exact ok

theorem actTuneAbort_queueOk (tune : Nat) (ok : QueueOk s) : QueueOk (actTuneAbort tune s).state := by
  unfold actTuneAbort
  split
  · exact ok
  · split
    · exact abortEdit_queueOk _ ok
    · exact ok

theorem actTuneDelete_queueOk (tune revision : Nat) (ok : QueueOk s) : QueueOk (actTuneDelete tune revision s).state := by
  unfold actTuneDelete
  split
  · exact ok
  next t _ =>
    dsimp only
    split
    · exact restartEdit_queueOk t ok
    · split
      · exact restartEdit_queueOk t ok
      · split
        · exact ok
        · exact changeTune_queueOk t _ ok

/-! ### Commands -/

theorem queueOk_supplyKeep : SupplyKeep QueueOk where
  own h ok := h.frame.queueOk ok
  full d s ok := (fullCause_frame s d).queueOk ok
  continuing d s ok := (continuingCause_frame s d).queueOk ok
  quarter l _ ok := quarterBoundary_queueOk l ok
  step delta l _ ok := quarterStep_queueOk delta l ok
  hand n _ ok := handEvent_queueOk n ok
  derive c s ok := (deriveLight_frame s c).queueOk ok
  expire c s ok := (overrideTest_frame s c).queueOk ok
  hold h ok := h.queueOk ok
  supply r s ok := (withSupply_frame s r).queueOk ok
  lostDial d s ok := (dialSupplyLost_frame s d).queueOk ok
  halt b s ok := (guardHalt_frame s b).queueOk ok
  lostSwings {s} ok := (swingsSupplyLost_frame s).queueOk ok
  lostStrike ok := strikeSupplyLost_queueOk ok
  lostLight c s ok := (lightSupplyLost_frame s c).queueOk ok
  resume b s ok := (guardResume_frame s b).queueOk ok
  bell b s ok := (bellCompletion_frame s b).queueOk ok
  swing b s ok := (swingCompletion_frame s b).queueOk ok
  report c s ok := (resetNotice_frame s c).queueOk ok
  restrike c s ok := (restrikeExpiry_frame s c).queueOk ok

/-- Every request keeps the strike queue in its order and its bounds. -/
theorem after_request_queueOk {i : Instr} {x : Req × Port × Byte} (spelled : i.request = some x) (ok : QueueOk s) :
    QueueOk (after i s) := by
  by_cases writer : Part.queue ∈ writes i
  · have port (p : Port) (r : LinkPort) (u : State) : QueueOk u → QueueOk (u.setPort p r) := id
    cases i with
    | portReset p tag => exact request_keeps (port p) (actPortReset_queueOk p) ok
    | partConfig p tag share => exact request_keeps (port p) (fun ok => takeUpEach_queueOk _ (queueOk_of_queue rfl rfl ok)) ok
    | tuneOpen p tag tune length revision => exact request_keeps (port p) (actTuneOpen_queueOk tune length revision) ok
    | tuneClose p tag tune => exact request_keeps (port p) (actTuneClose_queueOk tune) ok
    | tuneAbort p tag tune => exact request_keeps (port p) (actTuneAbort_queueOk tune) ok
    | tuneDelete p tag tune revision => exact request_keeps (port p) (actTuneDelete_queueOk tune revision) ok
    | strike p tag bell count interval => exact request_keeps (port p) (actStrike_queueOk bell count interval) ok
    | tollStart p tag bell interval count minutes =>
      exact request_keeps (port p) (actTollStart_queueOk p bell interval count minutes) ok
    | tollStop p tag bell => exact request_keeps (port p) (actTollStop_queueOk bell) ok
    | _ => first | (simp [writes] at writer; done) | cases spelled
  · exact (after_frame i s).queueOk ok writer

theorem strikeEntryDue_queueOk (ok : QueueOk s) : QueueOk (strikeEntryDue s) := by
  unfold strikeEntryDue
  split
  · exact ok
  · exact takeUpEach_queueOk _ ok

theorem hammerRecoveryEnd_queueOk (b : Fin 16) (ok : QueueOk s) : QueueOk (hammerRecoveryEnd b s) := by
  unfold hammerRecoveryEnd
  split
  · exact ok
  · exact takeUpEach_queueOk _ ok

theorem hammerPulseEnd_queueOk (b : Fin 16) (ok : QueueOk s) : QueueOk (hammerPulseEnd b s) := by
  unfold hammerPulseEnd
  split
  · exact ok
  · exact takeUpEach_queueOk _ ((releaseHammer_frame s b).queueOk ok)

theorem tollEndTime_queueOk (n : Fin 4) (ok : QueueOk s) : QueueOk (tollEndTime n s) := by
  unfold tollEndTime
  split
  · exact ok
  · exact endToll_queueOk n _ ok

/-- Every command keeps the strike queue in its order and its bounds. -/
theorem after_queueOk (c : Instr) (ok : QueueOk s) : QueueOk (after c s) := by
  by_cases writer : Part.queue ∈ writes c
  · cases c with
    | coldStart => exact coldState_queueOk _ _
    | localSecondBoundary => exact queueOk_supplyKeep.localSecondBoundary ok
    | offsetChangeApplied => exact queueOk_supplyKeep.offsetChangeApplied ok
    | refPulse => exact queueOk_supplyKeep.refPulse ok
    | heldQuarterExpiry => exact heldQuarterExpiry_queueOk ok
    | strikeEntryDue => exact strikeEntryDue_queueOk ok
    | hammerRecoveryEnd b => exact hammerRecoveryEnd_queueOk b ok
    | hammerPulseEnd b => exact hammerPulseEnd_queueOk b ok
    | tollEndTime n => exact tollEndTime_queueOk n ok
    | tuneEditTimeout t => exact tuneEditTimeout_queueOk t ok
    | mainsLost => exact queueOk_supplyKeep.mainsLost ok
    | warmResetEntry => exact warmResetEntry_queueOk ok
    | frameComplete p bytes =>
      exact frameComplete_keeps (P := QueueOk) (fun _ _ => id)
        (fun _ _ _ _ spelled ok => after_request_queueOk spelled ok) bytes s ok
    | _ => first | (simp [writes] at writer; done) | exact after_request_queueOk rfl ok
  · exact (after_frame c s).queueOk ok writer

theorem step_queueOk {t : State} (ok : QueueOk s) (ran : step s = .next t) : QueueOk t :=
  step_keeps (P := QueueOk) (fun _ _ => id) (fun _ _ => id) (fun c _ => after_queueOk c) ok ran

end Sys2Proof.Machine
end

section
/-! SUPPORT. Every command keeps at most eight hammers energised and K within 1 to 8 (R125, R136): a pulse begins only
below K. -/

namespace Sys2Proof.Machine

set_option Elab.async false

variable {s : State}

/-! ### What the taking up of entries keeps -/

/-- The parts the Strike Unit writes when an entry leaves the queue. -/
abbrev queueParts : List Part := [.queue, .tolls, .notices, .ports]

/-- The bell of an entry with its pulse begun (R136). -/
def pulsed (b : Fin 16) (s : State) : State :=
  s.setBell b { s.bell b with lastStrike := some s.now, pulseEnd := some (s.now + (s.bell b).config.width) }

theorem beginPulse_eq (e : Entry) (s : State) :
    beginPulse e s = entryLeft e true (removeEntry e.seq (pulsed e.bell s)) := rfl

theorem idle_of_recovered {b : Fin 16} (h : recovered b s = true) : (s.bell b).pulseEnd = none := by
  rw [recovered, Bool.and_eq_true] at h
  exact Option.isNone_iff_eq_none.1 h.1

/-- A property that the queue and the tolls do not touch is kept by the taking up of entries, if it is kept where a
strikeable bell's pulse begins with a share free. -/
structure ServingKeeps (P : State → Prop) : Prop where
  quiet : ∀ {s t}, Frame queueParts s t → P s → P t
  pulse : ∀ b {s}, strikeFail b s = none → (s.bell b).pulseEnd = none → s.energised < s.strike.share → P s → P (pulsed b s)

namespace ServingKeeps

variable {P : State → Prop} (k : ServingKeeps P)
include k

theorem skipEntry (e : Entry) (f : StrikeFail) (ok : P s) : P (skipEntry e f s) :=
  k.quiet ((skipEntry_frame s e f).mono (by decide)) ok

theorem serveEntry {e : Entry} (strikeable : strikeFail e.bell s = none) (ok : P s) : P (serveEntry e s) := by
  unfold Machine.serveEntry
  split
  · exact k.quiet ((replaceEntry_frame _ _).mono (by decide)) ok
  next ready =>
    split
    next below =>
      have idle := idle_of_recovered (by simpa using ready : recovered e.bell s = true)
      rw [beginPulse_eq]
      exact k.quiet ((entryLeft_frame _ _ _).mono (by decide))
        (k.quiet ((removeEntry_frame _ _).mono (by decide)) (k.pulse e.bell strikeable idle below ok))
    · exact k.quiet ((replaceEntry_frame _ _).mono (by decide)) ok

theorem takeUp (e : Entry) (ok : P s) : P (takeUp e s) := by
  unfold Machine.takeUp
  split
  next strikeable => exact k.serveEntry strikeable ok
  · split
    · exact k.skipEntry e _ ok
    · split
      · exact k.skipEntry e _ ok
      next b _ =>
        have told := k.quiet ((post_frame _ .strikeSubstituted (e.bell.1 + 1) (pair (b.1 + 1) e.origin.code)).mono (by decide))
          (k.quiet ((replaceEntry_frame s { e with bell := b, substituted := true }).mono (by decide)) ok)
        dsimp only
        split
        next strikeable => exact k.serveEntry strikeable told
        · exact k.skipEntry _ _ told

theorem takeUpEach (pick : Entry → State → Bool) (ok : P s) : P (takeUpEach pick s) := by
  unfold Machine.takeUpEach
  refine foldl_keeps (P := P) (fun u e ok => ?_) _ ok
  split
  · split
    · exact k.takeUp _ ok
    · exact ok
  · exact ok

end ServingKeeps

/-! ### The energised count -/

theorem energised_eq_card (s : State) :
    s.energised = (Finset.univ.filter (fun b => (s.bell b).pulseEnd.isSome)).card := by
  unfold State.energised allBells
  rw [← List.toFinset_card_of_nodup ((List.nodup_finRange 16).filter _), List.toFinset_filter, List.toFinset_finRange]

theorem energised_le_of_pulses {t : State} (h : ∀ b, (t.bell b).pulseEnd.isSome → (s.bell b).pulseEnd.isSome) :
    t.energised ≤ s.energised := by
  rw [energised_eq_card, energised_eq_card]
  exact Finset.card_le_card (Finset.monotone_filter_right _ (fun b _ => h b))

/-- A pulse that begins raises the count by one at most. -/
theorem energised_pulsed_le (b : Fin 16) (s : State) : (pulsed b s).energised ≤ s.energised + 1 := by
  rw [energised_eq_card, energised_eq_card]
  refine Nat.le_trans (Finset.card_le_card (t := insert b (Finset.univ.filter fun c => (s.bell c).pulseEnd.isSome)) ?_)
    (Finset.card_insert_le _ _)
  intro c inside
  by_cases same : c = b
  · exact same ▸ Finset.mem_insert_self _ _
  · rw [Finset.mem_filter, pulsed, State.setBell_bell, if_neg same] at inside
    exact Finset.mem_insert_of_mem (Finset.mem_filter.2 inside)

/-! ### Shares -/

theorem Frame.sharesOk {ps : List Part} {s t : State} (h : Frame ps s t) (ok : SharesOk s)
    (hammers : Part.hammers ∉ ps := by decide) (share : Part.share ∉ ps := by decide) : SharesOk t := by
  have same : t.strike.share = s.strike.share := h.share share
  refine ⟨same ▸ ok.1, same ▸ ok.2.1, Nat.le_trans (energised_le_of_pulses fun b on => ?_) ok.2.2⟩
  rwa [h.pulseEnd b hammers] at on

theorem sharesOk_servingKeeps : ServingKeeps SharesOk where
  quiet h ok := h.sharesOk ok
  pulse b s _ _ below ok :=
    ⟨ok.1, ok.2.1, Nat.le_trans (energised_pulsed_le b s) (Nat.le_trans (Nat.succ_le_of_lt below) ok.2.1)⟩

theorem releaseHammer_sharesOk (b : Fin 16) (ok : SharesOk s) : SharesOk (releaseHammer b s) := by
  have released : SharesOk (s.setBell b { s.bell b with pulseEnd := none }) := by
    refine ⟨ok.1, ok.2.1, Nat.le_trans (energised_le_of_pulses fun c on => ?_) ok.2.2⟩
    rw [State.setBell_bell] at on
    split at on
    · cases on
    · exact on
  unfold releaseHammer
  dsimp only
  split
  · exact ok
  · split
    · exact (guardBegin_frame _ b).sharesOk released
    · exact released

theorem strikeSupplyLost_sharesOk (ok : SharesOk s) : SharesOk (strikeSupplyLost s) := by
  unfold strikeSupplyLost
  refine sharesOk_servingKeeps.takeUpEach _ ((dropHeld_frame _).sharesOk ?_)
  refine foldl_keeps (P := SharesOk) (fun s n => (endToll_frame s n _).sharesOk) _ ?_
  exact foldl_keeps (P := SharesOk) (fun _ b => releaseHammer_sharesOk b) _ ok

theorem sharesOk_supplyKeep : SupplyKeep SharesOk where
  own h ok := h.frame.sharesOk ok
  full d s ok := (fullCause_frame s d).sharesOk ok
  continuing d s ok := (continuingCause_frame s d).sharesOk ok
  quarter l s ok := (quarterBoundary_frame s l).sharesOk ok
  step delta l s ok := (quarterStep_frame s delta l).sharesOk ok
  hand n s ok := (handEvent_frame s n).sharesOk ok
  derive c s ok := (deriveLight_frame s c).sharesOk ok
  expire c s ok := (overrideTest_frame s c).sharesOk ok
  hold h ok := h.sharesOk ok
  supply r s ok := (withSupply_frame s r).sharesOk ok
  lostDial d s ok := (dialSupplyLost_frame s d).sharesOk ok
  halt b s ok := (guardHalt_frame s b).sharesOk ok
  lostSwings {s} ok := (swingsSupplyLost_frame s).sharesOk ok
  lostStrike ok := strikeSupplyLost_sharesOk ok
  lostLight c s ok := (lightSupplyLost_frame s c).sharesOk ok
  resume b s ok := (guardResume_frame s b).sharesOk ok
  bell b s ok := (bellCompletion_frame s b).sharesOk ok
  swing b s ok := (swingCompletion_frame s b).sharesOk ok
  report c s ok := (resetNotice_frame s c).sharesOk ok
  restrike c s ok := (restrikeExpiry_frame s c).sharesOk ok

theorem warmResetEntry_sharesOk (ok : SharesOk s) : SharesOk (warmResetEntry s) := by
  unfold warmResetEntry
  split
  · exact ok
  · refine (abortEdits_frame _).sharesOk ⟨ok.1, ok.2.1, Nat.le_trans (energised_le_of_pulses fun b on => ?_) ok.2.2⟩
    simp [State.bell, Bell.warmReset] at on

theorem strikeEntryDue_sharesOk (ok : SharesOk s) : SharesOk (strikeEntryDue s) := by
  unfold strikeEntryDue
  split
  · exact ok
  · exact sharesOk_servingKeeps.takeUpEach _ ok

theorem hammerRecoveryEnd_sharesOk (b : Fin 16) (ok : SharesOk s) : SharesOk (hammerRecoveryEnd b s) := by
  unfold hammerRecoveryEnd
  split
  · exact ok
  · exact sharesOk_servingKeeps.takeUpEach _ ok

theorem hammerPulseEnd_sharesOk (b : Fin 16) (ok : SharesOk s) : SharesOk (hammerPulseEnd b s) := by
  unfold hammerPulseEnd
  split
  · exact ok
  · exact sharesOk_servingKeeps.takeUpEach _ (releaseHammer_sharesOk b ok)

theorem actPartConfig_sharesOk (share : Nat) (ok : SharesOk s) : SharesOk (actPartConfig share s).state := by
  refine sharesOk_servingKeeps.takeUpEach _ ⟨?_, ?_, ok.2.2⟩
  all_goals simp only [clamp]; omega

/-- Every request keeps the hammer shares. -/
theorem after_request_sharesOk {i : Instr} {x : Req × Port × Byte} (spelled : i.request = some x) (ok : SharesOk s) :
    SharesOk (after i s) := by
  by_cases writer : Part.hammers ∈ writes i ∨ Part.share ∈ writes i
  · cases i with
    | partConfig p tag share => exact request_keeps (P := SharesOk) (fun _ _ => id) (actPartConfig_sharesOk share) ok
    | _ => first | (simp [writes] at writer; done) | cases spelled
  · rw [not_or] at writer
    exact (after_frame i s).sharesOk ok writer.1 writer.2

/-- Every command keeps the hammer shares. -/
theorem after_sharesOk (c : Instr) (ok : SharesOk s) : SharesOk (after c s) := by
  by_cases writer : Part.hammers ∈ writes c ∨ Part.share ∈ writes c
  · cases c with
    | coldStart => exact coldState_sharesOk _ _
    | strikeEntryDue => exact strikeEntryDue_sharesOk ok
    | hammerRecoveryEnd b => exact hammerRecoveryEnd_sharesOk b ok
    | hammerPulseEnd b => exact hammerPulseEnd_sharesOk b ok
    | mainsLost => exact sharesOk_supplyKeep.mainsLost ok
    | warmResetEntry => exact warmResetEntry_sharesOk ok
    | frameComplete p bytes =>
      exact frameComplete_keeps (P := SharesOk) (fun _ _ => id)
        (fun _ _ _ _ spelled ok => after_request_sharesOk spelled ok) bytes s ok
    | _ => first | (simp [writes] at writer; done) | exact after_request_sharesOk rfl ok
  · rw [not_or] at writer
    exact (after_frame c s).sharesOk ok writer.1 writer.2

theorem step_sharesOk {t : State} (ok : SharesOk s) (ran : step s = .next t) : SharesOk t :=
  step_keeps (P := SharesOk) (fun _ _ => id) (fun _ _ => id) (fun c _ => after_sharesOk c) ok ran

end Sys2Proof.Machine
end

section
/-! SUPPORT. What holds of every channel record, at every time and on mains or battery, is kept by every command, if the
few changes a channel can undergo keep it. The three invariants of the channels are such properties. -/

namespace Sys2Proof.Machine

set_option Elab.async false

variable {s : State}

/-- The changes of a channel record (R166 to R171, R176, R178) keep a property of it; the property may depend on the
present instant and on mains. -/
structure LightRule (Q : Instant → Bool → Channel → Prop) : Prop where
  later : ∀ {now now' m r}, now ≤ now' → Q now m r → Q now' m r
  same : ∀ {now m r r'}, r'.configured = r.configured → r'.state = r.state → r'.restrikeExpiry = r.restrikeExpiry →
    Q now m r → Q now m r'
  on : ∀ {now r st}, r.configured = true → (r.state = .off ∨ (r.state = .cooling ∧ reached r.restrikeExpiry now = true)) →
    st = .warming ∨ st = .lit → Q now true r → Q now true { r with state := st }
  warmed : ∀ {now m r}, r.state = .warming → Q now m r → Q now m { r with state := .lit }
  off : ∀ {now m} cause (r : Channel), Q now m (r.switchedOff cause now)
  failed : ∀ {now m} {r : Channel}, r.state = .lit → Q now m r → Q now m { r.switchedOff .sense now with state := .failed }
  rested : ∀ now m (r : Channel), Q now m { r with state := if reached r.restrikeExpiry now then .off else .cooling }
  config : ∀ {now m r} c, r.configured = c ∨ r.state = .off → Q now m r → Q now m { r with configured := c }

/-- A property of every channel. -/
def EveryLight (Q : Instant → Bool → Channel → Prop) (s : State) : Prop := ∀ c, Q s.now s.onMains (s.light c)

theorem EveryLight.of_frame {Q : Instant → Bool → Channel → Prop} {ps : List Part} {t : State} (h : Frame ps s t)
    (ok : EveryLight Q s) (tb : Part.tb ∉ ps := by decide) (supply : Part.supply ∉ ps := by decide)
    (lights : Part.lights ∉ ps := by decide) : EveryLight Q t := by
  intro c
  rw [h.now tb, State.onMains, h.supply supply, State.light, h.lights lights]
  exact ok c

/-- The record that a LIGHT_CONFIG writes (R176). -/
def Channel.written (r : Channel) (configured : Bool) (kind : LampKind) (follow sense : Bool) (a : LightArgs)
    (now : Instant) : Channel :=
  let r1 := { r with
    configured := configured, kind := kind, follow := follow, sense := sense
    warmUp := lampTime a.warmUp 600 180 kind, restrike := lampTime a.restrike 1800 600 kind
    revision := nextRevision r.revision
    watch := if sense then r.watch else .idle }
  let r2 := if configured then r1 else { r1 with override := .auto, expiry := none }
  if r.configured && !configured && r.state == .failed then
    { r2 with state := if reached r.restrikeExpiry now then .off else .cooling } else r2

theorem writeLight_eq (c : Fin 8) (configured : Bool) (kind : LampKind) (follow sense : Bool) (a : LightArgs) (s : State) :
    writeLight c configured kind follow sense a s =
      let w := (s.light c).written configured kind follow sense a s.now
      deriveLight c (tryWatch c (channelNotice c (s.light c).state w.state .config (s.setLight c w))) := rfl

section
variable (r : Channel) (configured : Bool) (kind : LampKind) (follow sense : Bool) (a : LightArgs) (now : Instant)

theorem written_configured : (r.written configured kind follow sense a now).configured = configured := by
  cases configured <;> simp only [Channel.written] <;> split <;> rfl

theorem written_restrikeExpiry : (r.written configured kind follow sense a now).restrikeExpiry = r.restrikeExpiry := by
  cases configured <;> simp only [Channel.written] <;> split <;> rfl

theorem written_state : (r.written configured kind follow sense a now).state =
    if r.configured = true ∧ configured = false ∧ r.state = .failed then
      (if reached r.restrikeExpiry now then .off else .cooling) else r.state := by
  cases configured <;> simp only [Channel.written] <;> split <;> simp_all

end

theorem enterWarmReset_light (c : Fin 8) : (enterWarmReset s).light c = (s.light c).warmReset s.now := by
  rw [State.light, enterWarmReset, (abortEdits_frame _).lights]
  exact mapV_get _ _ _ _

namespace LightRule

variable {Q : Instant → Bool → Channel → Prop} (k : LightRule Q)

theorem setLight {c : Fin 8} {r : Channel} (h : Q s.now s.onMains r) (ok : EveryLight Q s) :
    EveryLight Q (s.setLight c r) := by
  intro e
  by_cases same : e = c
  · subst same
    rwa [State.setLight_light_self]
  · rw [State.setLight_light_ne _ (Ne.symm same)]
    exact ok e

include k

theorem alike {now : Instant} {m : Bool} {r r' : Channel} (h : Q now m r)
    (configured : r'.configured = r.configured := by rfl) (state : r'.state = r.state := by rfl)
    (restrike : r'.restrikeExpiry = r.restrikeExpiry := by rfl) : Q now m r' := k.same configured state restrike h

theorem passes {t : State} (h : TimePasses s t) (ok : EveryLight Q s) : EveryLight Q t := by
  intro c
  have mains : t.onMains = s.onMains := by rw [State.onMains, State.onMains, h.frame.supply]
  rw [mains, State.light, h.frame.lights]
  exact k.later h.now (ok c)

theorem tryWatch (c : Fin 8) (ok : EveryLight Q s) : EveryLight Q (tryWatch c s) := by
  unfold Machine.tryWatch
  split
  · exact setLight (k.alike (ok c)) ok
  · exact ok

theorem switchOn {c : Fin 8} (cause : LightCause) (configured : (s.light c).configured = true) (mains : s.onMains = true)
    (free : (s.light c).state = .off ∨ ((s.light c).state = .cooling ∧ reached (s.light c).restrikeExpiry s.now = true))
    (ok : EveryLight Q s) : EveryLight Q (switchOn c cause s) := by
  unfold Machine.switchOn
  refine k.tryWatch c (.of_frame (channelNotice_frame _ _ _ _ _) (setLight ?_ ok))
  have before := ok c
  rw [mains] at before ⊢
  refine k.alike (k.on configured free ?_ before)
  split
  · exact .inr rfl
  · exact .inl rfl

theorem switchOff (c : Fin 8) (off : OffCause) (cause : LightCause) (ok : EveryLight Q s) :
    EveryLight Q (switchOff c off cause s) := .of_frame (channelNotice_frame _ _ _ _ _) (setLight (k.off off _) ok)

theorem recordDerived (c : Fin 8) (ok : EveryLight Q s) : EveryLight Q (recordDerived c s) :=
  setLight (k.alike (ok c)) ok

omit k in
/-- A channel that is not configured is never desired on (R163). -/
theorem configured_of_desired {c : Fin 8} (h : (desiredNow c s).desired = true) : (s.light c).configured = true := by
  simp only [desiredNow, Bool.and_eq_true] at h
  exact h.1

theorem deriveLight (c : Fin 8) (ok : EveryLight Q s) : EveryLight Q (deriveLight c s) := by
  have recorded := k.recordDerived c ok
  have row : (Machine.recordDerived c s).light c = { s.light c with derived := desiredNow c s } :=
    State.setLight_light_self s _ _
  unfold Machine.deriveLight
  dsimp only
  split
  next off =>
    split
    next wanted =>
      rw [Bool.and_eq_true] at wanted
      refine k.switchOn .desired ?_ wanted.2 (.inl off) recorded
      rw [row] at wanted ⊢
      exact configured_of_desired wanted.1
    · exact recorded
  · split
    · exact recorded
    · exact k.switchOff c _ _ recorded
  · split
    · exact recorded
    · exact k.switchOff c _ _ recorded
  · exact setLight (k.alike (recorded c)) recorded
  · exact recorded

theorem overrideTest (c : Fin 8) (ok : EveryLight Q s) : EveryLight Q (overrideTest c s) := by
  unfold Machine.overrideTest
  split
  · exact k.deriveLight c (setLight (k.alike (ok c)) ok)
  · exact ok

theorem lightSupplyLost (c : Fin 8) (ok : EveryLight Q s) : EveryLight Q (lightSupplyLost c s) := by
  unfold Machine.lightSupplyLost
  split
  · exact k.switchOff c _ _ ok
  · exact ok

theorem resetNotice (c : Fin 8) (ok : EveryLight Q s) : EveryLight Q (resetNotice c s) := by
  unfold Machine.resetNotice
  dsimp only
  split
  · exact ok
  · exact .of_frame (channelNotice_frame _ _ _ _ _) (setLight (k.alike (ok c)) ok)

/-! ### Events -/

theorem overrideExpiry (c : Fin 8) (ok : EveryLight Q s) : EveryLight Q (overrideExpiry c s) := by
  unfold Machine.overrideExpiry
  split
  · exact ok
  · exact k.overrideTest c ok

theorem warmupEnd (c : Fin 8) (ok : EveryLight Q s) : EveryLight Q (warmupEnd c s) := by
  unfold Machine.warmupEnd
  dsimp only
  split
  · exact ok
  next due =>
    have warming : (s.light c).state = .warming := by
      simp only [Bool.or_eq_true, not_or, bne_iff_ne, ne_eq, not_not] at due
      exact due.1.2
    exact k.tryWatch c (.of_frame (channelNotice_frame _ _ _ _ _) (setLight (k.warmed warming (ok c)) ok))

theorem restrikeExpiry (c : Fin 8) (ok : EveryLight Q s) : EveryLight Q (restrikeExpiry c s) := by
  have recorded := k.recordDerived c ok
  have row : (Machine.recordDerived c s).light c = { s.light c with derived := desiredNow c s } :=
    State.setLight_light_self s _ _
  unfold Machine.restrikeExpiry
  dsimp only
  split
  · exact ok
  next due =>
    simp only [Bool.or_eq_true, not_or, bne_iff_ne, ne_eq, not_not, Bool.not_eq_true', Bool.not_eq_false] at due
    obtain ⟨⟨-, cooling⟩, past⟩ := due
    split
    next wanted =>
      rw [Bool.and_eq_true] at wanted
      refine k.switchOn .expiry ?_ wanted.2 (.inr ?_) recorded
      · rw [row] at wanted ⊢
        exact configured_of_desired wanted.1
      · rw [row]
        exact ⟨cooling, past⟩
    · refine .of_frame (channelNotice_frame _ _ _ _ _) (setLight (k.alike
        (k.rested _ _ ((Machine.recordDerived c s).light c)) (state := ?_)) recorded)
      have late : reached ((Machine.recordDerived c s).light c).restrikeExpiry (Machine.recordDerived c s).now = true := by
        rw [row]
        exact past
      exact (if_pos late).symm

theorem senseWatchStart (c : Fin 8) (ok : EveryLight Q s) : EveryLight Q (senseWatchStart c s) := by
  unfold Machine.senseWatchStart
  split
  · exact ok
  · exact k.tryWatch c ok

theorem lampSenseChange (c : Fin 8) (current : Bool) (ok : EveryLight Q s) : EveryLight Q (lampSenseChange c current s) := by
  have moved (l : Lines) : EveryLight Q (s.setLines l) := ok
  unfold Machine.lampSenseChange
  dsimp only
  split
  · exact moved _
  · exact setLight (k.alike (moved _ c)) (moved _)

omit k in
theorem lit_of_lampAbsent {c : Fin 8} (h : lampAbsent c s = true) : (s.light c).state = .lit := by
  unfold lampAbsent at h
  dsimp only at h
  split at h
  · assumption
  · cases h

theorem lampFailed (c : Fin 8) (ok : EveryLight Q s) : EveryLight Q (lampFailed c s) := by
  unfold Machine.lampFailed
  dsimp only
  split
  · exact ok
  next absent =>
    have lit : (s.light c).state = .lit := by
      simp only [Bool.or_eq_true, not_or, Bool.not_eq_true', Bool.not_eq_false] at absent
      exact lit_of_lampAbsent absent.2
    exact .of_frame (channelNotice_frame _ _ _ _ _) (.of_frame (post_frame _ _ _ _) (setLight (k.failed lit (ok c)) ok))

theorem warmReset (now : Instant) (m : Bool) {r : Channel} (h : Q now m r) : Q now m (r.warmReset now) := by
  unfold Channel.warmReset
  dsimp only
  split
  · exact k.alike (k.off .reset r)
  · exact k.alike h

theorem warmResetEntry (ok : EveryLight Q s) : EveryLight Q (warmResetEntry s) := by
  unfold Machine.warmResetEntry
  split
  · exact ok
  · have frame := enterWarmReset_frame s
    intro c
    rw [frame.now, State.onMains, frame.supply, enterWarmReset_light]
    exact k.warmReset s.now s.onMains (ok c)

/-! ### Requests -/

/-- A configuration is written where it is as before, in OFF, or where a FAILED channel ceases to be configured (R176). -/
theorem writeLight (c : Fin 8) (configured : Bool) (kind : LampKind) (follow sense : Bool) (a : LightArgs)
    (free : (s.light c).configured = configured ∨ (s.light c).state = .off ∨
      ((s.light c).configured = true ∧ (s.light c).state = .failed ∧ configured = false))
    (ok : EveryLight Q s) : EveryLight Q (writeLight c configured kind follow sense a s) := by
  rw [writeLight_eq]
  refine k.deriveLight c (k.tryWatch c (.of_frame (channelNotice_frame _ _ _ _ _) (setLight ?_ ok)))
  by_cases clearing : (s.light c).configured = true ∧ configured = false ∧ (s.light c).state = .failed
  · exact k.alike (k.rested s.now s.onMains { s.light c with configured := configured })
      (written_configured ..) (by rw [written_state, if_pos clearing]) (written_restrikeExpiry ..)
  · refine k.alike (k.config (r := s.light c) configured ?_ (ok c))
      (written_configured ..) (by rw [written_state, if_neg clearing]) (written_restrikeExpiry ..)
    tauto

theorem actLightConfig (a : LightArgs) (ok : EveryLight Q s) : EveryLight Q (actLightConfig a s).state := by
  unfold Machine.actLightConfig
  split
  · exact ok
  next c _ =>
    dsimp only
    split
    next cf kd f w _ _ _ _ =>
      split
      · exact ok
      · split
        · exact ok
        · split
          · exact ok
          next free =>
            refine k.writeLight c cf kd f w a ?_ ok
            simp only [Bool.not_eq_true', decide_eq_false_iff_not, not_and, ne_eq] at free
            by_cases same : (s.light c).configured = cf
            · exact .inl same
            · cases cf with
              | false => simp_all; tauto
              | true => simp_all
    · exact ok

theorem setOverride (c : Fin 8) (o : Override) (x : Option DayMinute) (ok : EveryLight Q s) :
    EveryLight Q (setOverride c o x s).state := k.deriveLight c (setLight (k.alike (ok c)) ok)

theorem actLightOverride (channel mode untilMinute : Nat) (ok : EveryLight Q s) :
    EveryLight Q (actLightOverride channel mode untilMinute s).state := by
  unfold Machine.actLightOverride
  split
  · exact ok
  · split
    · exact ok
    · split
      · exact ok
      · split
        · exact ok
        · split
          · exact k.setOverride _ _ _ ok
          · split
            · exact ok
            · exact k.setOverride _ _ _ ok

theorem actLightFaultClear (channel : Nat) (ok : EveryLight Q s) : EveryLight Q (actLightFaultClear channel s).state := by
  unfold Machine.actLightFaultClear
  split
  · exact ok
  next c _ =>
    dsimp only
    split
    · exact ok
    · exact k.deriveLight c (.of_frame (channelNotice_frame _ _ _ _ _) (setLight (k.rested _ _ _) ok))

theorem recomputeWindows (old : List (Fin 96)) (ok : EveryLight Q s) : EveryLight Q (recomputeWindows old s) := by
  unfold Machine.recomputeWindows
  dsimp only
  split
  · exact ok
  · exact foldl_keeps (fun _ c => k.deriveLight c) _ (EveryLight.of_frame (withCal_frame s _) ok)

theorem actEventWrite (a : EventArgs) (ok : EveryLight Q s) : EveryLight Q (actEventWrite a s).state := by
  unfold Machine.actEventWrite
  split
  · exact ok
  · dsimp only
    split
    · split
      · exact ok
      · exact k.recomputeWindows _ (EveryLight.of_frame (State.setEvent_frame s _ _) ok)
    · exact ok

theorem actEventDelete (event revision : Nat) (ok : EveryLight Q s) : EveryLight Q (actEventDelete event revision s).state := by
  unfold Machine.actEventDelete
  split
  · exact ok
  · dsimp only
    split
    · exact ok
    · split
      · exact ok
      · exact k.recomputeWindows _ (EveryLight.of_frame (State.setEvent_frame s _ _) ok)

/-! ### Blocks and commands -/

theorem resetKeep : ResetKeep (EveryLight Q) where
  own h ok := k.passes h ok
  full d s ok := .of_frame (fullCause_frame s d) ok
  continuing d s ok := .of_frame (continuingCause_frame s d) ok
  quarter l s ok := .of_frame (quarterBoundary_frame s l) ok
  step delta l s ok := .of_frame (quarterStep_frame s delta l) ok
  hand n s ok := .of_frame (handEvent_frame s n) ok
  derive c _ ok := k.deriveLight c ok
  expire c _ ok := k.overrideTest c ok
  hold h ok := .of_frame h ok
  bell b s ok := .of_frame (bellCompletion_frame s b) ok
  swing b s ok := .of_frame (swingCompletion_frame s b) ok
  report c _ ok := k.resetNotice c ok
  restrike c _ ok := k.restrikeExpiry c ok

theorem after_request {i : Instr} {x : Req × Port × Byte} (spelled : i.request = some x) (ok : EveryLight Q s) :
    EveryLight Q (after i s) := by
  have now : (after i s).now = s.now := (now_of_clock (after_request_samePace spelled s).1).1
  by_cases writer : Part.lights ∈ writes i
  · have port (p : Port) (r : LinkPort) (u : State) : EveryLight Q u → EveryLight Q (u.setPort p r) := id
    cases i with
    | eventWrite p tag args => exact request_keeps (port p) (k.actEventWrite args) ok
    | eventDelete p tag event revision => exact request_keeps (port p) (k.actEventDelete event revision) ok
    | lightConfig p tag args => exact request_keeps (port p) (k.actLightConfig args) ok
    | lightOverride p tag channel mode untilMinute =>
      exact request_keeps (port p) (k.actLightOverride channel mode untilMinute) ok
    | lightFaultClear p tag channel => exact request_keeps (port p) (k.actLightFaultClear channel) ok
    | _ => first | (simp [writes] at writer; done) | cases spelled
  · have supply : Part.supply ∉ writes i := by cases i <;> first | (simp [writes]; done) | cases spelled
    intro c
    rw [now, State.onMains, (after_frame i s).supply supply, State.light, (after_frame i s).lights writer]
    exact ok c

omit k in
/-- Only a cold start, the loss and the return of mains move the supply state. -/
theorem after_onMains {c : Instr} (cold : c ≠ .coldStart) (lost : c ≠ .mainsLost) (restored : c ≠ .mainsRestored)
    (s : State) : (after c s).onMains = s.onMains := by
  by_cases writer : Part.supply ∈ writes c
  · have reported (u : State) : (reportLow u).onMains = u.onMains := by
      unfold reportLow
      split
      · rw [State.onMains, (post_frame _ _ _ _).supply]
        rfl
      · rfl
    cases c with
    | mainsOkChange high =>
      show (mainsOkChange high s).onMains = _
      unfold mainsOkChange
      split <;> rfl
    | battLowChange asserted =>
      show (battLowChange asserted s).onMains = _
      unfold battLowChange
      split <;> rfl
    | batteryLowSettled =>
      show (batteryLowSettled s).onMains = _
      unfold batteryLowSettled
      split
      · rfl
      · rw [reported]
        rfl
    | coldStart => exact absurd rfl cold
    | mainsLost => exact absurd rfl lost
    | mainsRestored => exact absurd rfl restored
    | _ => simp [writes] at writer
  · rw [State.onMains, (after_frame c s).supply writer]
    rfl

/-- Every command keeps a property of the channels, but for a cold start, the loss and the return of mains. -/
theorem after {c : Instr} (cold : c ≠ .coldStart) (lost : c ≠ .mainsLost) (restored : c ≠ .mainsRestored)
    (ok : EveryLight Q s) : EveryLight Q (after c s) := by
  by_cases writer : Part.lights ∈ writes c
  · cases c with
    | coldStart => exact absurd rfl cold
    | mainsLost => exact absurd rfl lost
    | mainsRestored => exact absurd rfl restored
    | localSecondBoundary => exact k.resetKeep.localSecondBoundary ok
    | offsetChangeApplied => exact k.resetKeep.offsetChangeApplied ok
    | refPulse => exact k.resetKeep.refPulse ok
    | overrideExpiry c => exact k.overrideExpiry c ok
    | warmupEnd c => exact k.warmupEnd c ok
    | restrikeExpiry c => exact k.restrikeExpiry c ok
    | senseWatchStart c => exact k.senseWatchStart c ok
    | lampSenseChange c current => exact k.lampSenseChange c current ok
    | lampFailed c => exact k.lampFailed c ok
    | warmResetEntry => exact k.warmResetEntry ok
    | warmResetCompletion => exact k.resetKeep.warmResetCompletion ok
    | frameComplete p bytes =>
      exact frameComplete_keeps (P := EveryLight Q) (fun _ _ => id)
        (fun _ _ _ _ spelled ok => k.after_request spelled ok) bytes s ok
    | _ => first | (simp [writes] at writer; done) | exact k.after_request rfl ok
  · have now : (Machine.after c s).now = s.now := by
      refine (now_of_clock (after_samePace cold ?_ ?_ ?_ s).1).1
      all_goals rintro rfl; simp [writes] at writer
    intro e
    rw [now, after_onMains cold lost restored, State.light, (after_frame c s).lights writer]
    exact ok e

/-- A property that does not depend on mains is kept by the loss and the return of mains too. -/
theorem supplyKeep (free : ∀ {now m m' r}, Q now m r → Q now m' r) : SupplyKeep (EveryLight Q) where
  toResetKeep := k.resetKeep
  supply _ _ ok := fun c => free (ok c)
  lostDial d s ok := .of_frame (dialSupplyLost_frame s d) ok
  halt b s ok := .of_frame (guardHalt_frame s b) ok
  lostSwings {s} ok := .of_frame (swingsSupplyLost_frame s) ok
  lostStrike {s} ok := .of_frame (strikeSupplyLost_frame s) ok
  lostLight c _ ok := k.lightSupplyLost c ok
  resume b s ok := .of_frame (guardResume_frame s b) ok

theorem step_of_mainsFree (free : ∀ {now m m' r}, Q now m r → Q now m' r) (cold : ∀ l q, EveryLight Q (coldState l q))
    {t : State} (ok : EveryLight Q s) (ran : step s = .next t) : EveryLight Q t := by
  refine step_keeps (P := EveryLight Q) (fun _ _ => id) (fun u _ ok c => k.later ?_ (ok c)) (fun c u ok => ?_) ok ran
  · simp only [State.now, TimeBase.tick]
    split
    · exact Nat.le_succ _
    · exact Nat.le_refl _
  · by_cases starts : c = .coldStart
    · exact starts ▸ cold _ _
    · by_cases lost : c = .mainsLost
      · exact lost ▸ (k.supplyKeep free).mainsLost ok
      · by_cases restored : c = .mainsRestored
        · exact restored ▸ (k.supplyKeep free).mainsRestored ok
        · exact k.after starts lost restored ok

end LightRule

/-! ### Two invariants of the channels -/

/-- A channel that is not configured is OFF or COOLING (R162). -/
def OffUnconfigured (_ : Instant) (_ : Bool) (r : Channel) : Prop :=
  r.configured = false → r.state = .off ∨ r.state = .cooling

theorem offUnconfigured_rule : LightRule OffUnconfigured where
  later _ h := h
  same configured state _ h := by
    rw [OffUnconfigured, configured, state]
    exact h
  on configured _ _ _ unconfigured := absurd (configured.symm.trans unconfigured) (by decide)
  warmed warming h unconfigured := by simpa [warming] using h unconfigured
  off cause r _ := by
    by_cases zero : r.restrike = 0 <;> simp [Channel.switchedOff, zero]
  failed lit h unconfigured := by simpa [lit] using h unconfigured
  rested now _ r _ := by
    split <;> simp
  config c free h := by
    rintro rfl
    rcases free with same | off
    · exact h same
    · exact .inl off

theorem step_channelsOk {t : State} (ok : ChannelsOk s) (ran : step s = .next t) : ChannelsOk t :=
  offUnconfigured_rule.step_of_mainsFree (fun h => h) coldState_channelsOk ok ran

/-- A channel that is on, or free to be switched on, has its restrike time behind it (R166, R168). -/
def RestrikeBehind (now : Instant) (_ : Bool) (r : Channel) : Prop :=
  r.state ≠ .cooling → r.state ≠ .failed → ∀ x, r.restrikeExpiry = some x → x ≤ now

theorem le_of_reached {x now : Instant} (h : reached (some x) now = true) : x ≤ now := of_decide_eq_true h

theorem restrikeBehind_rule : LightRule RestrikeBehind where
  later passes h cooling failed x expiry := Nat.le_trans (h cooling failed x expiry) passes
  same _ state restrike h := by
    rw [RestrikeBehind, state, restrike]
    exact h
  on _ free _ h _ _ x expiry := by
    rcases free with off | ⟨-, past⟩
    · exact h (by simp [off]) (by simp [off]) x expiry
    · exact le_of_reached (expiry ▸ past)
  warmed warming h _ _ := h (by simp [warming]) (by simp [warming])
  off cause r cooling _ x expiry := by
    by_cases zero : r.restrike = 0
    · simp only [Channel.switchedOff, zero, Nat.zero_mul, Nat.add_zero, Option.some.injEq] at expiry
      exact Nat.le_of_eq expiry.symm
    · simp [Channel.switchedOff, zero] at cooling
  failed _ _ _ failed := absurd rfl failed
  rested now _ r cooling _ x expiry := by
    cases due : reached r.restrikeExpiry now
    · simp [due] at cooling
    · exact le_of_reached (expiry ▸ due)
  config _ _ h := h

theorem step_lampsOk {t : State} (ok : LampsOk s) (ran : step s = .next t) : LampsOk t :=
  restrikeBehind_rule.step_of_mainsFree (fun h => h) coldState_lampsOk ok ran

/-- Settles O36: each record family keeps its invariant by the rules of its writers. -/
theorem recordsKeepTheirRanges : Obligations.RecordsKeepTheirRanges :=
  ⟨⟨fun _ _ => step_dialsOk, fun _ _ => step_poolOk⟩, ⟨fun _ _ => step_queueOk, fun _ _ => step_sharesOk⟩,
    fun _ _ => step_channelsOk⟩

end Sys2Proof.Machine
end

section
/-! SUPPORT. On battery no guard drive and no swing motor is turned on (R80, R89, R97): the operations of the bells one by
one. A guard in motion is driven only where the motion runs. -/

namespace Sys2Proof.Machine

set_option Elab.async false

/-- A guard whose outputs are released. -/
def GuardOff (g : Guard) : Prop := ¬ (g.motion = .running ∧ (g.state = .engaging ∨ g.state = .releasing))

theorem guardOff_of_motion {g : Guard} (h : g.motion ≠ .running) : GuardOff g := fun on => h on.1

/-- On battery every guard drive and every motor is off. -/
def DrivesDark (s : State) : Prop := s.onMains = false → ∀ b, GuardOff (s.bell b).guard ∧ (s.swing b).motor = false

/-- On battery every motor is off, and every guard drive but one bell's. -/
def DrivesDarkBut (b : Fin 16) (s : State) : Prop :=
  s.onMains = false → ∀ c, (c ≠ b → GuardOff (s.bell c).guard) ∧ (s.swing c).motor = false

variable {s : State}

theorem DrivesDark.but (b : Fin 16) (ok : DrivesDark s) : DrivesDarkBut b s :=
  fun battery c => ⟨fun _ => (ok battery c).1, (ok battery c).2⟩

theorem Frame.drivesDark {ps : List Part} {s t : State} (h : Frame ps s t) (ok : DrivesDark s)
    (guards : Part.guards ∉ ps := by decide) (swings : Part.swings ∉ ps := by decide)
    (supply : Part.supply ∉ ps := by decide) : DrivesDark t := by
  intro battery b
  rw [State.onMains, h.supply supply] at battery
  rw [h.guard b guards, State.swing, h.swings swings]
  exact ok battery b

theorem setGuard_drivesDarkBut (b : Fin 16) (g : Guard) (ok : DrivesDark s) : DrivesDarkBut b (s.setGuard b g) := by
  intro battery c
  refine ⟨fun other => ?_, (ok battery c).2⟩
  rw [State.setGuard, State.setBell_bell, if_neg other]
  exact (ok battery c).1

theorem setGuard_drivesDark {b : Fin 16} {g : Guard} (off : s.onMains = false → GuardOff g) (ok : DrivesDarkBut b s) :
    DrivesDark (s.setGuard b g) := by
  intro battery c
  refine ⟨?_, (ok battery c).2⟩
  rw [State.setGuard, State.setBell_bell]
  split
  · exact off battery
  next other => exact (ok battery c).1 other

theorem setSwing_drivesDark {b : Fin 16} {w : Swing} (off : s.onMains = false → w.motor = false) (ok : DrivesDark s) :
    DrivesDark (s.setSwing b w) := by
  intro battery c
  refine ⟨(ok battery c).1, ?_⟩
  by_cases same : c = b
  · rw [same, State.setSwing_swing_self]
    exact off battery
  · rw [State.setSwing_swing_ne _ (Ne.symm same)]
    exact (ok battery c).2

/-- A swing record written with its motor as it was. -/
theorem setSwing_drivesDark_same {b : Fin 16} {w : Swing} (ok : DrivesDark s) (motor : w.motor = (s.swing b).motor := by rfl) :
    DrivesDark (s.setSwing b w) := setSwing_drivesDark (fun battery => motor.trans (ok battery b).2) ok

/-! ### Starts and guard motions -/

theorem onMains_of_startable {n : Fin 4} {b : Fin 16} (h : startable n s = some b) : s.onMains = true := by
  unfold startable at h
  dsimp only at h
  split at h
  next ready => exact ready.2.2
  · cases h

theorem tryStart_drivesDark (n : Fin 4) (ok : DrivesDark s) : DrivesDark (tryStart n s) := by
  unfold tryStart
  split
  next b start =>
    have mains := onMains_of_startable start
    exact (State.setSession_frame _ _ _).drivesDark
      (setSwing_drivesDark (fun battery => absurd (mains.symm.trans battery) (by decide)) ok)
  · exact ok

theorem tryStartOf_drivesDark (b : Fin 16) (ok : DrivesDark s) : DrivesDark (tryStartOf b s) := by
  unfold tryStartOf
  split
  · exact tryStart_drivesDark _ ok
  · exact ok

theorem guardComplete_drivesDark (b : Fin 16) (ok : DrivesDarkBut b s) : DrivesDark (guardComplete b s) :=
  tryStartOf_drivesDark b ((post_frame _ _ _ _).drivesDark (setGuard_drivesDark (fun _ => guardOff_of_motion (by simp)) ok))

/-- The beginning of a motion runs it on mains alone (R75). -/
theorem guardBegin_drivesDark (b : Fin 16) (ok : DrivesDarkBut b s) : DrivesDark (guardBegin b s) := by
  unfold guardBegin
  dsimp only
  split
  · exact setGuard_drivesDark (fun _ => guardOff_of_motion (by simp)) ok
  · split
    · exact setGuard_drivesDark (fun _ => guardOff_of_motion (by simp)) ok
    next mains =>
      split
      · exact guardComplete_drivesDark b ok
      · exact setGuard_drivesDark (fun battery => absurd (by simp [battery]) mains) ok

/-- A guard that keeps its state and its motion is driven as it was. -/
theorem setGuard_drivesDark_same {b : Fin 16} {g : Guard} (ok : DrivesDark s)
    (state : g.state = (s.bell b).guard.state := by rfl) (motion : g.motion = (s.bell b).guard.motion := by rfl) :
    DrivesDark (s.setGuard b g) :=
  setGuard_drivesDark (fun battery => by rw [GuardOff, state, motion]; exact (ok battery b).1) (ok.but b)

theorem guardEngage_drivesDark (b : Fin 16) (ok : DrivesDark s) : DrivesDark (guardEngage b s) := by
  unfold guardEngage
  dsimp only
  split
  · exact ok
  · split
    · exact guardBegin_drivesDark b (setGuard_drivesDarkBut b _ ok)
    · exact guardBegin_drivesDark b (setGuard_drivesDarkBut b _ ok)
    all_goals exact setGuard_drivesDark_same ok

theorem guardRelease_drivesDark (b : Fin 16) (ok : DrivesDark s) : DrivesDark (guardRelease b s) := by
  have sets (dir : Direction) : DrivesDark (s.setGuard b { (s.bell b).guard with direction := dir }) :=
    setGuard_drivesDark_same ok
  have begins (g : Guard) : DrivesDark (guardBegin b (s.setGuard b g)) :=
    guardBegin_drivesDark b (setGuard_drivesDarkBut b g ok)
  unfold guardRelease
  dsimp only
  split
  · exact ok
  · split
    · split
      · exact begins _
      · exact sets _
    · split
      · exact begins _
      · exact sets _
    all_goals exact sets _

/-! ### Holders, motors and sessions -/

theorem setHolder_drivesDark (b : Fin 16) (h : Holder) (ok : DrivesDark s) : DrivesDark (setHolder b h s) := by
  have changed : DrivesDark (changeHolder b h s) := (changeHolder_frame s b h).drivesDark ok
  unfold setHolder
  dsimp only
  split
  · exact ok
  · split
    · exact guardRelease_drivesDark b changed
    · split
      · exact guardEngage_drivesDark b changed
      · exact changed

theorem motorOff_drivesDark (b : Fin 16) (ok : DrivesDark s) : DrivesDark (motorOff b s) := by
  unfold motorOff
  dsimp only
  split
  · exact setSwing_drivesDark (fun _ => rfl) ok
  · exact setSwing_drivesDark (fun _ => rfl) ok

theorem afterLeaving_drivesDark (n : Fin 4) (ok : DrivesDark s) : DrivesDark (afterLeaving n s) := by
  unfold afterLeaving
  dsimp only
  split
  · exact ok
  · split
    · exact (endSession_frame s n).drivesDark ok
    · exact tryStart_drivesDark n ((settleStopSlot_frame _ n).drivesDark ((State.setSession_frame s n _).drivesDark ok))

theorem leaveEarly_drivesDark (b : Fin 16) (h : Holder) (ok : DrivesDark s) : DrivesDark (leaveEarly b h s) := by
  unfold leaveEarly
  split
  · exact afterLeaving_drivesDark _ ((post_frame _ _ _ _).drivesDark ((State.setSession_frame _ _ _).drivesDark
      (setHolder_drivesDark b h (motorOff_drivesDark b ok))))
  · exact motorOff_drivesDark b ok

theorem guardFault_drivesDark (b : Fin 16) (c : GuardCause) (ok : DrivesDark s) : DrivesDark (guardFault b c s) :=
  leaveEarly_drivesDark b .free ((post_frame _ _ _ _).drivesDark
    (setGuard_drivesDark (fun _ => guardOff_of_motion (by simp)) (ok.but b)))

theorem readGuard_drivesDark (b : Fin 16) (ok : DrivesDark s) : DrivesDark (readGuard b s) := by
  have read (st : GuardState) (dir : Direction) : DrivesDark (s.setGuard b
      { (s.bell b).guard with state := st, direction := dir, motion := .idle, deadline := none }) :=
    setGuard_drivesDark (fun _ => guardOff_of_motion (by simp)) (ok.but b)
  unfold readGuard
  dsimp only
  generalize (match (s.bell b).guard.atEng.settled, (s.bell b).guard.atDis.settled with
    | true, false => GuardState.engaged
    | false, true => GuardState.disengaged
    | _, _ => GuardState.fault) = st
  split
  · exact (post_frame _ _ _ _).drivesDark (read _ _)
  · split
    · exact read _ _
    · exact guardEngage_drivesDark b (read _ _)
  · exact guardRelease_drivesDark b (read _ _)

theorem enterAtRest_drivesDark (b : Fin 16) (ok : DrivesDark s) : DrivesDark (enterAtRest b s) :=
  setSwing_drivesDark_same ok

theorem swingFault_drivesDark (b : Fin 16) (c : SwingFault) (ok : DrivesDark s) : DrivesDark (swingFault b c s) :=
  leaveEarly_drivesDark b .free ((post_frame _ _ _ _).drivesDark (setSwing_drivesDark (fun _ => rfl) ok))

theorem enterStopping_drivesDark (n : Fin 4) (c : EndCause) (ok : DrivesDark s) : DrivesDark (enterStopping n c s) := by
  have freed (u : State) (bs : List (Fin 16)) (ok : DrivesDark u) :
      DrivesDark (settleStopSlot n (bs.foldl (fun s b => setHolder b .free s) u)) :=
    (settleStopSlot_frame _ n).drivesDark (foldl_keeps (P := DrivesDark) (fun _ b => setHolder_drivesDark b .free) bs ok)
  unfold enterStopping
  dsimp only
  split
  · exact (endSession_frame _ n).drivesDark (freed _ _ ((State.setSession_frame s n _).drivesDark ok))
  · exact freed _ _ ((State.setSession_frame s n _).drivesDark ok)

theorem handFault_drivesDark (b : Fin 16) (ok : DrivesDark s) : DrivesDark (handFault b s) := by
  unfold handFault
  split
  · exact leaveEarly_drivesDark b .free ok
  · exact ok

theorem createIn_drivesDark (n : Fin 4) (origin : SessionOrigin) (mask : BitVec 16) (stagger duration : Nat)
    (ok : DrivesDark s) : DrivesDark (createIn n origin mask stagger duration s) := by
  unfold createIn
  refine tryStart_drivesDark n (foldl_keeps (P := DrivesDark) (fun _ b => handFault_drivesDark b) _ ?_)
  have taken (bs : List (Fin 16)) (r : Session) : DrivesDark
      (bs.foldl (fun s b => setHolder b (.service n) s) (s.setSession n r)) :=
    foldl_keeps (P := DrivesDark) (fun _ b => setHolder_drivesDark b _) bs ((State.setSession_frame s n r).drivesDark ok)
  split
  · exact (post_frame _ _ _ _).drivesDark (taken _ _)
  · exact (post_frame _ _ _ _).drivesDark ((post_frame _ _ _ _).drivesDark (taken _ _))

theorem createSession_drivesDark (origin : SessionOrigin) (mask : BitVec 16) (stagger duration : Nat)
    (ok : DrivesDark s) : DrivesDark (createSession origin mask stagger duration s).1 := by
  unfold createSession
  split
  · exact ok
  · split
    · exact ok
    · split
      · exact ok
      · exact createIn_drivesDark _ _ _ _ _ ok

/-! ### Events of guards and swings -/

theorem contactTaken_drivesDark (b : Fin 16) (c : Contact) (closed : Bool) (ok : DrivesDark s) :
    DrivesDark (contactTaken b c closed s) := by
  have completes : DrivesDark (if (s.bell b).guard.motion = .running then guardComplete b s else s) := by
    split
    · exact guardComplete_drivesDark b (ok.but b)
    · exact ok
  unfold contactTaken
  dsimp only
  split
  · exact ok
  · split
    · exact guardFault_drivesDark b _ ok
    · exact guardFault_drivesDark b _ ok
    · exact completes
    · exact completes
    · exact ok

theorem setContact_motion (g : Guard) (c : Contact) (l : ContactLevel) :
    (g.setContact c l).state = g.state ∧ (g.setContact c l).motion = g.motion := by
  cases c <;> exact ⟨rfl, rfl⟩

theorem guardContactChange_drivesDark (b : Fin 16) (c : Contact) (closed : Bool) (ok : DrivesDark s) :
    DrivesDark (guardContactChange b c closed s) := by
  unfold guardContactChange
  split
  · exact ok
  · exact setGuard_drivesDark_same ((State.setLines_frame s _).drivesDark ok) (setContact_motion _ _ _).1
      (setContact_motion _ _ _).2

theorem guardContactSettled_drivesDark (b : Fin 16) (c : Contact) (ok : DrivesDark s) :
    DrivesDark (guardContactSettled b c s) := by
  unfold guardContactSettled
  dsimp only
  split
  · exact ok
  · exact contactTaken_drivesDark b c _ (setGuard_drivesDark_same ok (setContact_motion _ _ _).1 (setContact_motion _ _ _).2)

theorem guardTravelTimeout_drivesDark (b : Fin 16) (ok : DrivesDark s) : DrivesDark (guardTravelTimeout b s) := by
  unfold guardTravelTimeout
  dsimp only
  split
  · exact ok
  · exact guardFault_drivesDark b _ ok

theorem pulseTaken_drivesDark (b : Fin 16) (interval : Option Nat) (ok : DrivesDark s) :
    DrivesDark (pulseTaken b interval s) := by
  unfold pulseTaken
  dsimp only
  split
  · split
    · exact (post_frame _ _ _ _).drivesDark (setSwing_drivesDark_same ok)
    · exact setSwing_drivesDark_same ok
  · exact setSwing_drivesDark_same ok
  · exact setSwing_drivesDark_same ok
  · split
    · exact ok
    · split
      · exact setSwing_drivesDark_same ok
      · split
        · exact (post_frame _ _ _ _).drivesDark (setSwing_drivesDark_same ok)
        · exact setSwing_drivesDark_same ok
  · exact ok
  · exact ok

theorem sensorPulse_drivesDark (b : Fin 16) (ok : DrivesDark s) : DrivesDark (sensorPulse b s) := by
  unfold sensorPulse
  dsimp only
  split
  · exact ok
  · split
    · exact pulseTaken_drivesDark b none (setSwing_drivesDark_same ok)
    · split
      · exact ok
      · exact pulseTaken_drivesDark b _ (setSwing_drivesDark_same ok)

theorem driftSettled_drivesDark (b : Fin 16) (ok : DrivesDark s) : DrivesDark (driftSettled b s) := by
  unfold driftSettled
  dsimp only
  split
  · exact ok
  · exact tryStartOf_drivesDark b (guardRelease_drivesDark b ((post_frame _ _ _ _).drivesDark (enterAtRest_drivesDark b ok)))

theorem stopSettled_drivesDark (b : Fin 16) (ok : DrivesDark s) : DrivesDark (stopSettled b s) := by
  have rested := (post_frame (enterAtRest b s) .bellAtRest (b.1 + 1) (pair 0 SwingState.stopping.code)).drivesDark
    (enterAtRest_drivesDark b ok)
  unfold stopSettled
  dsimp only
  split
  · exact ok
  · split
    · split
      · exact tryStart_drivesDark _ rested
      · exact guardRelease_drivesDark b (afterLeaving_drivesDark _ ((State.setSession_frame _ _ _).drivesDark
          ((changeHolder_frame _ b .free).drivesDark rested)))
    · exact guardRelease_drivesDark b rested

theorem startTimeout_drivesDark (b : Fin 16) (ok : DrivesDark s) : DrivesDark (startTimeout b s) := by
  unfold startTimeout
  dsimp only
  split
  · exact ok
  · exact swingFault_drivesDark b _ ok

theorem swingLost_drivesDark (b : Fin 16) (ok : DrivesDark s) : DrivesDark (swingLost b s) := by
  unfold swingLost
  split
  · exact ok
  · exact swingFault_drivesDark b _ ok

theorem sessionStartSlot_drivesDark (n : Fin 4) (ok : DrivesDark s) : DrivesDark (sessionStartSlot n s) := by
  unfold sessionStartSlot
  split
  · exact ok
  · exact tryStart_drivesDark n ok

theorem sessionEndTime_drivesDark (n : Fin 4) (ok : DrivesDark s) : DrivesDark (sessionEndTime n s) := by
  unfold sessionEndTime
  dsimp only
  split
  · exact ok
  · exact enterStopping_drivesDark n _ ok

theorem sessionStopSlot_drivesDark (n : Fin 4) (ok : DrivesDark s) : DrivesDark (sessionStopSlot n s) := by
  unfold sessionStopSlot
  dsimp only
  split
  · exact ok
  · split
    · exact (settleStopSlot_frame s n).drivesDark ok
    · exact (settleStopSlot_frame _ n).drivesDark ((State.setSession_frame _ n _).drivesDark (motorOff_drivesDark _ ok))

/-! ### Supply, warm reset and hammers -/

theorem guardHalt_drivesDark (b : Fin 16) (ok : DrivesDark s) : DrivesDark (guardHalt b s) := by
  unfold guardHalt
  dsimp only
  split
  · exact setGuard_drivesDark (fun _ => guardOff_of_motion (by simp)) (ok.but b)
  · exact ok

theorem guardResume_drivesDark (b : Fin 16) (ok : DrivesDark s) : DrivesDark (guardResume b s) := by
  unfold guardResume
  split
  · exact guardBegin_drivesDark b (ok.but b)
  · exact ok

theorem sessionSupplyLost_drivesDark (n : Fin 4) (ok : DrivesDark s) : DrivesDark (sessionSupplyLost n s) := by
  unfold sessionSupplyLost
  split
  · exact enterStopping_drivesDark n _ ok
  · exact enterStopping_drivesDark n _ ok
  · exact (settleStopSlot_frame s n).drivesDark ok
  · exact ok

theorem bellCompletion_drivesDark (b : Fin 16) (ok : DrivesDark s) : DrivesDark (bellCompletion b s) := by
  unfold bellCompletion
  dsimp only
  split
  · exact readGuard_drivesDark b (setGuard_drivesDark_same ok)
  · exact setGuard_drivesDark_same ok

theorem swingCompletion_drivesDark (b : Fin 16) (ok : DrivesDark s) : DrivesDark (swingCompletion b s) :=
  setSwing_drivesDark_same ok

/-- A bell record written with its guard as it was. -/
theorem setBell_drivesDark {b : Fin 16} {r : Bell} (ok : DrivesDark s) (guard : r.guard = (s.bell b).guard := by rfl) :
    DrivesDark (s.setBell b r) := by
  intro battery c
  refine ⟨?_, (ok battery c).2⟩
  rw [State.setBell_bell]
  split
  next same =>
    rw [guard, ← same]
    exact (ok battery c).1
  · exact (ok battery c).1

theorem releaseHammer_drivesDark (b : Fin 16) (ok : DrivesDark s) : DrivesDark (releaseHammer b s) := by
  unfold releaseHammer
  dsimp only
  split
  · exact ok
  · split
    · exact guardBegin_drivesDark b ((setBell_drivesDark ok).but b)
    · exact setBell_drivesDark ok

/-! ### Requests -/

theorem decideBells_keeps {P : State → Prop} {f : Fin 16 → State → State × Option Status}
    (h : ∀ b s, P s → P (f b s).1) (bs : List (Fin 16)) {s : State} (ok : P s) : P (decideBells f bs s).1 := by
  induction bs generalizing s with
  | nil => exact ok
  | cons b bs ih => exact ih (h b s ok)

theorem claimBell_drivesDark (p : Port) (ropes : Bool) (b : Fin 16) (ok : DrivesDark s) :
    DrivesDark (claimBell p ropes b s).1 := by
  unfold claimBell
  dsimp only
  split
  · split
    · split
      · exact setHolder_drivesDark b _ ok
      · exact ok
    · exact setHolder_drivesDark b _ ok
  · split
    · exact ok
    · exact leaveEarly_drivesDark b _ ok
  · split <;> exact ok
  · split <;> exact ok

theorem actClaim_drivesDark (p : Port) (kind mask : Nat) (ok : DrivesDark s) : DrivesDark (actClaim p kind mask s).state := by
  unfold actClaim
  split
  · exact ok
  · split
    · exact ok
    · exact decideBells_keeps (fun b _ => claimBell_drivesDark p _ b) _ ok

theorem releaseBell_drivesDark (p : Port) (b : Fin 16) (ok : DrivesDark s) : DrivesDark (releaseBell p b s).1 := by
  unfold releaseBell
  split
  · exact ok
  · exact ok
  · split
    · exact setHolder_drivesDark b _ ok
    · exact ok
  · split
    · exact setHolder_drivesDark b _ ok
    · exact ok

theorem actRelease_drivesDark (p : Port) (mask : Nat) (ok : DrivesDark s) : DrivesDark (actRelease p mask s).state := by
  unfold actRelease
  split
  · exact ok
  · exact decideBells_keeps (fun b _ => releaseBell_drivesDark p b) _ ok

theorem writeBell_drivesDark (b : Fin 16) (c : BellConfig) (ok : DrivesDark s) : DrivesDark (writeBell b c s) := by
  have sensed : DrivesDark (if (s.bell b).config.sensor && !c.sensor then
      (s.setBell b { s.bell b with config := c }).setSwing b { (s.setBell b { s.bell b with config := c }).swing b with
        history := [], lastPulse := none } else s.setBell b { s.bell b with config := c }) := by
    split
    · exact setSwing_drivesDark_same (setBell_drivesDark ok)
    · exact setBell_drivesDark ok
  unfold writeBell
  dsimp only
  split
  · exact setGuard_drivesDark (fun _ => guardOff_of_motion (by simp)) (sensed.but b)
  · split
    · exact readGuard_drivesDark b sensed
    · exact sensed

theorem actBellConfig_drivesDark (a : BellArgs) (ok : DrivesDark s) : DrivesDark (actBellConfig a s).state := by
  unfold actBellConfig
  split
  · exact ok
  · dsimp only
    split
    · exact ok
    · split
      · exact ok
      · split
        · exact ok
        · exact writeBell_drivesDark _ _ ok

theorem clearSwing_drivesDark (b : Fin 16) (ok : DrivesDark s) : DrivesDark (clearSwing b s).1 := by
  unfold clearSwing
  dsimp only
  split
  · exact setSwing_drivesDark_same ok
  · exact ok

theorem clearGuard_drivesDark (b : Fin 16) (ok : DrivesDark s) : DrivesDark (clearGuard b s).1 := by
  unfold clearGuard
  dsimp only
  split
  · exact ok
  · split
    · exact guardBegin_drivesDark b (setGuard_drivesDarkBut b _ ok)
    · split
      · exact guardBegin_drivesDark b (setGuard_drivesDarkBut b _ ok)
      · exact ok

theorem actBellFaultClear_drivesDark (bell : Nat) (ok : DrivesDark s) : DrivesDark (actBellFaultClear bell s).state := by
  unfold actBellFaultClear
  split
  · exact ok
  · dsimp only
    split
    · exact clearGuard_drivesDark _ (clearSwing_drivesDark _ ok)
    · exact ok

theorem actRingStart_drivesDark (mask stagger duration : Nat) (ok : DrivesDark s) :
    DrivesDark (actRingStart mask stagger duration s).state := by
  unfold actRingStart
  split
  · exact ok
  · dsimp only
    have made := createSession_drivesDark .manual (BitVec.ofNat 16 mask) (clamp 2 30 stagger)
      (clamp 1 60 duration * 60000) ok
    split
    · exact ok
    · exact ok
    · exact ok
    next pair =>
      rw [pair] at made
      exact made

theorem actRingCancel_drivesDark (session : Nat) (ok : DrivesDark s) : DrivesDark (actRingCancel session s).state := by
  unfold actRingCancel
  split
  · exact ok
  · dsimp only
    split
    · exact ok
    · exact ok
    · exact enterStopping_drivesDark _ _ ok

theorem handEvent_drivesDark (n : Fin 96) (ok : DrivesDark s) : DrivesDark (handEvent n s).1 := by
  unfold handEvent
  dsimp only
  split
  next mask stagger _ =>
    have made := createSession_drivesDark (.event n) mask stagger ((s.event n).duration * 60000) ok
    split
    all_goals next pair =>
      rw [pair] at made
      exact made
  next b interval count _ =>
    have started := (startToll_frame s b interval count (min 240 (s.event n).duration) (.event n)).drivesDark ok
    split
    all_goals next pair =>
      rw [pair] at started
      exact started
  · exact (playTune_frame s n _).drivesDark ok
  · exact ok
  · exact ok

end Sys2Proof.Machine
end

section
/-! SUPPORT. On battery no hammer and no dial pair is driven (R46, R136), and no lamp is on (R166, R173). -/

namespace Sys2Proof.Machine

set_option Elab.async false

variable {s : State}

/-! ### Hammers -/

/-- On battery no hammer is energised. -/
def HammersDark (s : State) : Prop := s.onMains = false → ∀ b, (s.bell b).pulseEnd = none

theorem Frame.hammersDark {ps : List Part} {s t : State} (h : Frame ps s t) (ok : HammersDark s)
    (hammers : Part.hammers ∉ ps := by decide) (supply : Part.supply ∉ ps := by decide) : HammersDark t := by
  intro battery b
  rw [State.onMains, h.supply supply] at battery
  rw [h.pulseEnd b hammers]
  exact ok battery b

theorem onMains_of_strikeable {b : Fin 16} (h : strikeFail b s = none) : s.onMains = true := by
  simp only [strikeFail] at h
  split_ifs at h with _ _ _ _ battery
  simpa using battery

/-- A pulse begins on mains alone (R133). -/
theorem hammersDark_servingKeeps : ServingKeeps HammersDark where
  quiet h ok := h.hammersDark ok
  pulse _ _ strikeable _ _ _ battery := absurd ((onMains_of_strikeable strikeable).symm.trans battery) (by decide)

theorem releaseHammer_pulseEnd (b : Fin 16) (s : State) : ((releaseHammer b s).bell b).pulseEnd = none := by
  have released : ((s.setBell b { s.bell b with pulseEnd := none }).bell b).pulseEnd = none := by
    rw [State.setBell_bell, if_pos rfl]
  unfold releaseHammer
  dsimp only
  split
  next idle => exact Option.isNone_iff_eq_none.1 idle
  · split
    · rw [(guardBegin_frame _ b).pulseEnd]
      exact released
    · exact released

theorem releaseHammer_idle {b c : Fin 16} (idle : (s.bell c).pulseEnd = none) :
    ((releaseHammer b s).bell c).pulseEnd = none := by
  by_cases same : c = b
  · exact same ▸ releaseHammer_pulseEnd b s
  · have kept : ((s.setBell b { s.bell b with pulseEnd := none }).bell c).pulseEnd = none := by
      rw [State.setBell_bell, if_neg same]
      exact idle
    unfold releaseHammer
    dsimp only
    split
    · exact idle
    · split
      · rw [(guardBegin_frame _ b).pulseEnd]
        exact kept
      · exact kept

theorem releaseHammer_hammersDark (b : Fin 16) (ok : HammersDark s) : HammersDark (releaseHammer b s) := by
  intro battery c
  rw [State.onMains, (releaseHammer_frame s b).supply] at battery
  exact releaseHammer_idle (ok battery c)

/-- A step over a list makes a fact about each of its elements true, if it makes it true of its own and keeps it of the
others. -/
theorem foldl_establishes {α : Type} {P : α → State → Prop} {f : State → α → State} (own : ∀ x s, P x (f s x))
    (kept : ∀ x y s, P x s → P x (f s y)) (xs : List α) (s : State) {x : α} (inside : x ∈ xs) : P x (xs.foldl f s) := by
  induction xs generalizing s with
  | nil => cases inside
  | cons y ys ih =>
    rcases List.mem_cons.1 inside with rfl | later
    · exact foldl_keeps (P := P x) (fun s y => kept x y s) ys (own x s)
    · exact ih (f s y) later

/-- The loss of mains releases every hammer, and none is energised again (R181). -/
theorem strikeSupplyLost_hammersDark (s : State) : HammersDark (strikeSupplyLost s) := by
  unfold strikeSupplyLost
  refine hammersDark_servingKeeps.takeUpEach _ ((dropHeld_frame _).hammersDark ?_)
  refine foldl_keeps (P := HammersDark) (fun s n => (endToll_frame s n _).hammersDark) _ ?_
  exact fun _ b => foldl_establishes (P := fun b s => (s.bell b).pulseEnd = none) releaseHammer_pulseEnd
    (fun _ _ _ => releaseHammer_idle) allBells s (List.mem_finRange b)

theorem hammersDark_resetKeep : ResetKeep HammersDark where
  own h ok := h.frame.hammersDark ok
  full d s ok := (fullCause_frame s d).hammersDark ok
  continuing d s ok := (continuingCause_frame s d).hammersDark ok
  quarter l s ok := (quarterBoundary_frame s l).hammersDark ok
  step delta l s ok := (quarterStep_frame s delta l).hammersDark ok
  hand n s ok := (handEvent_frame s n).hammersDark ok
  derive c s ok := (deriveLight_frame s c).hammersDark ok
  expire c s ok := (overrideTest_frame s c).hammersDark ok
  hold h ok := h.hammersDark ok
  bell b s ok := (bellCompletion_frame s b).hammersDark ok
  swing b s ok := (swingCompletion_frame s b).hammersDark ok
  report c s ok := (resetNotice_frame s c).hammersDark ok
  restrike c s ok := (restrikeExpiry_frame s c).hammersDark ok

theorem actPartConfig_hammersDark (share : Nat) (ok : HammersDark s) : HammersDark (actPartConfig share s).state :=
  hammersDark_servingKeeps.takeUpEach _ ok

/-! ### Dials -/

/-- No impulse of a dial is in flight. -/
def FlightOff (d : Fin 4) (s : State) : Prop := (s.dial d).flight = none

section
variable {d : Fin 4}

theorem setDial_flightOff {e : Fin 4} {r : Dial} (ok : FlightOff d s)
    (kept : (s.dial e).flight = none → r.flight = none := by exact fun h => h) : FlightOff d (s.setDial e r) := by
  unfold FlightOff
  by_cases same : e = d
  · subst same
    rw [State.setDial_dial_self]
    exact kept ok
  · rw [State.setDial_dial_ne _ same]
    exact ok

theorem Frame.flightOff {ps : List Part} {s t : State} (h : Frame ps s t) (ok : FlightOff d s)
    (dials : Part.dials ∉ ps := by decide) : FlightOff d t := by
  rw [FlightOff, State.dial, h.dials dials]
  exact ok

theorem enterDial_flightOff (e : Fin 4) (st : DialState) (ok : FlightOff d s) : FlightOff d (enterDial e st s) := by
  unfold enterDial
  dsimp only
  split
  · exact ok
  · exact (post_frame _ _ _ _).flightOff (setDial_flightOff ok)

theorem fullDecision_flightOff (e : Fin 4) (ok : FlightOff d s) : FlightOff d (fullDecision e s) := by
  unfold fullDecision
  split <;> exact enterDial_flightOff e _ ok

theorem continuingDecision_flightOff (e : Fin 4) (ok : FlightOff d s) : FlightOff d (continuingDecision e s) := by
  unfold continuingDecision
  split
  · exact ok
  · exact enterDial_flightOff e _ ok

theorem fullCause_flightOff (e : Fin 4) (ok : FlightOff d s) : FlightOff d (fullCause e s) := by
  unfold fullCause
  dsimp only
  split
  · exact ok
  · split
    · exact setDial_flightOff ok
    · exact fullDecision_flightOff e ok

theorem continuingCause_flightOff (e : Fin 4) (ok : FlightOff d s) : FlightOff d (continuingCause e s) := by
  unfold continuingCause
  dsimp only
  split
  · exact ok
  · split
    · exact setDial_flightOff ok
    · exact continuingDecision_flightOff e ok

theorem endDecision_flightOff (e : Fin 4) (ok : FlightOff d s) : FlightOff d (endDecision e s) := by
  unfold endDecision
  dsimp only
  split
  · exact setDial_flightOff ok
  · split
    · exact fullDecision_flightOff e (setDial_flightOff ok)
    · exact continuingDecision_flightOff e (setDial_flightOff ok)

theorem dialMissed_flightOff (e : Fin 4) (ok : FlightOff d s) : FlightOff d (dialMissed e s) := by
  have missed (n : Nat) (x : BitVec 16) :
      FlightOff d (post .dialMiss (e.1 + 1) x (s.setDial e { s.dial e with misses := n })) :=
    (post_frame _ _ _ _).flightOff (setDial_flightOff ok)
  unfold dialMissed
  dsimp only
  split
  · exact enterDial_flightOff e _ (missed _ _)
  · exact missed _ _

theorem dialImpulseEnd_flightOff (e : Fin 4) (ok : FlightOff d s) : FlightOff d (dialImpulseEnd e s) := by
  have judged (i : Impulse) : FlightOff d (judgeImpulse e i s) := by
    unfold judgeImpulse
    dsimp only
    split
    · exact setDial_flightOff ok (fun _ => rfl)
    · split
      · exact setDial_flightOff ok (fun _ => rfl)
      · exact dialMissed_flightOff e (setDial_flightOff ok (fun _ => rfl))
  unfold dialImpulseEnd
  split
  · exact ok
  · split
    · exact ok
    · exact endDecision_flightOff e (judged _)

theorem dialConfChange_flightOff (e : Fin 4) (closed : Bool) (ok : FlightOff d s) :
    FlightOff d (dialConfChange e closed s) := by
  have moved (l : Lines) : FlightOff d (s.setLines l) := ok
  unfold dialConfChange
  dsimp only
  split
  · exact moved _
  next i flying =>
    split
    · exact setDial_flightOff (moved _) (fun idle => absurd (idle.symm.trans flying) (by simp))
    · exact moved _

theorem dialSupplyLost_flightOff (e : Fin 4) (ok : FlightOff d s) : FlightOff d (dialSupplyLost e s) := by
  unfold dialSupplyLost
  dsimp only
  split
  · exact ok
  · have cut (r : Dial) (off : r.flight = none) : FlightOff d (s.setDial e r) := setDial_flightOff ok (fun _ => off)
    split
    · exact cut _ (by split <;> rfl)
    · exact endDecision_flightOff e (cut _ (by split <;> rfl))

/-- The loss of mains ends a dial's impulse (R55). -/
theorem dialSupplyLost_self (d : Fin 4) (s : State) : FlightOff d (dialSupplyLost d s) := by
  unfold dialSupplyLost
  dsimp only
  split
  next idle => exact idle
  · have cut (r : Dial) (off : r.flight = none) : FlightOff d (s.setDial d r) := by
      rw [FlightOff, State.setDial_dial_self]
      exact off
    split
    · exact cut _ (by split <;> rfl)
    · exact endDecision_flightOff d (cut _ (by split <;> rfl))

theorem actDialSet_flightOff (dial position polarity : Nat) (ok : FlightOff d s) :
    FlightOff d (actDialSet dial position polarity s).state := by
  unfold actDialSet
  split
  next e pol _ _ =>
    dsimp only
    split
    · exact ok
    · split
      · exact ok
      · have superseded (owed : Owed) : FlightOff d (s.setDial e { s.dial e with
            position := position, polarity := pol, misses := 0, owed := owed
            flight := (s.dial e).flight.map (fun i => { i with superseded := true }) }) :=
          setDial_flightOff ok (fun idle => by simp [idle])
        simp only [accept]
        split
        · exact superseded _
        · split
          · exact superseded _
          · exact fullDecision_flightOff e (superseded _)
  · exact ok

theorem actDialStop_flightOff (dial : Nat) (ok : FlightOff d s) : FlightOff d (actDialStop dial s).state := by
  unfold actDialStop
  split
  · exact ok
  · dsimp only
    split
    · exact ok
    · split
      · exact ok
      · simp only [accept]
        split
        · exact ok
        · exact enterDial_flightOff _ _ (setDial_flightOff ok)

theorem actDialStart_flightOff (dial : Nat) (ok : FlightOff d s) : FlightOff d (actDialStart dial s).state := by
  unfold actDialStart
  split
  · exact ok
  · dsimp only
    split
    · exact ok
    · split
      · exact ok
      · simp only [accept]
        split
        · split
          · exact enterDial_flightOff _ _ (setDial_flightOff ok)
          · exact setDial_flightOff ok
        · exact fullDecision_flightOff _ (setDial_flightOff ok)

theorem actDialConfig_flightOff (a : DialArgs) (ok : FlightOff d s) : FlightOff d (actDialConfig a s).state := by
  unfold actDialConfig
  split
  · dsimp only
    split
    · exact ok
    · simp only [accept, writeDial]
      split
      · exact setDial_flightOff ok
      · exact enterDial_flightOff _ _ (setDial_flightOff ok (fun _ => rfl))
  · exact ok

end

/-- On battery no impulse is in flight. -/
def DialsDark (s : State) : Prop := s.onMains = false → ∀ d, FlightOff d s

theorem Frame.dialsDark {ps : List Part} {s t : State} (h : Frame ps s t) (ok : DialsDark s)
    (dials : Part.dials ∉ ps := by decide) (supply : Part.supply ∉ ps := by decide) : DialsDark t := by
  intro battery d
  rw [State.onMains, h.supply supply] at battery
  exact h.flightOff (ok battery d) dials

/-- An operation that begins no impulse keeps the dials dark. -/
theorem DialsDark.kept {ps : List Part} {s t : State} (ok : DialsDark s) (h : Frame ps s t)
    (kept : ∀ d, FlightOff d s → FlightOff d t) (supply : Part.supply ∉ ps := by decide) : DialsDark t := by
  intro battery d
  rw [State.onMains, h.supply supply] at battery
  exact kept d (ok battery d)

theorem onMains_of_canStart {d : Fin 4} (h : canStart d s = true) : s.onMains = true := by
  unfold canStart at h
  dsimp only at h
  split at h
  · cases h
  · simp only [Bool.and_eq_true] at h
    exact h.1.1.2

/-- An impulse begins on mains alone (R46). -/
theorem dialImpulseStart_dialsDark (d : Fin 4) (ok : DialsDark s) : DialsDark (dialImpulseStart d s) := by
  unfold dialImpulseStart
  split
  · exact ok
  next starts =>
    simp only [Bool.or_eq_true, not_or, Bool.not_eq_true', Bool.not_eq_false] at starts
    have mains := onMains_of_canStart starts.2
    exact fun battery => absurd (mains.symm.trans battery) (by decide)

theorem dialsDark_resetKeep : ResetKeep DialsDark where
  own h ok := h.frame.dialsDark ok
  full d s ok := ok.kept (fullCause_frame s d) (fun _ => fullCause_flightOff d)
  continuing d s ok := ok.kept (continuingCause_frame s d) (fun _ => continuingCause_flightOff d)
  quarter l s ok := (quarterBoundary_frame s l).dialsDark ok
  step delta l s ok := (quarterStep_frame s delta l).dialsDark ok
  hand n s ok := (handEvent_frame s n).dialsDark ok
  derive c s ok := (deriveLight_frame s c).dialsDark ok
  expire c s ok := (overrideTest_frame s c).dialsDark ok
  hold h ok := h.dialsDark ok
  bell b s ok := (bellCompletion_frame s b).dialsDark ok
  swing b s ok := (swingCompletion_frame s b).dialsDark ok
  report c s ok := (resetNotice_frame s c).dialsDark ok
  restrike c s ok := (restrikeExpiry_frame s c).dialsDark ok

/-- The loss of mains ends every impulse (R55). -/
theorem dialsSupplyLost_flightOff (d : Fin 4) (s : State) : FlightOff d (dialsSupplyLost s) :=
  foldl_establishes (P := FlightOff) dialSupplyLost_self (fun _ e _ => dialSupplyLost_flightOff e) allFour s
    (List.mem_finRange d)

/-! ### Guards, motors and lamps -/

theorem drivesDark_resetKeep : ResetKeep DrivesDark where
  own h ok := h.frame.drivesDark ok
  full d s ok := (fullCause_frame s d).drivesDark ok
  continuing d s ok := (continuingCause_frame s d).drivesDark ok
  quarter l s ok := (quarterBoundary_frame s l).drivesDark ok
  step delta l s ok := (quarterStep_frame s delta l).drivesDark ok
  hand n _ ok := handEvent_drivesDark n ok
  derive c s ok := (deriveLight_frame s c).drivesDark ok
  expire c s ok := (overrideTest_frame s c).drivesDark ok
  hold h ok := h.drivesDark ok
  bell b _ ok := bellCompletion_drivesDark b ok
  swing b _ ok := swingCompletion_drivesDark b ok
  report c s ok := (resetNotice_frame s c).drivesDark ok
  restrike c s ok := (restrikeExpiry_frame s c).drivesDark ok

theorem drivesDark_servingKeeps : ServingKeeps DrivesDark where
  quiet h ok := h.drivesDark ok
  pulse _ _ _ _ _ ok := setBell_drivesDark ok

theorem strikeSupplyLost_drivesDark (ok : DrivesDark s) : DrivesDark (strikeSupplyLost s) := by
  unfold strikeSupplyLost
  refine drivesDark_servingKeeps.takeUpEach _ ((dropHeld_frame _).drivesDark ?_)
  refine foldl_keeps (P := DrivesDark) (fun s n => (endToll_frame s n _).drivesDark) _ ?_
  exact foldl_keeps (P := DrivesDark) (fun _ b => releaseHammer_drivesDark b) _ ok

theorem guardHalt_guardOff (b : Fin 16) (s : State) : GuardOff ((guardHalt b s).bell b).guard := by
  unfold guardHalt
  dsimp only
  split
  · rw [State.setGuard, State.setBell_bell, if_pos rfl]
    exact guardOff_of_motion (by simp)
  next still => exact guardOff_of_motion still

theorem guardHalt_kept (b c : Fin 16) (s : State) (off : GuardOff (s.bell b).guard) :
    GuardOff ((guardHalt c s).bell b).guard := by
  by_cases same : b = c
  · exact same ▸ guardHalt_guardOff b s
  · unfold guardHalt
    dsimp only
    split
    · rw [State.setGuard, State.setBell_bell, if_neg same]
      exact off
    · exact off

theorem motorOff_motor (b : Fin 16) (s : State) : ((motorOff b s).swing b).motor = false := by
  unfold motorOff
  dsimp only
  split <;> rw [State.setSwing_swing_self]

theorem motorOff_kept (b c : Fin 16) (s : State) (off : (s.swing b).motor = false) :
    ((motorOff c s).swing b).motor = false := by
  by_cases same : b = c
  · exact same ▸ motorOff_motor b s
  · unfold motorOff
    dsimp only
    split <;> rwa [State.setSwing_swing_ne _ (Ne.symm same)]

/-- The loss of mains halts every guard, stops every motor, and lets the sessions run down in the dark (R80, R92, R102). -/
theorem haltAndStop_drivesDark (s : State) :
    DrivesDark (swingsSupplyLost (allBells.foldl (fun s b => guardHalt b s) s)) := by
  have halted {b : Fin 16} := foldl_establishes (P := fun b s => GuardOff (s.bell b).guard) guardHalt_guardOff guardHalt_kept allBells s (x := b)
  generalize allBells.foldl (fun s b => guardHalt b s) s = t at halted
  have stopped {b : Fin 16} := foldl_establishes (P := fun b s => (s.swing b).motor = false) motorOff_motor motorOff_kept allBells t (x := b)
  have guards (b : Fin 16) : GuardOff ((allBells.foldl (fun s b => motorOff b s) t).bell b).guard := by
    rw [(Frame.foldl (fun s b => motorOff_frame s b) allBells t).guard]
    exact halted (List.mem_finRange b)
  unfold swingsSupplyLost
  exact foldl_keeps (P := DrivesDark) (fun _ n => sessionSupplyLost_drivesDark n) _
    (fun _ b => ⟨guards b, stopped (List.mem_finRange b)⟩)

/-- On battery no lamp is on. -/
def LampDark (_ : Instant) (mains : Bool) (r : Channel) : Prop := mains = false → r.state.output = false

theorem switchedOff_output (r : Channel) (cause : OffCause) (now : Instant) :
    (r.switchedOff cause now).state.output = false := by
  by_cases zero : r.restrike = 0 <;> simp [Channel.switchedOff, zero, ChannelState.output]

theorem lampDark_rule : LightRule LampDark where
  later _ h := h
  same _ state _ h := by
    rw [LampDark, state]
    exact h
  on _ _ _ _ battery := absurd battery (by decide)
  warmed warming h battery := absurd (h battery) (by simp [warming, ChannelState.output])
  off cause r _ := switchedOff_output r cause _
  failed _ _ _ := rfl
  rested now _ r _ := by split <;> rfl
  config _ _ h := h

theorem lightSupplyLost_output (c : Fin 8) (s : State) : ((lightSupplyLost c s).light c).state.output = false := by
  unfold lightSupplyLost
  split
  · simp only [switchOff]
    rw [State.light, (channelNotice_frame _ _ _ _ _).lights]
    have row := State.setLight_light_self s c ((s.light c).switchedOff .supply s.now)
    rw [State.light] at row
    rw [row]
    exact switchedOff_output _ _ _
  next off => simpa using off

theorem lightSupplyLost_kept (c e : Fin 8) (s : State) (off : (s.light c).state.output = false) :
    ((lightSupplyLost e s).light c).state.output = false := by
  by_cases same : c = e
  · exact same ▸ lightSupplyLost_output c s
  · unfold lightSupplyLost
    split
    · simp only [switchOff]
      rw [State.light, (channelNotice_frame _ _ _ _ _).lights]
      have row := State.setLight_light_ne s (Ne.symm same) ((s.light e).switchedOff .supply s.now)
      rw [State.light] at row
      rw [row]
      exact off
    · exact off

theorem lightsSupplyLost_output (c : Fin 8) (s : State) : ((lightsSupplyLost s).light c).state.output = false :=
  foldl_establishes (P := fun c s => (s.light c).state.output = false) lightSupplyLost_output lightSupplyLost_kept
    allChannels s (List.mem_finRange c)

end Sys2Proof.Machine
end

section
/-! SUPPORT. On BATTERY and while a warm reset is held no field output is driven (R181, R185, R186): each command keeps
each kind of output dark on battery, the loss of mains and the entry of a reset release them all, and a held reset lets
no command drive one. -/

namespace Sys2Proof.Machine

set_option Elab.async false

variable {s : State}

/-- Every field output released, by the records that drive them. -/
structure OutputsOff (s : State) : Prop where
  hammers : ∀ b, (s.bell b).pulseEnd = none
  guards : ∀ b, GuardOff (s.bell b).guard
  motors : ∀ b, (s.swing b).motor = false
  dials : ∀ d, FlightOff d s
  lamps : ∀ c, (s.light c).state.output = false

theorem flightOff_iff (d : Fin 4) : FlightOff d s ↔ s.dialA d = false ∧ s.dialB d = false := by
  rw [FlightOff, dialA_eq, dialB_eq]
  cases (s.dial d).flight with
  | none => simp
  | some i => cases h : i.polarity <;> simp [h]

theorem guardOff_iff (b : Fin 16) :
    GuardOff (s.bell b).guard ↔ s.guardEngDrive b = false ∧ s.guardRelDrive b = false := by
  rw [GuardOff, guardEngDrive_eq, guardRelDrive_eq]
  simp only [Bool.and_eq_false_iff, beq_eq_false_iff_ne]
  tauto

theorem allOff_iff : AllOff s ↔ OutputsOff s := by
  constructor
  · rintro ⟨bells, dials, lamps⟩
    exact ⟨fun b => by simpa [hammer_eq] using (bells b).1, fun b => (guardOff_iff b).2 ⟨(bells b).2.1, (bells b).2.2.1⟩,
      fun b => (bells b).2.2.2, fun d => (flightOff_iff d).2 (dials d), lamps⟩
  · intro off
    refine ⟨fun b => ?_, fun d => (flightOff_iff d).1 (off.dials d), off.lamps⟩
    obtain ⟨engaging, releasing⟩ := (guardOff_iff b).1 (off.guards b)
    exact ⟨by simp [hammer_eq, off.hammers b], engaging, releasing, off.motors b⟩

theorem Frame.outputsOff {ps : List Part} {s t : State} (h : Frame ps s t) (off : OutputsOff s)
    (hammers : Part.hammers ∉ ps := by decide) (guards : Part.guards ∉ ps := by decide)
    (swings : Part.swings ∉ ps := by decide) (dials : Part.dials ∉ ps := by decide)
    (lights : Part.lights ∉ ps := by decide) : OutputsOff t where
  hammers b := (h.pulseEnd b hammers).trans (off.hammers b)
  guards b := by
    rw [h.guard b guards]
    exact off.guards b
  motors b := by
    rw [State.swing, h.swings swings]
    exact off.motors b
  dials d := h.flightOff (off.dials d) dials
  lamps c := by
    rw [State.light, h.lights lights]
    exact off.lamps c

/-! ### Every command on battery -/

/-- On battery every output is released. -/
structure Dark (s : State) : Prop where
  drives : DrivesDark s
  hammers : HammersDark s
  dials : DialsDark s
  lamps : EveryLight LampDark s

theorem dark_iff : Dark s ↔ (s.onMains = false → OutputsOff s) := by
  constructor
  · intro dark battery
    exact ⟨dark.hammers battery, fun b => (dark.drives battery b).1, fun b => (dark.drives battery b).2,
      dark.dials battery, fun c => dark.lamps c battery⟩
  · intro off
    exact ⟨fun battery b => ⟨(off battery).guards b, (off battery).motors b⟩, fun battery => (off battery).hammers,
      fun battery => (off battery).dials, fun c battery => (off battery).lamps c⟩

theorem dark_of_mains (mains : s.onMains = true) : Dark s :=
  dark_iff.2 fun battery => absurd (mains.symm.trans battery) (by decide)

theorem onMains_eq_false_iff : s.onMains = false ↔ s.supply.state = .battery := by
  rw [State.onMains]
  cases s.supply.state <;> decide

/-- The commands of the supply and the cold start apart, a command leaves the supply state alone. -/
def MovesSupply (c : Instr) : Prop := c = .coldStart ∨ c = .mainsLost ∨ c = .mainsRestored

theorem after_onMains_of_not_movesSupply {c : Instr} (other : ¬ MovesSupply c) (s : State) :
    (after c s).onMains = s.onMains := by
  simp only [MovesSupply, not_or] at other
  exact LightRule.after_onMains other.1 other.2.1 other.2.2 s

theorem after_request_drivesDark {i : Instr} {x : Req × Port × Byte} (spelled : i.request = some x) (ok : DrivesDark s) :
    DrivesDark (after i s) := by
  have port (p : Port) (r : LinkPort) (u : State) : DrivesDark u → DrivesDark (u.setPort p r) := id
  by_cases writer : Part.guards ∈ writes i ∨ Part.swings ∈ writes i
  · cases i with
    | bellConfig p tag args => exact request_keeps (port p) (actBellConfig_drivesDark args) ok
    | claim p tag kind mask => exact request_keeps (port p) (actClaim_drivesDark p kind mask) ok
    | release p tag mask => exact request_keeps (port p) (actRelease_drivesDark p mask) ok
    | bellFaultClear p tag bell => exact request_keeps (port p) (actBellFaultClear_drivesDark bell) ok
    | ringStart p tag mask stagger duration =>
      exact request_keeps (port p) (actRingStart_drivesDark mask stagger duration) ok
    | ringCancel p tag session => exact request_keeps (port p) (actRingCancel_drivesDark session) ok
    | _ => first | (simp [writes] at writer; done) | cases spelled
  · rw [not_or] at writer
    have supply : Part.supply ∉ writes i := by cases i <;> first | (simp [writes]; done) | cases spelled
    exact (after_frame i s).drivesDark ok writer.1 writer.2 supply

theorem after_drivesDark {c : Instr} (other : ¬ MovesSupply c) (ok : DrivesDark s) : DrivesDark (after c s) := by
  by_cases writer : Part.guards ∈ writes c ∨ Part.swings ∈ writes c
  · cases c with
    | coldStart => exact absurd (.inl rfl) other
    | mainsLost => exact absurd (.inr (.inl rfl)) other
    | mainsRestored => exact absurd (.inr (.inr rfl)) other
    | localSecondBoundary => exact drivesDark_resetKeep.localSecondBoundary ok
    | offsetChangeApplied => exact drivesDark_resetKeep.offsetChangeApplied ok
    | refPulse => exact drivesDark_resetKeep.refPulse ok
    | warmResetCompletion => exact drivesDark_resetKeep.warmResetCompletion ok
    | guardContactChange b contact closed => exact guardContactChange_drivesDark b contact closed ok
    | guardContactSettled b contact => exact guardContactSettled_drivesDark b contact ok
    | guardTravelTimeout b => exact guardTravelTimeout_drivesDark b ok
    | sensorPulse b => exact sensorPulse_drivesDark b ok
    | driftSettled b => exact driftSettled_drivesDark b ok
    | stopSettled b => exact stopSettled_drivesDark b ok
    | startTimeout b => exact startTimeout_drivesDark b ok
    | swingLost b => exact swingLost_drivesDark b ok
    | sessionStartSlot n => exact sessionStartSlot_drivesDark n ok
    | sessionEndTime n => exact sessionEndTime_drivesDark n ok
    | sessionStopSlot n => exact sessionStopSlot_drivesDark n ok
    | hammerPulseEnd b =>
      show DrivesDark (hammerPulseEnd b s)
      unfold hammerPulseEnd
      split
      · exact ok
      · exact drivesDark_servingKeeps.takeUpEach _ (releaseHammer_drivesDark b ok)
    | warmResetEntry =>
      show DrivesDark (warmResetEntry s)
      unfold warmResetEntry
      split
      · exact ok
      · refine (abortEdits_frame _).drivesDark fun _ b => ⟨guardOff_of_motion ?_, ?_⟩
        · simp [State.bell, Bell.warmReset]
        · simp [State.swing, Swing.warmReset]
    | frameComplete p bytes =>
      exact frameComplete_keeps (P := DrivesDark) (fun _ _ => id)
        (fun _ _ _ _ spelled ok => after_request_drivesDark spelled ok) bytes s ok
    | _ => first | (simp [writes] at writer; done) | exact after_request_drivesDark rfl ok
  · rw [not_or] at writer
    intro battery b
    rw [after_onMains_of_not_movesSupply other] at battery
    rw [(after_frame c s).guard b writer.1, State.swing, (after_frame c s).swings writer.2]
    exact ok battery b

theorem after_request_hammersDark {i : Instr} {x : Req × Port × Byte} (spelled : i.request = some x)
    (ok : HammersDark s) : HammersDark (after i s) := by
  by_cases writer : Part.hammers ∈ writes i
  · cases i with
    | partConfig p tag share => exact request_keeps (P := HammersDark) (fun _ _ => id) (actPartConfig_hammersDark share) ok
    | _ => first | (simp [writes] at writer; done) | cases spelled
  · have supply : Part.supply ∉ writes i := by cases i <;> first | (simp [writes]; done) | cases spelled
    exact (after_frame i s).hammersDark ok writer supply

theorem after_hammersDark {c : Instr} (other : ¬ MovesSupply c) (ok : HammersDark s) : HammersDark (after c s) := by
  by_cases writer : Part.hammers ∈ writes c
  · cases c with
    | coldStart => exact absurd (.inl rfl) other
    | mainsLost => exact absurd (.inr (.inl rfl)) other
    | mainsRestored => exact absurd (.inr (.inr rfl)) other
    | strikeEntryDue =>
      show HammersDark (strikeEntryDue s)
      unfold strikeEntryDue
      split
      · exact ok
      · exact hammersDark_servingKeeps.takeUpEach _ ok
    | hammerRecoveryEnd b =>
      show HammersDark (hammerRecoveryEnd b s)
      unfold hammerRecoveryEnd
      split
      · exact ok
      · exact hammersDark_servingKeeps.takeUpEach _ ok
    | hammerPulseEnd b =>
      show HammersDark (hammerPulseEnd b s)
      unfold hammerPulseEnd
      split
      · exact ok
      · exact hammersDark_servingKeeps.takeUpEach _ (releaseHammer_hammersDark b ok)
    | warmResetEntry =>
      show HammersDark (warmResetEntry s)
      unfold warmResetEntry
      split
      · exact ok
      · exact (abortEdits_frame _).hammersDark fun _ b => by simp [State.bell, Bell.warmReset]
    | frameComplete p bytes =>
      exact frameComplete_keeps (P := HammersDark) (fun _ _ => id)
        (fun _ _ _ _ spelled ok => after_request_hammersDark spelled ok) bytes s ok
    | _ => first | (simp [writes] at writer; done) | exact after_request_hammersDark rfl ok
  · intro battery b
    rw [after_onMains_of_not_movesSupply other] at battery
    rw [(after_frame c s).pulseEnd b writer]
    exact ok battery b

/-- No request begins an impulse. -/
theorem after_request_flightOff {i : Instr} {x : Req × Port × Byte} (spelled : i.request = some x) {d : Fin 4}
    (ok : FlightOff d s) : FlightOff d (after i s) := by
  have port (p : Port) (r : LinkPort) (u : State) : FlightOff d u → FlightOff d (u.setPort p r) := id
  by_cases writer : Part.dials ∈ writes i
  · cases i with
    | dialSet p tag dial position polarity =>
      exact request_keeps (port p) (actDialSet_flightOff dial position polarity) ok
    | dialStop p tag dial => exact request_keeps (port p) (actDialStop_flightOff dial) ok
    | dialStart p tag dial => exact request_keeps (port p) (actDialStart_flightOff dial) ok
    | dialConfig p tag args => exact request_keeps (port p) (actDialConfig_flightOff args) ok
    | _ => first | (simp [writes] at writer; done) | cases spelled
  · exact (after_frame i s).flightOff ok writer

theorem after_dialsDark {c : Instr} (other : ¬ MovesSupply c) (ok : DialsDark s) : DialsDark (after c s) := by
  have dark {t : State} (mains : t.onMains = s.onMains) (kept : ∀ d, FlightOff d s → FlightOff d t) : DialsDark t :=
    fun battery d => kept d (ok (mains ▸ battery) d)
  have mains := after_onMains_of_not_movesSupply other s
  by_cases writer : Part.dials ∈ writes c
  · cases c with
    | coldStart => exact absurd (.inl rfl) other
    | mainsLost => exact absurd (.inr (.inl rfl)) other
    | mainsRestored => exact absurd (.inr (.inr rfl)) other
    | localSecondBoundary => exact dialsDark_resetKeep.localSecondBoundary ok
    | offsetChangeApplied => exact dialsDark_resetKeep.offsetChangeApplied ok
    | refPulse => exact dialsDark_resetKeep.refPulse ok
    | warmResetCompletion => exact dialsDark_resetKeep.warmResetCompletion ok
    | dialImpulseStart d => exact dialImpulseStart_dialsDark d ok
    | dialImpulseEnd d => exact dark mains fun _ => dialImpulseEnd_flightOff d
    | dialConfChange d closed => exact dark mains fun _ => dialConfChange_flightOff d closed
    | warmResetEntry =>
      show DialsDark (warmResetEntry s)
      unfold warmResetEntry
      split
      · exact ok
      · exact (abortEdits_frame _).dialsDark fun _ d => by simp [FlightOff, State.dial, Dial.warmReset]
    | frameComplete p bytes =>
      refine dark mains fun d => frameComplete_keeps (P := FlightOff d) (fun _ _ => id)
        (fun _ _ _ _ spelled ok => after_request_flightOff spelled ok) bytes s
    | _ => first | (simp [writes] at writer; done) | exact dark mains fun _ => after_request_flightOff rfl
  · exact dark mains fun _ ok => (after_frame c s).flightOff ok writer

/-- The loss of mains leaves every output released (R181), even one in a warm reset, where all were released before. -/
theorem mainsLost_dark (dark : Dark s) (held : s.warm.held ≠ none → OutputsOff s) : Dark (mainsLost s) := by
  unfold mainsLost
  split
  · exact dark
  · dsimp only
    generalize entered : reportLow (post .mainsLost 0 (supplySeconds s) { s with
      supply := { s.supply with state := .battery, debounce := none, since := s.now, reported := false } }) = t
    have frame : Frame [.supply, .notices, .ports] s t := by
      rw [← entered]
      exact ((withSupply_frame s _).mono (by decide)).trans
        (((post_frame _ _ _ _).mono (by decide)).trans ((reportLow_frame _).mono (by decide)))
    split
    next holds =>
      refine dark_iff.2 fun _ => frame.outputsOff (held ?_)
      rw [← frame.warmHeld]
      simpa [State.isHeld, Option.isSome_iff_ne_none] using holds
    · unfold blocksLost
      have drives := haltAndStop_drivesDark (dialsSupplyLost t)
      have strikes := strikeSupplyLost_hammersDark
        (swingsSupplyLost (allBells.foldl (fun s b => guardHalt b s) (dialsSupplyLost t)))
      refine ⟨(lightsSupplyLost_frame _).drivesDark (strikeSupplyLost_drivesDark drives),
        (lightsSupplyLost_frame _).hammersDark strikes, fun _ d => ?_, fun c _ => lightsSupplyLost_output c _⟩
      refine (lightsSupplyLost_frame _).flightOff ((strikeSupplyLost_frame _).flightOff
        ((swingsSupplyLost_frame _).flightOff ?_))
      exact (Frame.foldl (fun s b => guardHalt_frame s b) allBells _).flightOff (dialsSupplyLost_flightOff d t)

theorem mainsRestored_onMains (s : State) : mainsRestored s = s ∨ (mainsRestored s).onMains = true := by
  unfold mainsRestored
  split
  · exact .inl rfl
  · right
    dsimp only
    have told (u : State) (mains : u.onMains = true) :
        (post .mainsRestored 0 (supplySeconds s) u).onMains = true := by
      rw [State.onMains, (post_frame u _ _ _).supply]
      exact mains
    split
    · exact told _ rfl
    · rw [State.onMains, (blocksRestored_frame _).supply]
      exact told _ rfl

theorem after_dark (c : Instr) (dark : Dark s) (held : s.warm.held ≠ none → OutputsOff s) : Dark (after c s) := by
  by_cases supply : MovesSupply c
  · rcases supply with rfl | rfl | rfl
    · exact dark_iff.2 fun _ => allOff_iff.1 (coldState_allOff _ _)
    · exact mainsLost_dark dark held
    · rcases mainsRestored_onMains s with same | mains
      · exact Eq.mpr (congrArg Dark same) dark
      · exact dark_of_mains mains
  · refine ⟨after_drivesDark supply dark.drives, after_hammersDark supply dark.hammers, after_dialsDark supply dark.dials, ?_⟩
    simp only [MovesSupply, not_or] at supply
    exact lampDark_rule.after supply.1 supply.2.1 supply.2.2 dark.lamps

/-! ### Every command in a warm reset -/

theorem isHeld_of_ne (held : s.warm.held ≠ none) : s.isHeld = true := by
  simpa [State.isHeld, Option.isSome_iff_ne_none] using held

/-- What the labelling of a second does for the civil unit, before the other blocks follow (R33, R39). -/
def civilTail (old : Option Label) (s : State) : State :=
  let t := if changeDue s then applyOffset s else s
  let u := dateChange old (t.timeValid && !t.tb.validAtBoundary) t
  u.setTb { u.tb with validAtBoundary := u.timeValid }

theorem newSecondTail_eq (old : Option Label) (delta : Option Int) (s : State) :
    newSecondTail old delta s =
      if (civilTail old s).isHeld then civilTail old s
      else blocksBoundary old delta (changeDue s)
        ((if changeDue s then applyOffset s else s).timeValid &&
          !(if changeDue s then applyOffset s else s).tb.validAtBoundary) (civilTail old s) := rfl

theorem civilTail_frame (old : Option Label) (s : State) : Frame ownParts s (civilTail old s) := by
  have applied : Frame ownParts s (if changeDue s then applyOffset s else s) := by
    split
    · exact (applyOffset_frame s).mono (by decide)
    · exact Frame.refl _ _
  unfold civilTail
  dsimp only
  generalize (if changeDue s then applyOffset s else s) = t at applied
  exact (applied.trans ((dateChange_frame t old _).mono (by decide))).trans ((State.setTb_frame _ _).mono (by decide))

/-- In a warm reset a boundary moves the Time Base and the civil unit alone (R186). -/
theorem boundary_frame_held (held : s.warm.held ≠ none) : Frame ownParts s (boundary s) := by
  unfold boundary finishSecond
  dsimp only
  have begun := (beginSecond_frame s (s.label.map Label.advance)).mono (qs := ownParts) (by decide)
  generalize beginSecond (s.label.map Label.advance) s = t at begun
  generalize stepDelta (s.label.map Label.advance) t.label = delta
  have stepped := begun.trans ((postStep_frame t delta).mono (by decide))
  generalize postStep delta t = u at stepped
  have whole := stepped.trans (civilTail_frame s.civilNow u)
  rw [newSecondTail_eq, if_pos]
  · exact whole
  · exact isHeld_of_ne (whole.warmHeld ▸ held)

theorem setContact_guardOff {g : Guard} (off : GuardOff g) (c : Contact) (l : ContactLevel) :
    GuardOff (g.setContact c l) := by
  rw [GuardOff, (setContact_motion g c l).1, (setContact_motion g c l).2]
  exact off

/-- A request in a warm reset moves its port alone (R186). -/
theorem after_request_held {i : Instr} {x : Req × Port × Byte} (spelled : i.request = some x)
    (held : s.warm.held ≠ none) : after i s = discardFrame x.2.1 s := by
  obtain ⟨r, p, tag⟩ := x
  obtain ⟨act, runs⟩ := after_request spelled
  rw [runs, request_held tag act held]

/-- No command but the completion ends a warm reset or drives an output in one. -/
theorem after_outputsOff {c : Instr} (held : s.warm.held ≠ none) (off : OutputsOff s)
    (cold : c ≠ .coldStart) (completes : c ≠ .warmResetCompletion) : OutputsOff (after c s) := by
  have holds := isHeld_of_ne held
  have same {t : State} (unchanged : t = s) : OutputsOff t := unchanged ▸ off
  by_cases writer : Part.hammers ∉ writes c ∧ Part.guards ∉ writes c ∧ Part.swings ∉ writes c ∧ Part.dials ∉ writes c ∧
      Part.lights ∉ writes c
  · obtain ⟨hammers, guards, swings, dials, lights⟩ := writer
    exact (after_frame c s).outputsOff off hammers guards swings dials lights
  cases c with
  | coldStart => exact absurd rfl cold
  | warmResetCompletion => exact absurd rfl completes
  | localSecondBoundary =>
    show OutputsOff (localSecondBoundary s)
    unfold localSecondBoundary
    split
    · exact off
    · exact (boundary_frame_held held).outputsOff off
  | offsetChangeApplied =>
    show OutputsOff (offsetChangeApplied s)
    unfold offsetChangeApplied
    split
    · exact (boundary_frame_held held).outputsOff off
    · exact off
  | dialConfChange d closed =>
    have frame := dialConfChange_frame s d closed
    exact ⟨fun b => (frame.pulseEnd b).trans (off.hammers b), fun b => frame.guard b ▸ off.guards b,
      fun b => (congrArg (fun v => v[b].motor) frame.swings).trans (off.motors b),
      fun e => dialConfChange_flightOff d closed (off.dials e),
      fun e => (congrArg (fun v => v[e].state.output) frame.lights).trans (off.lamps e)⟩
  | guardContactChange b contact closed =>
    have frame := guardContactChange_frame s b contact closed
    refine ⟨fun b => (frame.pulseEnd b).trans (off.hammers b), fun e => ?_,
      fun b => (congrArg (fun v => v[b].motor) frame.swings).trans (off.motors b),
      fun d => frame.flightOff (off.dials d),
      fun e => (congrArg (fun v => v[e].state.output) frame.lights).trans (off.lamps e)⟩
    show GuardOff ((guardContactChange b contact closed s).bell e).guard
    unfold guardContactChange
    split
    · exact off.guards e
    · rw [State.setGuard, State.setBell_bell]
      split
      · exact setContact_guardOff (off.guards b) _ _
      · exact off.guards e
  | lampSenseChange e current =>
    have frame := lampSenseChange_frame s e current
    refine ⟨fun b => (frame.pulseEnd b).trans (off.hammers b), fun e => frame.guard e ▸ off.guards e,
      fun b => (congrArg (fun v => v[b].motor) frame.swings).trans (off.motors b),
      fun d => frame.flightOff (off.dials d), fun i => ?_⟩
    show ((lampSenseChange e current s).light i).state.output = false
    unfold lampSenseChange
    dsimp only
    split
    · exact off.lamps i
    · by_cases mine : e = i
      · subst mine
        rw [State.setLight_light_self]
        exact off.lamps e
      · rw [State.setLight_light_ne _ mine]
        exact off.lamps i
  | mainsLost =>
    have told (r : Supply) : OutputsOff (reportLow (post .mainsLost 0 (supplySeconds s) { s with supply := r })) :=
      (reportLow_frame _).outputsOff ((post_frame _ _ _ _).outputsOff ((withSupply_frame s r).outputsOff off))
    have still (r : Supply) : (reportLow (post .mainsLost 0 (supplySeconds s) { s with supply := r })).isHeld = true := by
      rw [State.isHeld, (reportLow_frame _).warmHeld, ← State.isHeld, post_isHeld]
      exact holds
    show OutputsOff (mainsLost s)
    unfold mainsLost
    split
    · exact off
    · dsimp only
      rw [if_pos (still _)]
      exact told _
  | mainsRestored =>
    have told (r : Supply) : OutputsOff (post .mainsRestored 0 (supplySeconds s) { s with supply := r }) :=
      (post_frame _ _ _ _).outputsOff ((withSupply_frame s r).outputsOff off)
    show OutputsOff (mainsRestored s)
    unfold mainsRestored
    split
    · exact off
    · dsimp only
      rw [if_pos]
      · exact told _
      · rw [post_isHeld]
        exact holds
  | dialImpulseEnd d =>
    refine same (show dialImpulseEnd d s = s from ?_)
    unfold dialImpulseEnd
    rw [off.dials d]
  | frameComplete p bytes =>
    exact (frameComplete_keeps (P := fun u => u.warm.held ≠ none ∧ OutputsOff u)
      (fun r u kept => ⟨kept.1, (State.setPort_frame u p r).outputsOff kept.2⟩)
      (fun i r tag u spelled kept => by
        rw [after_request_held spelled kept.1]
        exact ⟨kept.1, (State.setPort_frame u p _).outputsOff kept.2⟩) bytes s ⟨held, off⟩).2
  | refPulse => exact same (if_pos (by rw [holds, Bool.true_or]))
  | dialImpulseStart d => exact same (if_pos (by rw [holds, Bool.true_or]))
  | guardContactSettled b contact => exact same (if_pos (by rw [holds, Bool.true_or]))
  | guardTravelTimeout b => exact same (if_pos (by rw [holds, Bool.true_or, Bool.true_or]))
  | sensorPulse b => exact same (if_pos (by rw [holds, Bool.true_or]))
  | driftSettled b => exact same (if_pos (by rw [holds, Bool.true_or, Bool.true_or]))
  | stopSettled b => exact same (if_pos (by rw [holds, Bool.true_or, Bool.true_or]))
  | startTimeout b => exact same (if_pos (by rw [holds, Bool.true_or, Bool.true_or]))
  | swingLost b => exact same (if_pos (by rw [holds, Bool.true_or, Bool.true_or]))
  | sessionStartSlot n => exact same (if_pos holds)
  | sessionEndTime n => exact same (if_pos (by simp [holds]))
  | sessionStopSlot n => exact same (if_pos (by rw [holds, Bool.true_or, Bool.true_or]))
  | strikeEntryDue => exact same (if_pos (by rw [holds, Bool.true_or]))
  | hammerRecoveryEnd b => exact same (if_pos (by rw [holds, Bool.true_or]))
  | hammerPulseEnd b => exact same (if_pos (by rw [holds, Bool.true_or]))
  | overrideExpiry c => exact same (if_pos holds)
  | warmupEnd c => exact same (if_pos (by rw [holds, Bool.true_or, Bool.true_or]))
  | restrikeExpiry c => exact same (if_pos (by rw [holds, Bool.true_or, Bool.true_or]))
  | senseWatchStart c => exact same (if_pos holds)
  | lampFailed c => exact same (if_pos (by rw [holds, Bool.true_or]))
  | warmResetEntry => exact same (if_pos (by rw [holds, Bool.true_or]))
  | _ =>
    first
    | (simp [writes] at writer; done)
    | (rw [after_request_held rfl held]
       exact (State.setPort_frame s _ _).outputsOff off)

/-- The entry of a warm reset releases every output (R185). -/
theorem enterWarmReset_outputsOff (s : State) : OutputsOff (enterWarmReset s) := by
  refine (abortEdits_frame _).outputsOff ⟨fun b => ?_, fun b => guardOff_of_motion ?_, fun b => ?_, fun d => ?_, fun c => ?_⟩
  · simp [State.bell, Bell.warmReset]
  · simp [State.bell, Bell.warmReset]
  · simp [State.swing, Swing.warmReset]
  · simp [FlightOff, State.dial, Dial.warmReset]
  · show ((mapV (Channel.warmReset s.now) s.lights)[c.1]).state.output = false
    rw [mapV_get]
    unfold Channel.warmReset
    dsimp only
    split
    · exact switchedOff_output s.lights[c.1] .reset s.now
    next off => simpa using off

/-- Only the entry of a warm reset begins to hold one. -/
theorem held_of_after {c : Instr} (entry : c ≠ .warmResetEntry) (held : (after c s).warm.held ≠ none) :
    s.warm.held ≠ none ∧ c ≠ .coldStart := by
  by_cases writer : Part.hold ∈ writes c
  · cases c with
    | coldStart => exact absurd rfl held
    | warmResetEntry => exact absurd rfl entry
    | resetNChange high =>
      refine ⟨fun none => held ?_, by simp⟩
      show (resetNChange high s).warm.held = Option.none
      unfold resetNChange
      split <;> exact none
    | warmResetCompletion =>
      refine ⟨fun none => held ?_, by simp⟩
      show (warmResetCompletion s).warm.held = Option.none
      unfold warmResetCompletion
      rw [none]
      exact none
    | _ => simp [writes] at writer
  · refine ⟨(after_frame c s).warmHeld writer ▸ held, ?_⟩
    rintro rfl
    exact writer (by decide)

/-- The completion ends the warm reset (R187). -/
theorem completeWarmReset_free (entry : Instant) (s : State) : (completeWarmReset entry s).warm.held = none := by
  unfold completeWarmReset heldDeadlines
  dsimp only
  rw [(Frame.foldl (fun s c => restrikeExpiry_frame s c) allChannels _).warmHeld, (overrideTests_frame _).warmHeld,
    (lightsCompletion_frame _).warmHeld, (dialsFull_frame _).warmHeld, (withCal_frame _ _).warmHeld,
    (Frame.foldl (fun s b => swingCompletion_frame s b) allBells _).warmHeld,
    (Frame.foldl (fun s b => bellCompletion_frame s b) allBells _).warmHeld]
  have noticed : (s.warm.notices.foldl (fun s n => postNotice n s) (post .warmResetDone 0
      (BitVec.ofNat 16 (sat 65535 (s.now - entry))) { s with warm := {} })).warm.held = none := by
    rw [(Frame.foldl (fun s n => postNotice_frame s n) _ _).warmHeld, post_warm_held]
  split <;> exact noticed

/-- A completion that leaves the reset held was not due. -/
theorem warmResetCompletion_held (held : (warmResetCompletion s).warm.held ≠ none) : warmResetCompletion s = s := by
  unfold warmResetCompletion at held ⊢
  split
  · rfl
  next entry was =>
    simp only [was] at held
    split
    next due =>
      rw [if_pos due] at held
      exact absurd (completeWarmReset_free entry s) held
    · rfl

theorem darkOk_iff : DarkOk s ↔ Dark s ∧ (s.warm.held ≠ none → OutputsOff s) := by
  rw [DarkOk, allOff_iff, dark_iff, onMains_eq_false_iff]
  tauto

theorem after_held_outputsOff (c : Instr) (ok : s.warm.held ≠ none → OutputsOff s)
    (held : (after c s).warm.held ≠ none) : OutputsOff (after c s) := by
  by_cases entry : c = .warmResetEntry
  · subst entry
    show OutputsOff (warmResetEntry s)
    replace held : (warmResetEntry s).warm.held ≠ none := held
    unfold warmResetEntry at held ⊢
    split
    next waits =>
      rw [if_pos waits] at held
      exact ok held
    · exact enterWarmReset_outputsOff s
  · obtain ⟨before, cold⟩ := held_of_after entry held
    by_cases completes : c = .warmResetCompletion
    · subst completes
      exact Eq.mpr (congrArg OutputsOff (warmResetCompletion_held held)) (ok before)
    · exact after_outputsOff before (ok before) cold completes

theorem step_darkOk {t : State} (ok : DarkOk s) (ran : step s = .next t) : DarkOk t := by
  refine step_keeps (P := DarkOk) (fun _ _ => id) (fun _ _ => id) (fun c u ok => ?_) ok ran
  obtain ⟨dark, held⟩ := darkOk_iff.1 ok
  exact darkOk_iff.2 ⟨after_dark c dark held, after_held_outputsOff c held⟩

/-- Settles O60: outputs stay released on battery and in reset, and a lamp is on only past its restrike. -/
theorem noOutputOnBatteryAndNoLampWithinItsRestrike : Obligations.NoOutputOnBatteryAndNoLampWithinItsRestrike :=
  ⟨fun _ _ => step_darkOk, fun _ _ => step_lampsOk⟩

end Sys2Proof.Machine
end

section
/-! SUPPORT. The link ports: what a request that reaches its owner leaves, the reads, the notices, the response that ends
and the requests of the port itself. -/

namespace Sys2Proof.Machine

set_option Elab.async false

variable {s : State}

/-! ### A request at a free port -/

/-- A request at a free port whose role permits it ends with its owner's reply. -/
theorem answers {r : Req} {p : Port} {tag : Byte} {act : State → Reply} {t : State} {st : Status} {pl : List Byte}
    (free : PortFree p s) (acts : act s = ⟨t, st, pl⟩) (permitted : r.permits p = true := by assumption) :
    (.next (request r p tag act s) : Host.Outcome State Fault Refusal) = .next (answered p tag st pl t) := by
  rw [request_reaches tag act ⟨free, permitted⟩, acts]

/-- A request that every role permits. -/
theorem answers_all {r : Req} {p : Port} {tag : Byte} {act : State → Reply} {t : State} {st : Status} {pl : List Byte}
    (free : PortFree p s) (acts : act s = ⟨t, st, pl⟩) (permitted : ∀ p, r.permits p = true := by rintro (_ | _ | _) <;> rfl) :
    (.next (request r p tag act s) : Host.Outcome State Fault Refusal) = .next (answered p tag st pl t) :=
  answers free acts (permitted p)

theorem named_none {n k : Nat} (h : k = 0 ∨ n < k) : named n k = none := by
  rw [named, dif_neg]
  omega

/-- A record named by its number is the one before it. -/
theorem named_eq_some {n k : Nat} {i : Fin n} (h : named n k = some i) : k = i.1 + 1 := by
  unfold named at h
  split at h
  next within =>
    cases h
    simp only
    omega
  · cases h

theorem yesNo_of_one_lt {n : Nat} (h : 1 < n) : yesNo n = none := by
  rw [yesNo, if_neg (by omega), if_neg (by omega)]

/-! ### The reads -/

theorem actDialRead_eq (d : Fin 4) (s : State) : actDialRead (d.1 + 1) s = ⟨s, .ok, dialBytes d s⟩ := by
  rw [actDialRead, named_succ]
  rfl
theorem actDialRead_range {n : Nat} (h : n = 0 ∨ 4 < n) (s : State) : actDialRead n s = ⟨s, .range, []⟩ := by
  rw [actDialRead, named_none h]
  rfl
theorem actBellRead_eq (b : Fin 16) (s : State) : actBellRead (b.1 + 1) s = ⟨s, .ok, bellBytes b s⟩ := by
  rw [actBellRead, named_succ]
  rfl
theorem actBellRead_range {n : Nat} (h : n = 0 ∨ 16 < n) (s : State) : actBellRead n s = ⟨s, .range, []⟩ := by
  rw [actBellRead, named_none h]
  rfl
theorem actRingRead_eq (k : Fin 4) (s : State) : actRingRead (k.1 + 1) s = ⟨s, .ok, sessionBytes k s⟩ := by
  rw [actRingRead, named_succ]
  rfl
theorem actRingRead_range {n : Nat} (h : n = 0 ∨ 4 < n) (s : State) : actRingRead n s = ⟨s, .range, []⟩ := by
  rw [actRingRead, named_none h]
  rfl
theorem actEventRead_eq (e : Fin 96) (s : State) : actEventRead (e.1 + 1) s = ⟨s, .ok, eventBytes e s⟩ := by
  rw [actEventRead, named_succ]
  rfl
theorem actEventRead_range {n : Nat} (h : n = 0 ∨ 96 < n) (s : State) : actEventRead n s = ⟨s, .range, []⟩ := by
  rw [actEventRead, named_none h]
  rfl
theorem actLightRead_eq (c : Fin 8) (s : State) : actLightRead (c.1 + 1) s = ⟨s, .ok, lightBytes c s⟩ := by
  rw [actLightRead, named_succ]
  rfl
theorem actLightRead_range {n : Nat} (h : n = 0 ∨ 8 < n) (s : State) : actLightRead n s = ⟨s, .range, []⟩ := by
  rw [actLightRead, named_none h]
  rfl

theorem actTuneRead_eq {k : Fin 24} {first count : Nat} (from1 : 1 ≤ first) (fits : count ≤ 64) (s : State) :
    actTuneRead (k.1 + 1) first count s = ⟨s, .ok, tuneBytes k first count s⟩ := by
  rw [actTuneRead, named_succ]
  exact if_neg (by omega)

theorem actTuneRead_range {n first count : Nat} (h : n = 0 ∨ 24 < n ∨ first = 0 ∨ 64 < count) (s : State) :
    actTuneRead n first count s = ⟨s, .range, []⟩ := by
  unfold actTuneRead
  split
  · rfl
  next k names =>
    have inRange := k.2
    have number := named_eq_some names
    exact if_pos (by omega)

theorem actPlanRead_range {n : Nat} (h : 1 < n) (s : State) : actPlanRead n s = ⟨s, .range, []⟩ := by
  rw [actPlanRead, planOf, if_neg (by omega), if_neg (by omega)]
  rfl

/-- Settles O9: each read's reply is its snapshot, and a read moves no record of its owner. -/
theorem readsAnswerASnapshotAndChangeNothing : Obligations.ReadsAnswerASnapshotAndChangeNothing := by
  intro p tag s free
  refine ⟨answers_all free rfl, answers_all free rfl, fun first => ?days, fun first count => ?sun,
    fun d => answers_all free (actDialRead_eq d s), fun n out => answers_all free (actDialRead_range out s),
    fun b => answers_all free (actBellRead_eq b s), fun n out => answers_all free (actBellRead_range out s),
    fun k => answers_all free (actRingRead_eq k s), fun n out => answers_all free (actRingRead_range out s),
    fun k first count from1 fits => answers_all free (actTuneRead_eq from1 fits s),
    fun n first count out => answers_all free (actTuneRead_range out s),
    answers_all free rfl, answers_all free rfl, fun n out => answers_all free (actPlanRead_range out s), fun first => ?strike,
    fun e => answers_all free (actEventRead_eq e s), fun n out => answers_all free (actEventRead_range out s),
    fun c => answers_all free (actLightRead_eq c s), fun n out => answers_all free (actLightRead_range out s)⟩
  case days =>
    split
    next within => exact answers_all free (if_neg (Nat.not_lt.mpr within))
    next beyond => exact answers_all free (if_pos (Nat.not_le.mp beyond))
  case sun =>
    split
    next within => exact answers_all free (if_neg (by omega))
    next beyond => exact answers_all free (if_pos (by omega))
  case strike =>
    split
    next within => exact answers_all free (if_neg (Nat.not_lt.mpr within))
    next beyond => exact answers_all free (if_pos (Nat.not_le.mp beyond))

/-! ### Notices -/

theorem mapV_port (f : LinkPort → LinkPort) (p : Port) (s : State) :
    ({ s with ports := mapV f s.ports } : State).port p = f (s.port p) := by
  simp [State.port]

/-- Settles O10: posting is taking at each port, or the reset notice list. -/
theorem noticesReachEveryRoutingQueue : Obligations.NoticesReachEveryRoutingQueue := by
  refine ⟨fun n s free => ⟨?_, fun p => ?_⟩, fun n s held => postNotice_held s n held, fun _ _ _ _ => rfl⟩
  · rw [postNotice_free s n free]
    intro q outside
    cases q <;> first | exact absurd (by decide) outside | exact ⟨rfl, rfl⟩ | exact rfl | exact fun _ => ⟨rfl, rfl⟩ | exact fun _ => rfl
  · rw [postNotice_free s n free, mapV_port]
    rfl

/-- Taking a notice leaves the settings of a port. -/
theorem take_settings (n : Notice) (r : LinkPort) : (r.take n).settings = r.settings := by
  unfold LinkPort.take
  split
  · split <;> rfl
  · rfl

theorem postNotice_settings (n : Notice) (p : Port) (s : State) :
    ((postNotice n s).port p).settings = (s.port p).settings := by
  by_cases held : s.warm.held = none
  · rw [postNotice_free s n held, mapV_port, take_settings]
  · rw [postNotice_held s n held]
    split <;> rfl

theorem post_settings (k : NoticeKind) (i : Nat) (x : BitVec 16) (p : Port) (s : State) :
    ((post k i x s).port p).settings = (s.port p).settings := postNotice_settings _ p s

theorem Frame.settings {ps : List Part} {s t : State} (h : Frame ps s t) (p : Port)
    (ports : Part.ports ∉ ps := by decide) : (t.port p).settings = (s.port p).settings := by
  rw [State.port, h.ports ports]
  rfl

/-! ### Aborted edits leave the settings of the ports -/

/-- The notes that a quarter strikes (R129). -/
def Chime.notes (c : Chime) (s : State) : List Note :=
  match c.tune with
  | some t => (s.tune t).notes
  | none => []

/-- The queue with a quarter's notes and strokes joined (R129). -/
def struck (c : Chime) (base : Instant) (s : State) : State :=
  let s' := match c.tune with
    | some t => enqueueNotes base .quarter (t.1 + 1) (noteTimes (c.notes s)) s
    | none => s
  match named 16 c.hourBell with
  | some b => enqueueStrokes (base + 10 * tuneUnits (c.notes s) + c.gap) c.pace b c.strokes s'
  | none => s'

theorem insertChime_eq (c : Chime) (base : Instant) (done : QuarterOutcome) (s : State) : insertChime c base done s =
    if s.room < (c.notes s).length + c.strokes then
      quarterSkipped .queueFull ((c.notes s).length + c.strokes) (setOutcome .queueFull c.index s)
    else setOutcome done c.index (struck c base s) := rfl

theorem struck_frame (c : Chime) (base : Instant) (s : State) : Frame [.queue] s (struck c base s) := by
  unfold struck
  dsimp only
  generalize c.notes s = ns
  have notes : Frame [.queue] s (match c.tune with
      | some t => enqueueNotes base .quarter (t.1 + 1) (noteTimes ns) s
      | none => s) := by
    split
    · exact enqueueNotes_frame _ _ _ _ _
    · exact Frame.refl _ _
  split
  · exact notes.trans (enqueueStrokes_frame _ _ _ _ _)
  · exact notes

theorem insertChime_settings (c : Chime) (base : Instant) (done : QuarterOutcome) (p : Port) (s : State) :
    ((insertChime c base done s).port p).settings = (s.port p).settings := by
  rw [insertChime_eq]
  split
  · rw [quarterSkipped, post_settings, (setOutcome_frame _ _ _).settings p]
  · rw [(setOutcome_frame _ _ _).settings p, (struck_frame c base s).settings p]

theorem tuneHandoff_settings (t : Fin 24) (p : Port) (s : State) :
    ((tuneHandoff t s).port p).settings = (s.port p).settings := by
  have held (u : State) : ((setHeld none u).port p).settings = (u.port p).settings := (setHeld_frame _ _).settings p
  unfold tuneHandoff
  split
  · rfl
  · split
    · split
      · unfold endHeldTune
        split
        · rfl
        · rw [held, insertChime_settings]
      · unfold endHeldFallback
        split
        · rfl
        · dsimp only
          rw [held, insertChime_settings]
      · rfl
    · rfl

theorem abortEdits_settings (p : Port) (s : State) : ((abortEdits s).port p).settings = (s.port p).settings := by
  refine foldl_keeps (P := fun u => (u.port p).settings = (s.port p).settings) (fun u t same => ?_) allTunes rfl
  unfold abortEdit
  split
  · rw [changeTune, tuneHandoff_settings, (State.setTune_frame _ _ _).settings p]
    exact same
  · exact same

/-! ### The end of a response, the holdoff and the attention line -/

theorem responseSent_idle {p : Port} (h : (s.port p).sending = none) : responseSent p s = s := by
  simp only [responseSent, h]

theorem responseSent_last {p : Port} {f : List Byte} (sends : (s.port p).sending = some f) (owes : (s.port p).owed = []) :
    responseSent p s = s.setPort p { s.port p with sending := none, between := false } := by
  simp only [responseSent, sends, owes]

theorem responseSent_next {p : Port} {f : List Byte} {tag : Byte} {rest : List Byte}
    (sends : (s.port p).sending = some f) (owes : (s.port p).owed = tag :: rest) :
    responseSent p s =
      s.setPort p { s.port p with sending := some (frame tag Status.busy.code []), between := true, owed := rest } := by
  simp only [responseSent, sends, owes]

theorem txen_iff (p : Port) (s : State) :
    s.txen p = true ↔ (s.port p).sending ≠ none ∧ (s.port p).between = false := by
  show (_ && !_) = true ↔ _
  simp [Option.isSome_iff_ne_none, State.port]

theorem holdoffOver_eq {p : Port} {x : Instant} (h : (s.port p).holdoffEnd = some x) :
    holdoffOver p s = if x ≤ s.now then s.setPort p { s.port p with holdoffEnd := none } else s := by
  simp [holdoffOver, h, reached]

/-- A count within the second ends the pause of TXEN between two responses (log entry 34). -/
theorem tick_port (p : Port) (within : s.tb.count + 1 < s.tb.len) : (tick s).port p = (s.port p).proceeds := by
  rw [tick, if_pos within]
  exact mapV_port LinkPort.proceeds p { s with tb := s.tb.tick }

/-- Settles O14, clause by clause from the operations of the transmitter. -/
theorem responsesHoldoffAndAttention : Obligations.ResponsesHoldoffAndAttention := by
  intro p s
  refine ⟨fun f sends owes => congrArg _ (responseSent_last sends owes),
    fun f tag rest sends owes => congrArg _ (responseSent_next sends owes), fun idle => congrArg _ (responseSent_idle idle),
    txen_iff p s, fun empty none within => ⟨tick s, ?_, ?_⟩, fun x ends => congrArg _ (holdoffOver_eq ends), ?_⟩
  · rw [step_idle empty, idle_of_none none]
  · rw [txen_iff, tick_port p within]
    simp [LinkPort.proceeds]
  · simp only [attn_eq, Bool.and_eq_true, Bool.not_eq_true', List.isEmpty_eq_false_iff, Option.isNone_iff_eq_none, and_assoc]

/-! ### The requests of a port -/

/-- Settles O15: the three replies of the port's own requests. -/
theorem noticeFetchRouteSetAndPortReset : Obligations.NoticeFetchRouteSetAndPortReset := by
  intro p tag s free
  obtain ⟨-, sends, owes⟩ := id free
  refine ⟨?fetch, fun routing enable holdoff binary => ?route,
    fun routing enable holdoff beyond => answers_all free (by rw [actNoticeRouteSet, yesNo_of_one_lt beyond]; rfl), ?reset⟩
  case fetch =>
    refine answers_all free ?_
    simp only [actNoticeFetch, accept, List.length_take, List.length_drop]
    rfl
  case route =>
    refine answers_all free ?_
    have enabled : yesNo enable = some (enable == 1) := by interval_cases enable <;> rfl
    have clamped : clamp 0 255 holdoff = min 255 holdoff := by simp [clamp]
    have flag : beFlag (enable == 1) = be1 enable := by interval_cases enable <;> rfl
    simp only [actNoticeRouteSet, enabled, clamped, accept, LinkPort.settings, flag]
  case reset =>
    have port : LinkPort.reset (portIndex p) (s.port p) = { coldPort (portIndex p) with
        rx := (s.port p).rx, lastByte := (s.port p).lastByte, between := (s.port p).between } := by
      simp only [LinkPort.reset, sends, owes]
      rfl
    refine answers_all free ?_
    simp only [actPortReset, port, accept]
    congr 1
    split
    · rw [abortEdits_settings, State.setPort_port_self]
      rfl
    · rw [State.setPort_port_self]
      rfl

end Sys2Proof.Machine
end

section
/-! SUPPORT. The floodlight channels: what switching, the sense watch and a derivation do, and their events. -/

namespace Sys2Proof.Machine

set_option Elab.async false

variable {s : State} {c : Fin 8}

/-! ### The sense watch and switching -/

/-- What a channel's record says of itself but for its watch, its cause of switching off and its derivation. -/
theorem tryWatch_light (c : Fin 8) (s : State) : (tryWatch c s).light c = { s.light c with
    watch := if watchReady c s then .running (if s.lines.lampSense[c] then none else some s.now) else (s.light c).watch } := by
  unfold tryWatch
  split
  · rw [State.setLight_light_self]
  · rfl

theorem tryWatch_ready (h : watchReady c s = true) : tryWatch c s =
    s.setLight c { s.light c with watch := .running (if s.lines.lampSense[c] then none else some s.now) } := if_pos h
theorem tryWatch_idle (h : watchReady c s = false) : tryWatch c s = s := if_neg (by simp [h])

theorem tryWatch_other {d : Fin 8} (h : d ≠ c) : (tryWatch c s).light d = s.light d := by
  unfold tryWatch
  split
  · exact State.setLight_light_ne s (Ne.symm h) _
  · rfl

@[simp] theorem channelNotice_light (left entered : ChannelState) (cause : LightCause) (d : Fin 8) :
    (channelNotice c left entered cause s).light d = s.light d := by
  rw [State.light, (channelNotice_frame s c left entered cause).lights, State.light]

theorem channelNotice_ne {left entered : ChannelState} (h : left ≠ entered) (cause : LightCause) :
    channelNotice c left entered cause s = post .channelState (c.1 + 1) (channelDetail left entered cause) s := if_neg h

/-- What a channel holds after it was switched on (R166), its watch apart. -/
theorem switchOn_light (c : Fin 8) (cause : LightCause) (s : State) : ∃ w, (switchOn c cause s).light c = { s.light c with
    switchOn := some s.now, warmEnd := some (s.now + (s.light c).warmUp * 1000), pendingOn := false, watch := w
    state := if (s.light c).warmUp = 0 then .lit else .warming } := by
  simp only [switchOn]
  rw [tryWatch_light]
  exact ⟨_, by rw [channelNotice_light, State.setLight_light_self]⟩

theorem switchOn_other {d : Fin 8} (cause : LightCause) (h : d ≠ c) : (switchOn c cause s).light d = s.light d := by
  simp only [switchOn]
  rw [tryWatch_other h, channelNotice_light, State.setLight_light_ne s (Ne.symm h)]

theorem switchOff_light (c : Fin 8) (off : OffCause) (cause : LightCause) (s : State) :
    (switchOff c off cause s).light c = (s.light c).switchedOff off s.now := by
  simp only [switchOff, channelNotice_light, State.setLight_light_self]

theorem switchOff_other {d : Fin 8} (off : OffCause) (cause : LightCause) (h : d ≠ c) :
    (switchOff c off cause s).light d = s.light d := by
  simp only [switchOff, channelNotice_light, State.setLight_light_ne s (Ne.symm h)]

/-! ### A derivation, by the channel's state (R164) -/

/-- The record of a channel with its derivation recorded. -/
def derivedRow (c : Fin 8) (s : State) : Channel := { s.light c with derived := desiredNow c s }

theorem recordDerived_eq (c : Fin 8) (s : State) : recordDerived c s = s.setLight c (derivedRow c s) := rfl

theorem recordDerived_light (c : Fin 8) (s : State) : (recordDerived c s).light c = derivedRow c s :=
  State.setLight_light_self s _ _

theorem deriveLight_eq (c : Fin 8) (s : State) : deriveLight c s =
    match (s.light c).state with
    | .off => if (desiredNow c s).desired && s.onMains then switchOn c .desired (recordDerived c s) else recordDerived c s
    | .warming => if (desiredNow c s).desired then recordDerived c s else switchOff c .desired .desired (recordDerived c s)
    | .lit => if (desiredNow c s).desired then recordDerived c s else switchOff c .desired .desired (recordDerived c s)
    | .cooling => s.setLight c { derivedRow c s with pendingOn := (desiredNow c s).desired }
    | .failed => recordDerived c s := by
  have row := recordDerived_light c s
  have state : ((recordDerived c s).light c).state = (s.light c).state := by rw [row]; rfl
  have desired : ((recordDerived c s).light c).derived.desired = (desiredNow c s).desired := by rw [row]; rfl
  have mains : (recordDerived c s).onMains = s.onMains := rfl
  unfold deriveLight
  dsimp only
  rw [state, desired, mains]
  cases cooling : (s.light c).state with
  | cooling =>
    have stays : (derivedRow c s).state = .cooling := cooling
    dsimp only
    rw [row, recordDerived_eq, State.setLight_setLight, stays]
  | _ => rfl

theorem deriveLight_on (off : (s.light c).state = .off) (wanted : (desiredNow c s).desired = true)
    (mains : s.onMains = true) : deriveLight c s = switchOn c .desired (s.setLight c (derivedRow c s)) := by
  rw [deriveLight_eq, off]
  exact if_pos (by rw [wanted, mains]; rfl)

theorem deriveLight_cooling (cooling : (s.light c).state = .cooling) :
    deriveLight c s = s.setLight c { derivedRow c s with pendingOn := (desiredNow c s).desired } := by
  rw [deriveLight_eq, cooling]

theorem deriveLight_dark (lit : (s.light c).state = .warming ∨ (s.light c).state = .lit)
    (unwanted : (desiredNow c s).desired = false) :
    deriveLight c s = switchOff c .desired .desired (s.setLight c (derivedRow c s)) := by
  rw [deriveLight_eq]
  rcases lit with state | state <;> (rw [state]; exact if_neg (by simp [unwanted]))

/-- A derivation that finds the channel as it is wanted to be only records itself. -/
theorem deriveLight_stays (off : (s.light c).state = .off → (desiredNow c s).desired = false ∨ s.onMains = false)
    (lit : (s.light c).state = .warming ∨ (s.light c).state = .lit → (desiredNow c s).desired = true)
    (warm : (s.light c).state ≠ .cooling) : deriveLight c s = s.setLight c (derivedRow c s) := by
  rw [deriveLight_eq]
  cases state : (s.light c).state with
  | off =>
    refine if_neg ?_
    rcases off state with no | no <;> simp [no]
  | warming => exact if_pos (lit (.inl state))
  | lit => exact if_pos (lit (.inr state))
  | cooling => exact absurd state warm
  | failed => rfl

/-- A derivation touches one channel. -/
theorem deriveLight_other {d : Fin 8} (h : d ≠ c) : (deriveLight c s).light d = s.light d := by
  have recorded : (recordDerived c s).light d = s.light d := State.setLight_light_ne s (Ne.symm h) _
  rw [deriveLight_eq]
  split
  · split
    · rw [switchOn_other _ h, recorded]
    · exact recorded
  · split
    · exact recorded
    · rw [switchOff_other _ _ h, recorded]
  · split
    · exact recorded
    · rw [switchOff_other _ _ h, recorded]
  · exact State.setLight_light_ne s (Ne.symm h) _
  · exact recorded

theorem battery_of_not_onMains : s.onMains = false ↔ s.supply.state = .battery := onMains_eq_false_iff

theorem onMains_iff : s.onMains = true ↔ s.supply.state = .mains := by
  rw [State.onMains, beq_iff_eq]

theorem sceneActive_iff (c : Fin 8) (date minute : Nat) (s : State) : sceneActive c date minute s = true ↔
    ∃ n m, (s.event n).kind = .scene m ∧ m.getLsbD c.1 = true ∧ windowTest date minute (s.event n) s = true := by
  simp only [sceneActive, allEvents, List.any_eq_true, List.mem_finRange, true_and, Bool.and_eq_true]
  constructor
  · rintro ⟨n, named, active⟩
    cases kind : (s.event n).kind with
    | scene m =>
      rw [kind] at named
      exact ⟨n, m, kind, named, active⟩
    | _ =>
      rw [kind] at named
      cases named
  · rintro ⟨n, m, kind, named, active⟩
    refine ⟨n, ?_, active⟩
    rw [kind]
    exact named

theorem ringers_iff (s : State) : s.ringers = true ↔ ∃ b, (s.bell b).holder = .ropes := by
  simp [State.ringers, allBells]

/-- The desired state of a channel (R163). -/
theorem desired_iff (c : Fin 8) (s : State) : (desiredNow c s).desired = true ↔
    (s.light c).configured = true ∧ ((s.light c).override = .forceOn ∨ ((s.light c).override = .auto ∧
      (((s.light c).follow = true ∧ s.ringers = true) ∨
        ∃ t, s.civilNow = some t ∧ sceneActive c t.day t.minute s = true))) := by
  have scene : (desiredNow c s).scene = true ↔ ∃ t, s.civilNow = some t ∧ sceneActive c t.day t.minute s = true := by
    unfold desiredNow
    dsimp only
    cases s.civilNow <;> simp
  rw [← scene]
  cases override : (s.light c).override <;> simp [desiredNow, override]

/-- Settles O54, by the five cases of a derivation. -/
theorem theDerivationOfAChannel : Obligations.TheDerivationOfAChannel := by
  refine ⟨fun c s => ?desired, fun c s => ⟨fun off wanted mains => ?on, fun off lit warm => ?stays, fun cooling => ?cooling,
    fun lit unwanted => ?dark⟩⟩
  case desired =>
    dsimp only
    rw [desired_iff, ringers_iff]
    simp only [sceneActive_iff, State.civilNow, Option.map_eq_some_iff]
    constructor
    · rintro ⟨configured, on | ⟨auto, ringers | ⟨t, ⟨l, label, rfl⟩, n, m, scene⟩⟩⟩
      · exact ⟨configured, .inl on⟩
      · exact ⟨configured, .inr ⟨auto, .inl ringers⟩⟩
      · exact ⟨configured, .inr ⟨auto, .inr ⟨l, n, m, label, scene⟩⟩⟩
    · rintro ⟨configured, on | ⟨auto, ringers | ⟨l, n, m, label, scene⟩⟩⟩
      · exact ⟨configured, .inl on⟩
      · exact ⟨configured, .inr ⟨auto, .inl ringers⟩⟩
      · exact ⟨configured, .inr ⟨auto, .inr ⟨_, ⟨l, label, rfl⟩, n, m, scene⟩⟩⟩
  case on =>
    obtain ⟨w, row⟩ := switchOn_light c .desired (s.setLight c (derivedRow c s))
    rw [← deriveLight_on off wanted (onMains_iff.2 mains), State.setLight_light_self] at row
    refine ⟨_, rfl, ?_, ?_, ?_, ?_, deriveLight_frame s c, fun d other => deriveLight_other other⟩
    · rw [row]
      rfl
    · rw [row]
      rfl
    · rw [row]
      rfl
    · rw [lamp_eq, row]
      dsimp only
      split <;> rfl
  case stays => exact deriveLight_stays (fun h => (off h).imp_right battery_of_not_onMains.2) lit warm
  case cooling => exact deriveLight_cooling cooling
  case dark =>
    have leaves : (s.light c).state ≠ if (s.light c).restrike = 0 then .off else .cooling := by
      rcases lit with state | state
      all_goals
        replace state : (s.light c).state = _ := state
        rw [state]
        split <;> simp
    dsimp only
    rw [deriveLight_dark lit unwanted]
    simp only [switchOff, State.setLight_light_self, State.setLight_setLight]
    exact channelNotice_ne leaves _

/-! ### The events of a channel -/

theorem overrideReached_iff (c : Fin 8) (s : State) : overrideReached c s = true ↔
    ∃ l x, s.tb.label = some l ∧ (s.light c).expiry = some x ∧ 0 ≤ (civilOf s.civil.offset l).dayMinute.diff x := by
  unfold overrideReached State.civilNow
  cases s.tb.label <;> cases (s.light c).expiry <;> simp

theorem watchReady_iff (c : Fin 8) (s : State) : watchReady c s = true ↔ (s.light c).state = .lit ∧
    (s.light c).sense = true ∧ (s.light c).watch = .idle ∧
    ((s.light c).kind = .discharge ∨ (s.light c).switchOn.getD 0 + 2000 ≤ s.now) := by
  simp only [watchReady, Bool.and_eq_true, beq_iff_eq, Bool.or_eq_true, decide_eq_true_eq, and_assoc]

theorem reached_some {x now : Instant} : reached (some x) now = true ↔ x ≤ now := decide_eq_true_iff

/-- A deadline that is absent or later than now is not reached. -/
theorem reached_eq_false {e : Option Instant} {now : Instant} (h : e = none ∨ ∃ x, e = some x ∧ now < x) :
    reached e now = false := by
  rcases h with none | ⟨x, some, later⟩
  · rw [none]
    rfl
  · rw [some]
    exact decide_eq_false (Nat.not_le.mpr later)

theorem lampAbsent_iff (c : Fin 8) (s : State) : lampAbsent c s = true ↔
    (s.light c).state = .lit ∧ ∃ x, (s.light c).watch = .running (some x) ∧ x + 10000 ≤ s.now := by
  unfold lampAbsent
  dsimp only
  split
  next x lit watch =>
    rw [decide_eq_true_iff]
    exact ⟨fun late => ⟨lit, x, watch, late⟩, fun ⟨_, y, other, late⟩ => by
      rw [watch] at other
      cases other
      exact late⟩
  next others => exact ⟨fun h => absurd h (by simp), fun ⟨lit, x, watch, _⟩ => absurd watch (others x lit)⟩

theorem not_isHeld (free : s.warm.held = none) : s.isHeld = false := by rw [State.isHeld, free]; rfl

theorem warmupEnd_due {x : Instant} (free : s.warm.held = none) (warming : (s.light c).state = .warming)
    (ends : (s.light c).warmEnd = some x) (due : x ≤ s.now) : warmupEnd c s =
      tryWatch c (post .channelState (c.1 + 1) (channelDetail .warming .lit .warmed)
        (s.setLight c { s.light c with state := .lit })) := by
  simp only [warmupEnd]
  rw [if_neg]
  · rfl
  · simp [not_isHeld free, warming, ends, reached_some.2 due]

theorem warmupEnd_early (h : s.warm.held ≠ none ∨ (s.light c).state ≠ .warming ∨ (s.light c).warmEnd = none ∨
    ∃ x, (s.light c).warmEnd = some x ∧ s.now < x) : warmupEnd c s = s := by
  refine if_pos ?_
  simp only [Bool.or_eq_true]
  rcases h with held | other | early
  · exact .inl (.inl (isHeld_of_ne held))
  · exact .inl (.inr (by simp [other]))
  · exact .inr (by simp [reached_eq_false early])

theorem restrikeExpiry_due {x : Instant} (free : s.warm.held = none) (cooling : (s.light c).state = .cooling)
    (ends : (s.light c).restrikeExpiry = some x) (due : x ≤ s.now) : restrikeExpiry c s =
      if (desiredNow c s).desired && s.onMains then switchOn c .expiry (s.setLight c (derivedRow c s))
      else post .channelState (c.1 + 1) (channelDetail .cooling .off .expiry)
        (s.setLight c { derivedRow c s with state := .off, pendingOn := false }) := by
  simp only [restrikeExpiry]
  rw [if_neg, recordDerived_light, recordDerived_eq, State.setLight_setLight]
  · rfl
  · simp [not_isHeld free, cooling, ends, reached_some.2 due]

theorem restrikeExpiry_early (h : s.warm.held ≠ none ∨ (s.light c).state ≠ .cooling ∨
    ∃ x, (s.light c).restrikeExpiry = some x ∧ s.now < x) : restrikeExpiry c s = s := by
  refine if_pos ?_
  simp only [Bool.or_eq_true]
  rcases h with held | other | early
  · exact .inl (.inl (isHeld_of_ne held))
  · exact .inl (.inr (by simp [other]))
  · exact .inr (by simp [reached_eq_false (.inr early)])

theorem senseWatchStart_free (free : s.warm.held = none) : senseWatchStart c s = tryWatch c s :=
  if_neg (by simp [not_isHeld free])

theorem lampFailed_due {x : Instant} (free : s.warm.held = none) (lit : (s.light c).state = .lit)
    (watch : (s.light c).watch = .running (some x)) (due : x + 10000 ≤ s.now) : lampFailed c s =
      post .channelState (c.1 + 1) (channelDetail .lit .failed .sense)
        (post .lampFailed (c.1 + 1) (lampDetail (s.light c).kind ((s.now - (s.light c).switchOn.getD 0) / 1000))
          (s.setLight c { (s.light c).switchedOff .sense s.now with state := .failed })) := by
  simp only [lampFailed]
  rw [if_neg]
  · rfl
  · simp [not_isHeld free, (lampAbsent_iff c s).2 ⟨lit, x, watch, due⟩]

theorem lampFailed_early (h : s.warm.held ≠ none ∨ lampAbsent c s = false) : lampFailed c s = s := by
  refine if_pos ?_
  rcases h with held | present
  · rw [isHeld_of_ne held]
    rfl
  · rw [present, Bool.not_false, Bool.or_true]

/-- Settles O55, event by event. -/
theorem theEventsOfAChannel : Obligations.TheEventsOfAChannel := by
  intro c s
  refine ⟨fun l x free label expiry => ?expires, fun early => congrArg Host.Outcome.next ?stands, fun free => congrArg Host.Outcome.next ?tests,
    fun x free warming ends due => congrArg Host.Outcome.next (warmupEnd_due free warming ends due),
    fun early => congrArg Host.Outcome.next (warmupEnd_early early), fun x free cooling ends due unwanted => congrArg Host.Outcome.next ?rested,
    fun x free cooling ends due wanted mains => congrArg Host.Outcome.next ?relit, fun early => congrArg Host.Outcome.next (restrikeExpiry_early early),
    fun free lit sense idle past => congrArg Host.Outcome.next ?watched, fun early => congrArg Host.Outcome.next ?unwatched,
    fun current => ⟨fun idle => ?unseen, fun a watch => ?seen⟩,
    fun x free lit watch due => congrArg Host.Outcome.next (lampFailed_due free lit watch due), fun early => ?present⟩
  case expires =>
    refine congrArg Host.Outcome.next ((if_neg (by simp [not_isHeld free])).trans ?_)
    refine if_congr ?_ rfl rfl
    rw [overrideReached_iff, label, expiry]
    simp
  case stands =>
    show overrideExpiry c s = s
    unfold overrideExpiry
    rcases early with held | none
    · exact if_pos (isHeld_of_ne held)
    · split
      · rfl
      · refine if_neg ?_
        rw [overrideReached_iff]
        rintro ⟨l, x, label, expiry, -⟩
        rcases none with no | no
        · rw [no] at label
          cases label
        · rw [no] at expiry
          cases expiry
  case tests => exact if_neg (by simp [not_isHeld free])
  case rested =>
    rw [restrikeExpiry_due free cooling ends due, if_neg]
    · rfl
    · rcases unwanted with no | battery
      · simp [no]
      · simp [battery_of_not_onMains.2 battery]
  case relit =>
    rw [restrikeExpiry_due free cooling ends due, wanted, onMains_iff.2 mains]
    rfl
  case watched =>
    rw [senseWatchStart_free free, tryWatch_ready]
    rw [watchReady_iff]
    refine ⟨lit, sense, idle, past.imp_right ?_⟩
    rintro ⟨x, on, late⟩
    rw [on]
    exact late
  case unwatched =>
    show senseWatchStart c s = s
    rcases early with held | others
    · exact if_pos (isHeld_of_ne held)
    · unfold senseWatchStart
      split
      · rfl
      · refine tryWatch_idle (Bool.eq_false_iff.2 fun ready => ?_)
        obtain ⟨lit, sense, idle, past⟩ := (watchReady_iff c s).1 ready
        rcases others with no | no | no | ⟨relay, x, on, early⟩
        · exact no lit
        · rw [no] at sense
          cases sense
        · exact no idle
        · rcases past with discharge | late
          · rw [relay] at discharge
            cases discharge
          · rw [on] at late
            exact Nat.not_lt.mpr late early
  case unseen =>
    show Host.Outcome.next (lampSenseChange c current s) = _
    simp only [lampSenseChange, State.setLines_light, idle]
  case seen =>
    show Host.Outcome.next (lampSenseChange c current s) = _
    simp only [lampSenseChange, State.setLines_light, watch]
    rfl
  case present =>
    refine congrArg Host.Outcome.next (lampFailed_early (early.imp_right fun others => Bool.eq_false_iff.2 fun absent => ?_))
    obtain ⟨lit, y, watch, late⟩ := (lampAbsent_iff c s).1 absent
    rcases others with no | no | no | ⟨x, other, soon⟩
    · exact no lit
    · rw [watch] at no
      cases no
    · rw [watch] at no
      cases no
    · rw [watch] at other
      cases other
      exact Nat.not_lt.mpr late soon

end Sys2Proof.Machine
end

section
/-! SUPPORT. The requests of a channel: what they write, and what each of their refusals is. -/

namespace Sys2Proof.Machine

set_option Elab.async false

variable {s : State} {c : Fin 8}

/-! ### What a derivation leaves of a channel's record -/

/-- The configuration of a channel as its response gives it, its override and its expiry. -/
def Channel.settings (r : Channel) : List Byte × Override × Option DayMinute := (r.configBytes, r.override, r.expiry)

theorem deriveLight_settings (c : Fin 8) (s : State) : ((deriveLight c s).light c).settings = (s.light c).settings := by
  have row := recordDerived_light c s
  have on (cause : LightCause) : ((switchOn c cause (recordDerived c s)).light c).settings = (s.light c).settings := by
    obtain ⟨w, lit⟩ := switchOn_light c cause (recordDerived c s)
    rw [lit, row]
    rfl
  have off : ((switchOff c .desired .desired (recordDerived c s)).light c).settings = (s.light c).settings := by
    rw [switchOff_light, row]
    rfl
  rw [deriveLight_eq]
  split
  · split
    · exact on _
    · rw [row]
      rfl
  · split
    · rw [row]
      rfl
    · exact off
  · split
    · rw [row]
      rfl
    · exact off
  · rw [State.setLight_light_self]
    rfl
  · rw [row]
    rfl

/-- A derivation fails no channel. -/
theorem deriveLight_state_ne_failed (sound : (s.light c).state ≠ .failed) : ((deriveLight c s).light c).state ≠ .failed := by
  have row := recordDerived_light c s
  have recorded : ((recordDerived c s).light c).state ≠ .failed := by
    rw [row]
    exact sound
  have off : ((switchOff c .desired .desired (recordDerived c s)).light c).state ≠ .failed := by
    rw [switchOff_light]
    simp only [Channel.switchedOff]
    split <;> simp
  rw [deriveLight_eq]
  split
  · split
    · obtain ⟨w, lit⟩ := switchOn_light c .desired (recordDerived c s)
      rw [lit]
      dsimp only
      split <;> simp
    · exact recorded
  · split
    · exact recorded
    · exact off
  · split
    · exact recorded
    · exact off
  · rw [State.setLight_light_self]
    exact sound
  · exact recorded

/-! ### Operands -/

theorem yesNo_of_le {n : Nat} (h : n ≤ 1) : yesNo n = some (n == 1) := by
  interval_cases n <;> rfl

theorem lampKindOf_code (k : LampKind) : lampKindOf k.code = some k := by cases k <;> rfl
theorem lampKindOf_none {n : Nat} (h : 1 < n) : lampKindOf n = none := by
  rw [lampKindOf, if_neg (by omega), if_neg (by omega)]
theorem overrideOf_code (m : Override) : overrideOf m.code = some m := by cases m <;> rfl
theorem overrideOf_none {n : Nat} (h : 2 < n) : overrideOf n = none := by
  rw [overrideOf, if_neg (by omega), if_neg (by omega), if_neg (by omega)]
theorem overrideOf_eq_some {n : Nat} {m : Override} (h : overrideOf n = some m) : n = m.code := by
  unfold overrideOf at h
  split_ifs at h with off on auto <;> (cases h; assumption)

theorem revisionOk_iff (expected actual : Nat) : revisionOk expected actual = true ↔ expected = 255 ∨ expected = actual := by
  rw [revisionOk, Bool.or_eq_true, beq_iff_eq, beq_iff_eq]

theorem permits_of_ne_l2 {r : Req} {p : Port} (h : p ≠ .l2) (l1 : r.permits .l1 = true := by rfl)
    (l3 : r.permits .l3 = true := by rfl) : r.permits p = true := by
  cases p with
  | l1 => exact l1
  | l2 => exact absurd rfl h
  | l3 => exact l3

/-! ### LIGHT_CONFIG -/

/-- A LIGHT_CONFIG whose operands are in their ranges. -/
structure LightNamed (a : LightArgs) (c : Fin 8) (k : LampKind) : Prop where
  channel : a.channel = c.1 + 1
  configured : a.configured ≤ 1
  kind : a.kind = k.code
  follow : a.follow ≤ 1
  sense : a.sense ≤ 1

/-- LIGHT_CONFIG with its operands resolved (R176). -/
theorem actLightConfig_named {a : LightArgs} {k : LampKind} (h : LightNamed a c k) (s : State) : actLightConfig a s =
    if !revisionOk a.revision (s.light c).revision then refuseStale (s.light c).revision s
    else if k ≠ (s.light c).kind ∧ (s.light c).state ≠ .off then refuse .busy s
    else if (a.configured == 1) ≠ (s.light c).configured ∧ (s.light c).state ≠ .off ∧
        !((s.light c).state = .failed ∧ (a.configured == 1) = false) then refuse .busy s
    else
      let t := writeLight c (a.configured == 1) k (a.follow == 1) (a.sense == 1) a s
      accept ((t.light c).configBytes ++ be1 (t.light c).state.code) t := by
  rw [actLightConfig, h.channel, named_succ]
  dsimp only
  rw [h.kind, lampKindOf_code, yesNo_of_le h.configured, yesNo_of_le h.follow, yesNo_of_le h.sense]

theorem actLightConfig_range {a : LightArgs} (h : a.channel = 0 ∨ 8 < a.channel ∨ 1 < a.configured ∨ 1 < a.kind ∨
    1 < a.follow ∨ 1 < a.sense) (s : State) : actLightConfig a s = ⟨s, .range, []⟩ := by
  unfold actLightConfig
  split
  · rfl
  next c number =>
    have inRange := c.2
    have channel := named_eq_some number
    dsimp only
    split
    next configured kind follow sense =>
      rcases h with h | h | h | h | h | h
      · omega
      · omega
      · rw [yesNo_of_one_lt h] at configured
        cases configured
      · rw [lampKindOf_none h] at kind
        cases kind
      · rw [yesNo_of_one_lt h] at follow
        cases follow
      · rw [yesNo_of_one_lt h] at sense
        cases sense
    · rfl

/-- The sense watch of a channel whose configuration was just written (R176). -/
theorem written_watch (c : Fin 8) (w : Channel) (left : ChannelState) (s : State)
    (leaves : w.state ≠ left → w.state ≠ .lit) :
    tryWatch c (channelNotice c left w.state .config (s.setLight c w)) =
      let written := { w with
        watch := if watchReady c (s.setLight c w) then .running (if s.lines.lampSense[c] then none else some s.now) else w.watch }
      if w.state = left then s.setLight c written
      else post .channelState (c.1 + 1) (channelDetail left w.state .config) (s.setLight c written) := by
  dsimp only
  by_cases same : w.state = left
  · rw [if_pos same, channelNotice, if_pos same.symm]
    by_cases ready : watchReady c (s.setLight c w) = true
    · rw [tryWatch_ready ready, if_pos ready, State.setLight_light_self, State.setLight_setLight]
      rfl
    · rw [tryWatch_idle (Bool.eq_false_iff.2 ready), if_neg ready]
  · have lit := leaves same
    have notReady (u : State) (row : u.light c = w) : watchReady c u = false := by
      refine Bool.eq_false_iff.2 fun ready => lit ?_
      rw [← row]
      exact ((watchReady_iff c u).1 ready).1
    rw [if_neg same, channelNotice_ne (Ne.symm same), tryWatch_idle, notReady _ (State.setLight_light_self s c w)]
    · rfl
    · exact notReady _ (by rw [post_light, State.setLight_light_self])

theorem lampTime_eq (given top discharge : Nat) (k : LampKind) : lampTime given top discharge k =
    if given = 0xFFFF then (if k = .discharge then discharge else 0) else min top given := by
  cases k <;> simp [lampTime, clamp]

theorem reached_iff (e : Option Instant) (now : Instant) : reached e now = true ↔ ∃ x, e = some x ∧ x ≤ now := by
  cases e <;> simp [reached]

/-- The record that an accepted LIGHT_CONFIG leaves before it is derived (R176). -/
def configuredRow (c : Fin 8) (k : LampKind) (a : LightArgs) (s : State) : Channel :=
  let r := s.light c
  { r with
    configured := a.configured == 1, kind := k, follow := a.follow == 1, sense := a.sense == 1
    warmUp := if a.warmUp = 0xFFFF then (if k = .discharge then 180 else 0) else min 600 a.warmUp
    restrike := if a.restrike = 0xFFFF then (if k = .discharge then 600 else 0) else min 1800 a.restrike
    revision := nextRevision r.revision
    override := if a.configured = 0 then .auto else r.override
    expiry := if a.configured = 0 then none else r.expiry
    state := if r.state = .failed ∧ r.configured = true ∧ a.configured = 0 then
        (if (∃ x, r.restrikeExpiry = some x ∧ x ≤ s.now) then .off else .cooling)
      else r.state
    watch := if a.sense = 0 then .idle
      else if r.state = .lit ∧ r.watch = .idle ∧ (k = .discharge ∨ r.switchOn.getD 0 + 2000 ≤ s.now) then
        .running (if s.lines.lampSense[c] = true then none else some s.now)
      else r.watch }

theorem configuredRow_eq {a : LightArgs} {k : LampKind} (h : LightNamed a c k) (s : State) :
    let w := (s.light c).written (a.configured == 1) k (a.follow == 1) (a.sense == 1) a s.now
    configuredRow c k a s = { w with
      watch := if watchReady c (s.setLight c w) then .running (if s.lines.lampSense[c] then none else some s.now) else w.watch } := by
  intro w
  have ready : (watchReady c (s.setLight c w) = true) ↔ (w.state = .lit ∧ w.sense = true ∧ w.watch = .idle ∧
      (w.kind = .discharge ∨ w.switchOn.getD 0 + 2000 ≤ s.now)) := by
    rw [watchReady_iff, State.setLight_light_self]
    rfl
  have binary := h.configured
  have sensed := h.sense
  simp only [ready, configuredRow]
  simp only [w, Channel.written, lampTime_eq, ← reached_iff]
  by_cases failed : (s.light c).configured = true ∧ (s.light c).state = .failed
  · obtain ⟨configured, failed⟩ := failed
    interval_cases a.configured <;> interval_cases a.sense <;> simp [configured, failed]
    all_goals split <;> simp_all
  · interval_cases a.configured <;> interval_cases a.sense <;> simp [failed]
    all_goals exact fun isFailed configured => absurd ⟨configured, isFailed⟩ failed

/-- LIGHT_CONFIG writes the record, reports a cleared failure and derives the channel (R176). -/
theorem writeLight_configuredRow {a : LightArgs} {k : LampKind} (h : LightNamed a c k) (s : State) :
    writeLight c (a.configured == 1) k (a.follow == 1) (a.sense == 1) a s =
      deriveLight c (if (configuredRow c k a s).state = (s.light c).state then s.setLight c (configuredRow c k a s)
        else post .channelState (c.1 + 1) (channelDetail .failed (configuredRow c k a s).state .config)
          (s.setLight c (configuredRow c k a s))) := by
  have row := configuredRow_eq h s
  rw [writeLight_eq]
  dsimp only at row ⊢
  generalize made : (s.light c).written (a.configured == 1) k (a.follow == 1) (a.sense == 1) a s.now = w at row ⊢
  have state : (configuredRow c k a s).state = w.state := by rw [row]
  have clears : w.state ≠ (s.light c).state → (s.light c).state = .failed ∧ w.state ≠ .lit := by
    rw [← made, written_state]
    split
    next clearing =>
      intro
      refine ⟨clearing.2.2, ?_⟩
      split <;> simp
    · exact fun stays => absurd rfl stays
  rw [written_watch c w _ s fun leaves => (clears leaves).2, state, ← row]
  dsimp only
  by_cases same : w.state = (s.light c).state
  · rw [if_pos same, if_pos same]
  · rw [if_neg same, if_neg same, (clears same).1]

/-! ### The other requests -/

theorem actLightOverride_accepts {m : Override} (configured : (s.light c).configured = true) :
    actLightOverride (c.1 + 1) m.code 0xFFFF s = setOverride c m none s := by
  simp only [actLightOverride, named_succ, overrideOf_code, configured]
  rfl

theorem actLightOverride_until {m : Override} {u : Nat} (configured : (s.light c).configured = true) (forced : m ≠ .auto)
    (minute : u ≤ 1439) : actLightOverride (c.1 + 1) m.code u s =
      match s.civilNow with
      | none => refuse .unset s
      | some t => setOverride c m (some (nextOccurrence t u)) s := by
  have timed : u ≠ 0xFFFF := by omega
  have legal : ¬ (u ≠ 0xFFFF ∧ (1439 < u ∨ m = .auto)) := fun h => h.2.elim (Nat.not_lt.mpr minute) forced
  simp only [actLightOverride, named_succ, overrideOf_code, if_neg legal, configured]
  exact if_neg timed

theorem actLightOverride_notFitted {m : Override} {u : Nat} (unconfigured : (s.light c).configured = false)
    (legal : u = 0xFFFF ∨ (u ≤ 1439 ∧ m ≠ .auto)) : actLightOverride (c.1 + 1) m.code u s = ⟨s, .notFitted, []⟩ := by
  have inRange : ¬ (u ≠ 0xFFFF ∧ (1439 < u ∨ m = .auto)) := by
    rcases legal with never | ⟨minute, forced⟩
    · exact fun h => h.1 never
    · exact fun h => h.2.elim (Nat.not_lt.mpr minute) forced
  simp only [actLightOverride, named_succ, overrideOf_code, if_neg inRange, unconfigured]
  rfl

theorem actLightOverride_range {channel mode u : Nat}
    (h : channel = 0 ∨ 8 < channel ∨ 2 < mode ∨ (u ≠ 0xFFFF ∧ (1439 < u ∨ mode = Override.auto.code))) (s : State) :
    actLightOverride channel mode u s = ⟨s, .range, []⟩ := by
  unfold actLightOverride
  split
  · rfl
  next c number =>
    have inRange := c.2
    have channel := named_eq_some number
    split
    · rfl
    next m mode =>
      rcases h with h | h | h | ⟨timed, wrong⟩
      · omega
      · omega
      · rw [overrideOf_none h] at mode
        cases mode
      · refine if_pos ⟨timed, wrong.imp_right fun auto => ?_⟩
        rw [auto, overrideOf_code] at mode
        cases mode
        rfl

theorem actLightFaultClear_range {n : Nat} (h : n = 0 ∨ 8 < n) (s : State) : actLightFaultClear n s = ⟨s, .range, []⟩ := by
  rw [actLightFaultClear, named_none h]
  rfl

theorem actLightFaultClear_clears (failed : (s.light c).state = .failed) :
    let st : ChannelState := if reached (s.light c).restrikeExpiry s.now then .off else .cooling
    let t := deriveLight c (post .channelState (c.1 + 1) (channelDetail .failed st .clear)
      (s.setLight c { s.light c with state := st }))
    actLightFaultClear (c.1 + 1) s = ⟨t, .ok, be1 (t.light c).state.code ++ beSpan ((t.light c).restrikeLeft s.now)⟩ := by
  intro st t
  have leaves : ChannelState.failed ≠ st := by
    simp only [st]
    split <;> simp
  have now : t.now = s.now := (deriveLight_frame _ c).now.trans (post_now _ _ _ _)
  simp only [actLightFaultClear, named_succ]
  rw [if_neg (by simp [failed]), channelNotice_ne leaves]
  show accept (be1 (t.light c).state.code ++ beSpan ((t.light c).restrikeLeft t.now)) t = _
  rw [now]
  rfl

theorem actLightFaultClear_refuses (sound : (s.light c).state ≠ .failed) :
    actLightFaultClear (c.1 + 1) s = ⟨s, .state, be1 (s.light c).state.code⟩ := by
  simp only [actLightFaultClear, named_succ]
  exact if_pos sound

/-- Settles O56, request by request. -/
theorem theRequestsOfAChannel : Obligations.TheRequestsOfAChannel := by
  intro c p tag s free
  refine ⟨fun a k role channel configured kind follow sense revision sameKind sameFit => ?config,
    fun a role wrong => answers free (actLightConfig_range wrong s) (permits_of_ne_l2 role),
    fun a k role channel configured kind follow sense revision other on => ?busyKind,
    fun a k role channel configured kind follow sense revision other on sound => ?busyFit,
    fun a k role channel configured kind follow sense bounded other => ?stale,
    fun m role fitted => ?override, fun m u l role fitted forced minute label => ?timed,
    fun m u role forced minute label fitted => ?unset,
    fun m u role fitted legal => answers free (actLightOverride_notFitted fitted legal) (role ▸ rfl),
    fun channel mode u role wrong => answers free (actLightOverride_range wrong s) (role ▸ rfl),
    fun channel role wrong => answers free (actLightFaultClear_range wrong s) (permits_of_ne_l2 role),
    fun role failed => ?clears, fun role sound => answers free (actLightFaultClear_refuses sound) (permits_of_ne_l2 role)⟩
  case config =>
    have names : LightNamed a c k := ⟨channel, configured, kind, follow, sense⟩
    intro written u t
    have writes : writeLight c (a.configured == 1) k (a.follow == 1) (a.sense == 1) a s = t := writeLight_configuredRow names s
    have recorded : (if written.state = (s.light c).state then u
        else post .channelState (c.1 + 1) (channelDetail .failed written.state .config) u).light c = written := by
      split
      · exact State.setLight_light_self s c written
      · rw [post_light]
        exact State.setLight_light_self s c written
    have settings : (t.light c).settings = written.settings := by
      rw [deriveLight_settings, recorded]
    simp only [Channel.settings, Prod.mk.injEq] at settings
    refine ⟨answers free ?_ (permits_of_ne_l2 role), settings.1, settings.2.1, settings.2.2, fun sound unfitted => ?_, ?_,
      fun d other => ?_⟩
    · have fresh : (!revisionOk a.revision (s.light c).revision) = false := by
        rw [(revisionOk_iff _ _).2 revision]
        rfl
      rw [actLightConfig_named names, fresh, if_neg (by simp), if_neg, if_neg, writes]
      · rfl
      · rintro ⟨other, on, unclear⟩
        rcases sameFit with same | off | ⟨failed, unfitted⟩
        · refine other ?_
          rw [Bool.eq_iff_iff, beq_iff_eq]
          exact same
        · exact on off
        · simp [failed, unfitted] at unclear
      · rintro ⟨other, on⟩
        exact sameKind.elim other on
    · refine deriveLight_state_ne_failed ?_
      rw [recorded]
      have idle := sound c
      show (if _ then _ else _ : ChannelState) ≠ _
      split
      · split <;> simp
      next unclear =>
        intro failed
        cases fitted : (s.light c).configured with
        | true => exact unclear ⟨failed, fitted, unfitted⟩
        | false => exact absurd (idle fitted) (by simp [failed])
    · refine Frame.after (deriveLight_frame _ c) ?_ (by decide)
      split
      · exact (State.setLight_frame s c written).mono (by decide)
      · exact ((State.setLight_frame s c written).mono (by decide)).trans ((post_frame _ _ _ _).mono (by decide))
    · rw [deriveLight_other other]
      split
      · exact State.setLight_light_ne s (Ne.symm other) _
      · rw [post_light]
        exact State.setLight_light_ne s (Ne.symm other) _
  case busyKind =>
    refine answers free ?_ (permits_of_ne_l2 role)
    rw [actLightConfig_named ⟨channel, configured, kind, follow, sense⟩, (revisionOk_iff _ _).2 revision, Bool.not_true,
      if_neg (by simp)]
    exact if_pos ⟨other, on⟩
  case busyFit =>
    refine answers free ?_ (permits_of_ne_l2 role)
    rw [actLightConfig_named ⟨channel, configured, kind, follow, sense⟩, (revisionOk_iff _ _).2 revision, Bool.not_true,
      if_neg (by simp)]
    split
    · rfl
    · refine if_pos ⟨fun same => other ?_, on, ?_⟩
      · rw [← same, beq_iff_eq]
      · simp only [Bool.not_eq_true', decide_eq_false_iff_not]
        rintro ⟨failed, unfitted⟩
        rw [beq_eq_false_iff_ne] at unfitted
        exact sound ⟨failed, by omega⟩
  case stale =>
    refine answers free ?_ (permits_of_ne_l2 role)
    have old : revisionOk a.revision (s.light c).revision = false :=
      Bool.eq_false_iff.2 fun ok => ((revisionOk_iff _ _).1 ok).elim bounded other
    rw [actLightConfig_named ⟨channel, configured, kind, follow, sense⟩, old]
    rfl
  case override =>
    exact answers free (actLightOverride_accepts fitted) (role ▸ rfl)
  case timed =>
    have civil : s.civilNow = some (civilOf s.civil.offset l) := by rw [State.civilNow, label]; rfl
    refine answers free ?_ (role ▸ rfl)
    rw [actLightOverride_until fitted forced minute, civil]
    rfl
  case unset =>
    have civil : s.civilNow = none := by rw [State.civilNow, label]; rfl
    refine answers free ?_ (role ▸ rfl)
    rw [actLightOverride_until fitted forced minute, civil]
    rfl
  case clears =>
    have state : (if ∃ x, (s.light c).restrikeExpiry = some x ∧ x ≤ s.now then ChannelState.off else .cooling) =
        if reached (s.light c).restrikeExpiry s.now then .off else .cooling := if_congr (reached_iff _ _).symm rfl rfl
    dsimp only
    rw [state]
    exact answers free (actLightFaultClear_clears failed) (permits_of_ne_l2 role)

end Sys2Proof.Machine
end

section
/-! SUPPORT. The lines of the supply and of reset, and the chamber silence flag. -/

namespace Sys2Proof.Machine

set_option Elab.async false

variable {s : State}

/-! ### Lines and the battery-low mark (R180, R182, R185, R187) -/

theorem mainsOkChange_ne {high : Bool} (moves : s.lines.mainsOk ≠ high) : mainsOkChange high s = { s with
    lines := { s.lines with mainsOk := high }
    supply := { s.supply with debounce := if high = (s.supply.state == .battery) then some s.now else none } } :=
  if_neg moves

theorem battLowChange_ne {asserted : Bool} (moves : s.lines.battLow ≠ asserted) : battLowChange asserted s = { s with
    lines := { s.lines with battLow := asserted }
    supply := { s.supply with lowSince := if asserted = s.supply.low then none else some s.now } } := if_neg moves

theorem resetNChange_ne {high : Bool} (moves : s.lines.resetN ≠ high) : resetNChange high s = { s with
    lines := { s.lines with resetN := high }
    warm := { s.warm with since := if high = s.isHeld then some s.now else none } } := if_neg moves

theorem reportLow_eq (s : State) : reportLow s =
    if s.supply.state = .battery ∧ s.supply.low = true ∧ s.supply.reported = false then
      post .batteryLow 0 (supplySeconds s) { s with supply := { s.supply with reported := true } } else s := by
  unfold reportLow
  exact if_congr (by simp) rfl rfl

/-- A deadline that lies some time after an instant, which may be absent, is not reached before it. -/
theorem reached_after {e : Option Instant} {n : Nat} {now : Instant} (h : e = none ∨ ∃ x, e = some x ∧ now < x + n) :
    reached (e.map (· + n)) now = false := by
  refine reached_eq_false ?_
  rcases h with none | ⟨x, some, early⟩
  · exact .inl (by rw [none]; rfl)
  · exact .inr ⟨x + n, by rw [some]; rfl, early⟩

theorem reached_map {e : Option Instant} {x : Instant} {n : Nat} {now : Instant} (h : e = some x) (due : x + n ≤ now) :
    reached (e.map (· + n)) now = true := by
  rw [h]
  exact reached_some.2 due

theorem batteryLowSettled_due {x : Instant} (since : s.supply.lowSince = some x) (due : x + 1000 ≤ s.now) :
    batteryLowSettled s = reportLow { s with supply := { s.supply with low := s.lines.battLow, lowSince := none } } := by
  refine if_neg ?_
  rw [lowSettled, reached_map since due]
  simp

theorem batteryLowSettled_early (h : s.supply.lowSince = none ∨ ∃ x, s.supply.lowSince = some x ∧ s.now < x + 1000) :
    batteryLowSettled s = s := by
  refine if_pos ?_
  rw [lowSettled, reached_after h]
  rfl

/-- Settles O57, line by line. -/
theorem theSupplyAndResetLines : Obligations.TheSupplyAndResetLines := by
  intro high s
  refine ⟨fun same => congrArg Host.Outcome.next (if_pos same), fun moves => ?mains,
    fun same => congrArg Host.Outcome.next (if_pos same), fun moves => congrArg Host.Outcome.next (battLowChange_ne moves),
    fun same => congrArg Host.Outcome.next (if_pos same), fun moves => ?reset, fun x since due => ?low,
    fun early => congrArg Host.Outcome.next (batteryLowSettled_early early)⟩
  case mains =>
    refine congrArg Host.Outcome.next ((mainsOkChange_ne moves).trans ?_)
    have toward : (high = (s.supply.state == .battery)) ↔
        ((high = false ∧ s.supply.state = .mains) ∨ (high = true ∧ s.supply.state = .battery)) := by
      cases high <;> cases s.supply.state <;> simp
    simp only [toward]
  case reset =>
    refine congrArg Host.Outcome.next ((resetNChange_ne moves).trans ?_)
    have toward : (high = s.isHeld) ↔
        ((high = false ∧ s.warm.held = none) ∨ (high = true ∧ s.warm.held ≠ none)) := by
      rw [State.isHeld]
      cases high <;> cases s.warm.held <;> simp
    simp only [toward]
  case low =>
    refine congrArg Host.Outcome.next ((batteryLowSettled_due since due).trans ?_)
    rw [reportLow_eq]
    rfl

/-! ### The chamber silence flag (R142) -/

theorem actSilenceSet_eq {value : Nat} (binary : value ≤ 1) (s : State) : actSilenceSet value s =
    ⟨{ s with strike := { s.strike with silence := value == 0 } }, .ok, be1 value⟩ := by
  interval_cases value <;> rfl

theorem actSilenceSet_range {value : Nat} (h : 1 < value) (s : State) : actSilenceSet value s = ⟨s, .range, []⟩ := by
  rw [actSilenceSet, silenceOf, if_neg (by omega), if_neg (by omega)]
  rfl

/-- A quarter of a date that is not PENITENTIAL is silenced by the flag (R128). -/
theorem decideQuarter_silenced {i : Nat} (silent : s.strike.silence = true) (mains : s.onMains = true)
    (rings : s.classOf (s.quarterStart i).day ≠ .penitential) : decideQuarter i s = setOutcome .silenced i s := by
  have plan : ∃ n, planFor (s.classOf (s.quarterStart i).day) = some n := by
    cases cls : s.classOf (s.quarterStart i).day with
    | penitential => exact absurd cls rings
    | _ => exact ⟨_, rfl⟩
  obtain ⟨n, plan⟩ := plan
  simp only [decideQuarter, mains, plan, silent]
  rfl

theorem playTune_silenced (n : Fin 96) (tune : Nat) (silent : s.strike.silence = true) (mains : s.onMains = true) :
    playTune n tune s = (s, .silenced) := by
  have silenced : (match s.civilNow with
      | some c => s.classOf c.day == .penitential || s.strike.silence || silenceActive .clock c.day c.minute s
      | none => s.strike.silence) = true := by
    split <;> simp [silent]
  simp only [playTune, mains]
  exact if_pos silenced

/-- The supply, the warm reset and a port reset keep the flag. -/
theorem after_silence {c : Instr} (h : c = .warmResetEntry ∨ c = .warmResetCompletion ∨ c = .mainsLost ∨
    c = .mainsRestored ∨ ∃ p tag, c = .portReset p tag) (s : State) : (after c s).strike.silence = s.strike.silence := by
  refine (after_frame c s).silence ?_
  rcases h with rfl | rfl | rfl | rfl | ⟨p, tag, rfl⟩ <;> simp [writes]

/-- Settles O50, from the flag's one writer and its two readers. -/
theorem theChamberSilence : Obligations.TheChamberSilence := by
  refine ⟨fun tag value s free binary => answers free (actSilenceSet_eq binary s) rfl,
    fun tag value s free wrong => answers free (actSilenceSet_range wrong s) rfl,
    fun p tag value s role free => ?denied,
    fun i s silent mains rings => decideQuarter_silenced silent (onMains_iff.2 mains) rings,
    fun n tune s silent mains => playTune_silenced n tune silent (onMains_iff.2 mains), ?cold,
    fun c s t ran which => ?kept⟩
  case denied =>
    have refused : Req.silenceSet.permits p = false := by
      cases p with
      | l2 => exact absurd rfl role
      | _ => rfl
    exact congrArg Host.Outcome.next (request_denied tag _ free refused)
  case cold =>
    rintro s t ⟨⟩
    rfl
  case kept =>
    rw [← after_eq_of_exec ran]
    exact after_silence which s

end Sys2Proof.Machine
end

section
/-! SUPPORT. The reference receiver, byte by byte (R16, R17), and the requests of the Time Base (R5, R20, R23). -/

namespace Sys2Proof.Machine

set_option Elab.async false

variable {s : State}

/-! ### Numbers in bytes -/

theorem rd2_be2 {n : Nat} (h : n ≤ 65535) (bs : List Byte) : rd2 (be2 n ++ bs) 0 = n := by
  simp [rd2, rd1, be2]
  omega

theorem rd3_be3 {n : Nat} (h : n ≤ 16777215) (bs : List Byte) : rd3 (be3 n ++ bs) 0 = n := by
  simp [rd3, rd1, be3]
  omega

theorem rd1_drop (bs : List Byte) (k i : Nat) : rd1 (bs.drop k) i = rd1 bs (k + i) := by
  rw [rd1, rd1, List.getD_eq_getElem?_getD, List.getD_eq_getElem?_getD, List.getElem?_drop]

theorem rd2_drop (bs : List Byte) (k i : Nat) : rd2 (bs.drop k) i = rd2 bs (k + i) := by
  rw [rd2, rd2, rd1_drop, rd1_drop]
  rfl

theorem rd3_drop (bs : List Byte) (k i : Nat) : rd3 (bs.drop k) i = rd3 bs (k + i) := by
  rw [rd3, rd3, rd1_drop, rd1_drop, rd1_drop]
  rfl

/-! ### A byte on the message line -/

theorem messageByte_hunting {b : Byte} (hunts : s.ref.rx = []) :
    messageByte b s = if b = 0xC3 then s.setRef { s.ref with rx := [b], lastByte := s.now } else s := by
  unfold messageByte
  rw [refMessageGapTimeout_none s (.inl hunts)]
  dsimp only
  rw [if_pos hunts]

theorem messageByte_collecting {b : Byte} (begun : s.ref.rx ≠ []) (fresh : s.now ≤ s.ref.lastByte + 10)
    (short : s.ref.rx.length + 1 < 12) :
    messageByte b s = s.setRef { s.ref with rx := s.ref.rx ++ [b], lastByte := s.now } := by
  unfold messageByte
  rw [refMessageGapTimeout_none s (.inr fresh)]
  dsimp only
  rw [if_neg begun, if_pos short]

/-- What the twelfth byte leaves: the message it completes is stored WAITING, or discarded (R16, R17). -/
def messageTaken (o : Option (Label × Byte)) (s : State) : State :=
  match o with
  | some (l, q) => s.setRef { s.ref with
      rx := [], message := some { label := l, quality := q, arrival := s.now, pairing := .waiting } }
  | none => s.setRef { s.ref with rx := [] }

theorem messageByte_last {b : Byte} (begun : s.ref.rx ≠ []) (fresh : s.now ≤ s.ref.lastByte + 10)
    (full : s.ref.rx.length = 11) : messageByte b s = messageTaken (messageOf (s.ref.rx ++ [b])) s := by
  have short : ¬ s.ref.rx.length + 1 < 12 := by omega
  unfold messageByte
  rw [refMessageGapTimeout_none s (.inr fresh)]
  dsimp only
  rw [if_neg begun, if_neg short]
  rfl

/-- The state of the receiver with bytes collected up to now. -/
def collected (xs : List Byte) (s : State) : State := s.setRef { s.ref with rx := xs, lastByte := s.now }

theorem messageByte_collected {xs : List Byte} (begun : xs ≠ []) (short : xs.length + 1 < 12) (b : Byte) (s : State) :
    messageByte b (collected xs s) = collected (xs ++ [b]) s :=
  messageByte_collecting (s := collected xs s) begun (Nat.le_add_right _ _) short

/-- Bytes that come within one instant are collected until the eleventh. -/
theorem refMessageReceived_collecting (ys : List Byte) {xs : List Byte} (begun : xs ≠ [])
    (short : xs.length + ys.length < 12) (s : State) :
    refMessageReceived ys (collected xs s) = collected (xs ++ ys) s := by
  induction ys generalizing xs with
  | nil => simp [refMessageReceived]
  | cons y ys ih =>
    rw [List.length_cons] at short
    have next := messageByte_collected begun (by omega) y s
    have rest := ih (xs := xs ++ [y]) (by simp) (by rw [List.length_append, List.length_singleton]; omega)
    rw [List.append_assoc] at rest
    rw [refMessageReceived, List.foldl_cons, next]
    exact rest

theorem messageTaken_collected (o : Option (Label × Byte)) (xs ys : List Byte) (s : State) :
    messageTaken o (collected xs s) = messageTaken o (collected ys s) := by
  cases o <;> rfl

/-- A whole message that arrives at a hunting receiver (R16). -/
theorem refMessageReceived_message {bs : List Byte} (hunts : s.ref.rx = []) (ten : bs.length = 10) (c : Byte) :
    refMessageReceived (0xC3#8 :: bs ++ [c]) s = messageTaken (messageOf (0xC3#8 :: bs ++ [c])) (collected [] s) := by
  have start : messageByte 0xC3#8 s = collected [0xC3#8] s := (messageByte_hunting hunts).trans (if_pos rfl)
  have collects := refMessageReceived_collecting bs (xs := [0xC3#8]) (by simp) (by simp [ten]) s
  have ends := messageByte_last (s := collected (0xC3#8 :: bs) s) (b := c) (by simp [collected]) (Nat.le_add_right _ _)
    (by simp [collected, ten])
  rw [refMessageReceived, List.cons_append, List.foldl_cons, List.foldl_append, start]
  rw [refMessageReceived] at collects
  rw [collects]
  exact ends.trans (messageTaken_collected _ (0xC3#8 :: bs) [] s)

/-- Bytes other than the start byte are ignored while hunting. -/
theorem refMessageReceived_ignored (bs : List Byte) (hunts : s.ref.rx = []) (others : ∀ b ∈ bs, b ≠ 0xC3#8) :
    refMessageReceived bs s = s := by
  induction bs with
  | nil => rfl
  | cons b bs ih =>
    have ignored : messageByte b s = s := (messageByte_hunting hunts).trans (if_neg (others b List.mem_cons_self))
    rw [refMessageReceived, List.foldl_cons, ignored]
    exact ih fun x inside => others x (List.mem_cons_of_mem b inside)

theorem messageGap_iff (s : State) : messageGap s = true ↔ s.ref.rx ≠ [] ∧ s.ref.lastByte + 10 < s.now := by
  rw [messageGap, Bool.and_eq_true, bne_iff_ne, decide_eq_true_iff]

/-- The byte after a gap belongs to the hunt. -/
theorem messageByte_gap (begun : s.ref.rx ≠ []) (gap : s.ref.lastByte + 10 < s.now) (b : Byte) :
    messageByte b s = messageByte b (s.setRef { s.ref with rx := [] }) := by
  have abandons : refMessageGapTimeout s = s.setRef { s.ref with rx := [] } := if_pos ((messageGap_iff s).2 ⟨begun, gap⟩)
  have quiet : refMessageGapTimeout (s.setRef { s.ref with rx := [] }) = s.setRef { s.ref with rx := [] } :=
    refMessageGapTimeout_none _ (.inl rfl)
  unfold messageByte
  rw [abandons, quiet]

/-! ### What a whole message says -/

/-- A well-formed message is read as it was sent. -/
theorem messageOf_wellFormed {l : Label} (day : l.day ≤ 65535) (sec : l.sec ≤ 86399) (q : Byte) :
    let body := 0xC3#8 :: (be2 l.day ++ be3 l.sec ++ [q, 0, 0, 0, 0])
    messageOf (body ++ [sumByte body]) = some (l, q) := by
  intro body
  have days : rd2 (body ++ [sumByte body]) 1 = l.day := (rd2_drop (body ++ [sumByte body]) 1 0).symm.trans (rd2_be2 day _)
  have secs : rd3 (body ++ [sumByte body]) 3 = l.sec :=
    (rd3_drop (body ++ [sumByte body]) 3 0).symm.trans (rd3_be3 (by omega) _)
  have sum : sumByte ((body ++ [sumByte body]).take 11) = (body ++ [sumByte body]).getD 11 0 := rfl
  have zeros : ((body ++ [sumByte body]).drop 7).take 4 = [0, 0, 0, 0] := rfl
  unfold messageOf
  dsimp only
  rw [secs, days, if_pos ⟨sum, sec, zeros⟩]
  rfl

/-- A message with a wrong sum, a second out of range or a reserved byte that is not 0 says nothing. -/
theorem messageOf_bad {bs : List Byte} {c : Byte} (ten : bs.length = 10)
    (bad : c ≠ sumByte (0xC3#8 :: bs) ∨ 86399 < rd3 bs 2 ∨ bs.drop 6 ≠ [0, 0, 0, 0]) :
    messageOf (0xC3#8 :: bs ++ [c]) = none := by
  refine if_neg ?_
  rintro ⟨sum, sec, zeros⟩
  have front : (0xC3#8 :: bs ++ [c]).take 11 = 0xC3#8 :: bs := by
    rw [List.take_append_of_le_length (by simp [ten]), List.take_of_length_le (by simp [ten])]
  have last : (0xC3#8 :: bs ++ [c]).getD 11 0 = c := by simp [List.getD_eq_getElem?_getD, ten]
  have second : rd3 (0xC3#8 :: bs ++ [c]) 3 = rd3 bs 2 := by
    have inside (i : Nat) (h : i < 10) : rd1 (0xC3#8 :: bs ++ [c]) (i + 1) = rd1 bs i := by
      rw [List.cons_append, ← rd1_append (cs := [c]) (by omega : i < bs.length)]
      rfl
    rw [rd3, rd3, inside 2 (by omega), inside 3 (by omega), inside 4 (by omega)]
  have rest : ((0xC3#8 :: bs ++ [c]).drop 7).take 4 = bs.drop 6 := by
    rw [List.cons_append, List.drop_succ_cons, List.drop_append_of_le_length (by omega),
      List.take_append_of_le_length (by simp [ten]), List.take_of_length_le (by simp [ten])]
  rcases bad with wrong | late | reserved
  · rw [front, last] at sum
    exact wrong sum.symm
  · rw [second] at sec
    exact Nat.not_lt.mpr sec late
  · rw [rest] at zeros
    exact reserved zeros

/-! ### The expiry of a message -/

theorem refMessageExpired_eq {m : RefMessage} (h : s.ref.message = some m) : refMessageExpired s =
    if m.pairing = .waiting ∧ m.arrival + 1200 ≤ s.now then
      s.setRef { s.ref with message := some { m with pairing := .expired } } else s := by
  have expires : messageExpired s = true ↔ m.pairing = .waiting ∧ m.arrival + 1200 ≤ s.now := by
    simp only [messageExpired, h, Bool.and_eq_true, beq_iff_eq]
    exact and_congr_right fun _ => decide_eq_true_iff
  unfold refMessageExpired
  refine if_ctx_congr expires (fun due => ?_) fun _ => rfl
  simp only [RefRx.expire, h, Option.map_some, if_pos due.1]

theorem refMessageExpired_none (h : s.ref.message = none) : refMessageExpired s = s := by
  simp only [refMessageExpired, messageExpired, h]
  rfl

/-- Settles O26, from what each byte does and what a whole message says. -/
theorem theReferenceReceiver : Obligations.TheReferenceReceiver := by
  intro s
  refine ⟨fun l q hunts day sec => ?good, fun bs c hunts ten bad => ?bad,
    fun bs hunts others => congrArg Host.Outcome.next (refMessageReceived_ignored bs hunts others),
    fun begun gap b bs => ?gap, ?timeout, fun m waits => congrArg Host.Outcome.next (refMessageExpired_eq waits),
    fun none => congrArg Host.Outcome.next (refMessageExpired_none none)⟩
  case good =>
    have reads := messageOf_wellFormed day sec q
    have arrives := refMessageReceived_message hunts (bs := be2 l.day ++ be3 l.sec ++ [q, 0, 0, 0, 0]) rfl
      (sumByte (0xC3#8 :: (be2 l.day ++ be3 l.sec ++ [q, 0, 0, 0, 0])))
    dsimp only at reads
    rw [reads] at arrives
    exact congrArg Host.Outcome.next arrives
  case bad =>
    have arrives := refMessageReceived_message hunts ten c
    rw [messageOf_bad ten bad] at arrives
    exact congrArg Host.Outcome.next arrives
  case gap =>
    refine congrArg Host.Outcome.next (?_ : refMessageReceived (b :: bs) s = refMessageReceived (b :: bs) _)
    rw [refMessageReceived, refMessageReceived, List.foldl_cons, List.foldl_cons, messageByte_gap begun gap]
    rfl
  case timeout =>
    refine congrArg Host.Outcome.next (?_ : refMessageGapTimeout s = _)
    exact if_congr (messageGap_iff s) rfl rfl

/-! ### The requests of the Time Base -/

theorem permits_of_ne_l3 {r : Req} {p : Port} (h : p ≠ .l3) (l1 : r.permits .l1 = true := by rfl)
    (l2 : r.permits .l2 = true := by rfl) : r.permits p = true := by
  cases p with
  | l1 => exact l1
  | l2 => exact l2
  | l3 => exact absurd rfl h

theorem modeOf_code (m : RefMode) : modeOf m.code = some m := by cases m <;> rfl
theorem modeOf_none {n : Nat} (h : 2 < n) : modeOf n = none := by
  rw [modeOf, if_neg (by omega), if_neg (by omega), if_neg (by omega)]

theorem discardWaiting_eq (r : RefRx) :
    r.discardWaiting = { r with message := r.message.filter (fun x => decide (x.pairing ≠ .waiting)) } := by
  unfold RefRx.discardWaiting
  cases r.message with
  | none => rfl
  | some m => by_cases waits : m.pairing = .waiting <;> simp [waits, Option.filter]

/-- Another reference mode (R5): REF_OFF leaves every state but UNSET and FREE for FREE. -/
theorem changeMode_eq (m : RefMode) (s : State) :
    let s' := { s with
      tb := { s.tb with
        missed := 0, good := 0, outlier := 0, mismatch := 0, curMark := false, prevMark := false
        pendingLabel := if m = .full then none else s.tb.pendingLabel
        holdover := if m = .off ∧ s.tb.disc = .holdover then 0 else s.tb.holdover }
      ref := { s.ref with
        mode := m, continuity := none
        message := s.ref.message.filter (fun x => decide (x.pairing ≠ .waiting)) } }
    changeMode m s = if m = .off ∧ s.tb.disc ≠ .unset ∧ s.tb.disc ≠ .free then
      post .stateChanged 0 (pair s.tb.disc.code 1) { s' with tb := { s'.tb with disc := .free } } else s' := by
  intro s'
  have written : changeMode m s = if m = .off ∧ s.tb.disc ≠ .unset then setDisc .free s' else s' := by
    simp only [changeMode, discardWaiting_eq]
    rfl
  rw [written]
  by_cases off : m = .off ∧ s.tb.disc ≠ .unset
  · rw [if_pos off]
    by_cases free : s.tb.disc = .free
    · rw [setDisc_same s' free, if_neg]
      exact fun h => h.2.2 free
    · have count : (if s'.tb.disc = .acquire then 0 else s'.tb.good) = 0 := ite_self 0
      rw [setDisc_change s' free, count, if_pos (And.intro off.1 (And.intro off.2 free))]
      rfl
  · rw [if_neg off, if_neg]
    exact fun h => off ⟨h.1, h.2.1⟩

/-- Settles O27, request by request. -/
theorem timeBaseRequests : Obligations.TimeBaseRequests := by
  intro p tag s free role
  have early {day sec : Nat} (hd : day ≤ 65535) (hs : sec ≤ 86399) : ¬ (65535 < day ∨ 86399 < sec) := by omega
  refine ⟨fun day sec hd hs mode => ?set, fun day sec hd hs mode => ?full, fun day sec late => ?range,
    answers free rfl (permits_of_ne_l3 role), fun l1 m other => ?mode, fun l1 => ?same, fun l1 n wrong => ?unknown⟩
  case set =>
    refine answers free ?_ (permits_of_ne_l3 role)
    rw [actTimeSet, if_neg (early hd hs), if_neg mode]
    rfl
  case full =>
    refine answers free ?_ (permits_of_ne_l3 role)
    rw [actTimeSet, if_neg (early hd hs), if_pos mode]
    rfl
  case range => exact answers free (if_pos (.inr late)) (permits_of_ne_l3 role)
  case mode =>
    refine answers free ?_ (l1 ▸ rfl)
    rw [actRefModeSet, modeOf_code]
    dsimp only
    rw [if_neg other, changeMode_eq]
    rfl
  case same =>
    refine answers free ?_ (l1 ▸ rfl)
    rw [actRefModeSet, modeOf_code]
    exact if_pos rfl
  case unknown =>
    refine answers free ?_ (l1 ▸ rfl)
    rw [actRefModeSet, modeOf_none wrong]
    rfl

end Sys2Proof.Machine
end

section
/-! SUPPORT. Reference pulses outside LOCKED: pulses ignored, pulses in UNSET and in ACQUIRE, and the label check
(R6, R8, R9, R12, R13, R18, R19). -/

namespace Sys2Proof.Machine

set_option Elab.async false

variable {s s1 : State} {msg : Option Label} {e : Int}

/-! ### Notices and later writes -/

/-- A notice does not see what is written to the Time Base after it, but for run time and the label. -/
theorem post_setTb (k : NoticeKind) (i : Nat) (x : BitVec 16) {t : TimeBase} (up : t.uptime = s.tb.uptime)
    (label : t.label = s.tb.label) : (post k i x s).setTb t = post k i x (s.setTb t) := by
  simp only [post_eq, State.setTb_tb, up, label]
  by_cases held : s.warm.held = none
  · rw [postNotice_free s _ held, postNotice_free (s.setTb t) _ held]
    rfl
  · rw [postNotice_held s _ held, postNotice_held (s.setTb t) _ held, State.setTb_warm]
    split_ifs <;> rfl

theorem post_setRef (k : NoticeKind) (i : Nat) (x : BitVec 16) (r : RefRx) :
    (post k i x s).setRef r = post k i x (s.setRef r) := by
  simp only [post_eq, State.setRef_tb]
  by_cases held : s.warm.held = none
  · rw [postNotice_free s _ held, postNotice_free (s.setRef r) _ held]
    rfl
  · rw [postNotice_held s _ held, postNotice_held (s.setRef r) _ held, State.setRef_warm]
    split_ifs <;> rfl

/-! ### Ignored pulses (R6, R26) -/

theorem refPulse_of_idle (h : s.isHeld = true ∨ spurious s = true) : refPulse s = s :=
  if_pos (by rcases h with h | h <;> simp [h])

theorem refPulse_of_off (off : s.ref.mode = .off) : refPulse s = s := by
  unfold refPulse
  split
  · rfl
  · rw [off]

theorem refPulse_of_unqualified (full : s.ref.mode = .full) (none : qualifying s = none) : refPulse s = s := by
  unfold refPulse
  split
  · rfl
  · rw [full]
    dsimp only
    rw [none]

theorem spurious_of {x : Instant} (last : s.tb.lastAccepted = some x) (early : s.now < x + 500) : spurious s = true := by
  simp only [spurious, last, Config.spuriousGuard]
  exact decide_eq_true early

theorem qualifying_eq_none (h : ∀ m, s.ref.message = some m →
    (m.pairing ≠ .waiting ∨ m.quality ≠ 0#8 ∨ m.arrival + 1200 < s.now)) : qualifying s = none := by
  unfold qualifying
  split
  next m waits =>
    refine if_neg ?_
    rintro ⟨waiting, quality, fresh⟩
    rcases h m waits with other | other | late
    · exact other waiting
    · exact other quality
    · exact Nat.not_lt.mpr fresh late
  · rfl

/-! ### A taken pulse by the discipline state -/

/-- A pulse taken without a message is a pulse in REF_PULSE. -/
theorem PulseTaken.eq_of_none (h : PulseTaken s none s1) : s1 = s := by
  obtain ⟨-, -, ⟨-, -, same⟩ | ⟨-, none, some, -⟩⟩ := h
  · exact same
  · rw [Option.isSome_iff_exists] at some
    obtain ⟨m, some⟩ := some
    rw [some] at none
    cases none

theorem PulseTaken.now_eq (h : PulseTaken s msg s1) : s1.now = s.now := by rw [State.now, State.now, h.tb_eq]

theorem PulseTaken.continuity_eq (h : PulseTaken s msg s1) : s1.ref.continuity = s.ref.continuity := by
  obtain ⟨-, -, ⟨-, -, rfl⟩ | ⟨-, -, -, rfl⟩⟩ := h
  · rfl
  · split <;> rfl

theorem PulseTaken.frame (h : PulseTaken s msg s1) : Frame [.ref] s s1 := by
  obtain ⟨-, -, ⟨-, -, rfl⟩ | ⟨-, -, -, rfl⟩⟩ := h
  · exact Frame.refl _ _
  · split
    · exact Frame.refl _ _
    · exact State.setRef_frame _ _

theorem exec_refPulse_taken (h : PulseTaken s msg s1) : exec .refPulse s = .next (takenPulse msg s1) :=
  congrArg Host.Outcome.next (refPulse_taken h)

/-- A taken pulse in UNSET. -/
theorem takenPulse_unset (h : PulseTaken s msg s1) (unset : s.tb.disc = .unset) :
    takenPulse msg s1 = unsetPulse (pulseError s.tb.count s.tb.len) msg s1 := by
  simp only [takenPulse, h.tb_eq, unset]

/-- The state in which a pulse finds ACQUIRE: FREE and HOLDOVER become it first (R8). -/
def joined (s s1 : State) : State :=
  if s.tb.disc = .acquire then s1
  else post .stateChanged 0 (pair s.tb.disc.code 2) { s1 with tb := { s.tb with
    disc := .acquire, good := 0, outlier := 0
    holdover := if s.tb.disc = .holdover then 0 else s.tb.holdover } }

/-- A move from outside ACQUIRE keeps the good count. -/
theorem setDisc_setTb {d : Discipline} {t : TimeBase} (s : State) (moves : t.disc ≠ d) (outside : t.disc ≠ .acquire) :
    setDisc d (s.setTb t) = post .stateChanged 0 (pair t.disc.code d.code) (s.setTb { t with disc := d }) := by
  have good : (if t.disc = .acquire then 0 else t.good) = t.good := if_neg outside
  rw [setDisc_change (s := s.setTb t) (d := d) moves]
  exact congrArg (fun n => post .stateChanged 0 (pair t.disc.code d.code) (s.setTb { t with disc := d, good := n })) good

theorem takenPulse_acquire (h : PulseTaken s msg s1)
    (which : s.tb.disc = .acquire ∨ s.tb.disc = .free ∨ s.tb.disc = .holdover) :
    takenPulse msg s1 = acquirePulse (pulseError s.tb.count s.tb.len) msg (joined s s1) := by
  unfold takenPulse joined
  rw [h.tb_eq]
  rcases which with acquire | free | holdover
  · rw [acquire]
    rfl
  · have outside : s.tb.disc ≠ .acquire := by rw [free]; decide
    rw [if_neg outside, setDisc_setTb (t := { s.tb with good := 0, outlier := 0 }) s1 outside outside]
    rw [free]
    rfl
  · have outside : s.tb.disc ≠ .acquire := by rw [holdover]; decide
    rw [if_neg outside, setDisc_setTb (t := { s.tb with good := 0, outlier := 0, holdover := 0 }) s1 outside outside]
    rw [holdover]
    rfl

/-! ### Pulses in UNSET (R13) -/

theorem within_step {e : Int} (low : -419430 ≤ e) (high : e ≤ 419430) : within e Config.stepThreshold = true :=
  within_iff.2 ⟨low, high⟩

theorem within_lockWindow {e : Int} : within e Config.lockWindow = true ↔ -4194 ≤ e ∧ e ≤ 4194 := within_iff

theorem unsetPulse_alone (low : -419430 ≤ e) (high : e ≤ 419430) (s : State) : unsetPulse e none s =
    s.setTb { s.tb with lastAccepted := some s.now, curMark := true, missed := 0, slew := e } := by
  simp only [unsetPulse, within_step low high]
  rfl

/-- The first label (R13). -/
theorem firstLabel_eq (l : Label) (e : Int) (unset : s.tb.disc = .unset) : firstLabel l e s =
    post .stateChanged 0 (pair 0 2) { s with
      tb := { s.tb with
        label := some l, disc := .acquire, mismatch := 0, good := if -4194 ≤ e ∧ e ≤ 4194 then 1 else 0 }
      ref := { s.ref with continuity := none } } := by
  have moves : (s.setTb { s.tb with label := some l }).tb.disc ≠ .acquire := by simp [unset]
  have good : (if within e Config.lockWindow then 1 else 0) = if -4194 ≤ e ∧ e ≤ 4194 then 1 else 0 :=
    if_congr within_lockWindow rfl rfl
  simp only [firstLabel, setDisc_change _ moves, matchLabels, good]
  rw [post_setTb, post_setTb, post_setRef]
  · simp only [State.setTb_tb, post_tb, post_ref, unset]
    rfl
  all_goals simp

theorem unsetPulse_first (m : Label) (low : -419430 ≤ e) (high : e ≤ 419430) (unset : s.tb.disc = .unset) :
    unsetPulse e (some m) s = post .stateChanged 0 (pair 0 2) { s with
      tb := { s.tb with
        lastAccepted := some s.now, curMark := true, missed := 0, slew := e, mismatch := 0, disc := .acquire
        label := some (if 0 ≤ e then m else m.shift (-1))
        good := if -4194 ≤ e ∧ e ≤ 4194 then 1 else 0 }
      ref := { s.ref with continuity := none } } := by
  simp only [unsetPulse, within_step low high, if_true]
  rw [firstLabel_eq _ e (by exact unset)]
  rfl

theorem unsetPulse_cut (m : Label) (beyond : 419430 < e ∨ e < -419430) (s : State) : unsetPulse e (some m) s =
    finishSecond none none (firstLabel m e (beginSecond none
      (s.setTb { s.tb with lastAccepted := some s.now, curMark := true, missed := 0, slew := 0, good := 0 }))) := by
  simp only [unsetPulse, within_stepThreshold_eq_false beyond]
  rfl

/-- A pulse in UNSET gives the first label at a cut second too. -/
theorem firstLabel_tb (l : Label) (e : Int) (s : State) : (firstLabel l e s).tb = { s.tb with
    label := some l, disc := .acquire, mismatch := 0, good := if -4194 ≤ e ∧ e ≤ 4194 then 1 else 0 } := by
  have good : (if within e Config.lockWindow then 1 else 0) = if -4194 ≤ e ∧ e ≤ 4194 then 1 else 0 :=
    if_congr within_lockWindow rfl rfl
  simp only [firstLabel, matchLabels, State.setRef_tb, State.setTb_tb, setDisc_tb, good]

theorem firstLabel_ref (l : Label) (e : Int) (s : State) :
    (firstLabel l e s).ref = { s.ref with continuity := none } := by
  simp only [firstLabel, matchLabels, State.setRef_ref, State.setTb_ref, setDisc_ref]

theorem finishSecond_ref (old cmp : Option Label) (s : State) : (finishSecond old cmp s).ref = s.ref :=
  (finishSecond_frame s old cmp).ref

/-! ### The label check (R18, R19) -/

theorem consecutive_iff (m : Label) (delta : Int) (s : State) : consecutive m delta s = true ↔
    ∃ k, s.ref.continuity = some (k, delta) ∧ k.advance = m := by
  unfold consecutive
  cases s.ref.continuity with
  | none => simp
  | some kd =>
    obtain ⟨k, d⟩ := kd
    simp only [Bool.and_eq_true, beq_iff_eq, Option.some.injEq, Prod.mk.injEq]
    constructor
    · rintro ⟨next, same⟩
      exact ⟨k, ⟨rfl, same⟩, next⟩
    · rintro ⟨_, ⟨rfl, same⟩, next⟩
      exact ⟨next, same⟩

theorem countMismatch_consecutive (m : Label) (delta d : Int) (s : State) :
    consecutive m delta (countMismatch d s) = consecutive m delta s := by
  rw [consecutive, consecutive, countMismatch, post_ref]
  rfl

theorem labelCheck_same (m : Label) (s : State) : labelCheck m m s = matchLabels s := if_pos rfl

theorem labelCheck_first {m implied : Label} (differs : m ≠ implied)
    (new : ∀ k, s.ref.continuity = some (k, m.diff implied) → k.advance ≠ m) :
    labelCheck m implied s = (countMismatch (m.diff implied) s).setRef
      { (countMismatch (m.diff implied) s).ref with continuity := some (m, m.diff implied) } := by
  have lone : consecutive m (m.diff implied) s = false := Bool.eq_false_iff.2 fun again => by
    obtain ⟨k, record, next⟩ := (consecutive_iff m _ s).1 again
    exact new k record next
  simp only [labelCheck, if_neg differs, countMismatch_consecutive, lone]
  rfl

theorem labelCheck_second {m implied l : Label} (differs : m ≠ implied) (label : s.tb.label = some l)
    {k : Label} (record : s.ref.continuity = some (k, m.diff implied)) (next : k.advance = m) :
    labelCheck m implied s =
      relabel (m.diff implied) (l.shift (m.diff implied)) (matchLabels (countMismatch (m.diff implied) s)) := by
  have again : consecutive m (m.diff implied) s = true := (consecutive_iff m _ s).2 ⟨k, record, next⟩
  have running : (countMismatch (m.diff implied) s).label = some l := by
    rw [State.label, countMismatch_tb]
    exact label
  simp only [labelCheck, if_neg differs, countMismatch_consecutive, again, running]
  rfl

/-- The relabel by a second mismatch (R19). -/
theorem steppedLabel_tb (d : Int) (l : Label) (s : State) : (relabel d l (matchLabels (countMismatch d s))).tb =
    { s.tb with label := some l, mismatch := 0 } := by
  rw [relabel_tb, matchLabels, State.setRef_tb, State.setTb_tb, countMismatch_tb]

theorem steppedLabel_frame (d : Int) (l : Label) (s : State) : Frame [.tb, .ref, .days, .dials, .holders, .guards, .swings,
    .sessions, .queue, .quarters, .held, .tolls, .cal, .lights, .notices, .ports] s
    (relabel d l (matchLabels (countMismatch d s))) := by
  refine Frame.after (relabel_frame _ _ _) ?_ (by decide)
  refine Frame.after (State.setRef_frame _ _) (Frame.after (State.setTb_frame _ _) ?_ (by decide)) (by decide)
  exact Frame.after (post_frame _ _ _ _) ((State.setTb_frame s _).mono (by decide)) (by decide)

theorem steppedLabel_civilNow (d : Int) (s : State) : (matchLabels (countMismatch d s)).civilNow = s.civilNow := by
  have label : (matchLabels (countMismatch d s)).tb.label = s.tb.label := by
    rw [matchLabels, State.setRef_tb, State.setTb_tb, countMismatch_tb]
  have civil : (matchLabels (countMismatch d s)).civil = s.civil := by
    rw [matchLabels, State.setRef_civil, State.setTb_civil, countMismatch, post_civil, State.setTb_civil]
  rw [State.civilNow, label, civil]
  rfl

theorem steppedLabel_eq (d : Int) (l : Label) (s : State) :
    let counted := post .labelMismatch 0 (deltaDetail d)
      { s with tb := { s.tb with mismatch := min 255 (s.tb.mismatch + 1) } }
    let stepped := post .timeStepped 0 (deltaDetail d) { counted with
      tb := { counted.tb with mismatch := 0, label := some l }, ref := { counted.ref with continuity := none } }
    let dials := (List.finRange 4).foldl (fun u d => fullCause d u) (dateChange s.civilNow false stepped)
    let minutes := calendarCompare false (decide (1 ≤ d ∧ d ≤ 120)) (quarterStep d l dials)
    relabel d l (matchLabels (countMismatch d s)) =
      (List.finRange 8).foldl (fun u c => overrideTest c u) (recomputeWindows minutes.activeScenes minutes) := by
  unfold relabel
  rw [steppedLabel_civilNow]
  rfl

theorem checkPulse_eq {l : Label} (m : Label) (label : s.tb.label = some l) :
    checkPulse e (some m) s = labelCheck m (if 0 ≤ e then l else l.advance) s := by
  have running : s.label = some l := label
  simp only [checkPulse, running]
  rfl

/-- Settles O25, from the three outcomes of the label check. -/
theorem theLabelCheckOfAPulse : Obligations.TheLabelCheckOfAPulse := by
  intro e m l s label
  dsimp only
  rw [checkPulse_eq m label]
  refine ⟨fun same => ?same, fun differs new => labelCheck_first differs new, fun k differs record next => ?second,
    fun k differs record next => ?course⟩
  case same =>
    rw [← same]
    exact labelCheck_same m s
  case second =>
    rw [labelCheck_second differs label record next]
    refine ⟨?_, ?_, ?_, ?_, ?_, ?_, ?_, ?_, steppedLabel_frame _ _ s⟩
    case refine_3 => rw [(relabel_frame _ _ _).ref]; rfl
    all_goals rw [steppedLabel_tb]
  case course =>
    rw [labelCheck_second differs label record next]
    exact steppedLabel_eq _ _ s

/-- Settles O21, from the pulses ignored and the pulses of LOCKED and UNSET. -/
theorem pulsesIgnoredAndPulsesInUnset : Obligations.PulsesIgnoredAndPulsesInUnset := by
  refine ⟨fun s ignored => congrArg Host.Outcome.next ?ignored, fun s msg s1 taken locked beyond => ?outlier,
    fun s msg s1 taken unset => ⟨fun none low high => ?alone, fun m some low high => ?first, fun m some beyond => ?cut⟩⟩
  case ignored =>
    rcases ignored with off | ⟨x, last, early⟩ | held | ⟨full, unqualified⟩
    · exact refPulse_of_off off
    · exact refPulse_of_idle (.inr (spurious_of last early))
    · exact refPulse_of_idle (.inl (isHeld_of_ne held))
    · exact refPulse_of_unqualified full (qualifying_eq_none unqualified)
  case outlier =>
    obtain rfl := taken.eq_of_outlier (outlierPulse_of_beyond locked beyond)
    refine ⟨_, exec_refPulse_locked taken locked, ?_⟩
    by_cases few : s1.tb.outlier < 2
    · rw [lockedPulse_outlier msg beyond few]
      exact ⟨rfl, rfl, rfl, rfl⟩
    · rw [lockedPulse_third msg locked beyond (Nat.not_lt.mp few), post_ref, post_tb]
      exact ⟨rfl, rfl, rfl, rfl⟩
  case alone =>
    subst none
    obtain rfl := taken.eq_of_none
    rw [exec_refPulse_taken taken, takenPulse_unset taken unset, unsetPulse_alone low high]
    rfl
  case first =>
    subst some
    rw [exec_refPulse_taken taken, takenPulse_unset taken unset,
      unsetPulse_first m low high (taken.tb_eq ▸ unset), taken.tb_eq, taken.now_eq]
  case cut =>
    subst some
    have idle : s1.tb.disc = .unset := taken.tb_eq ▸ unset
    rw [exec_refPulse_taken taken, takenPulse_unset taken unset, unsetPulse_cut m beyond]
    have far : ¬(-4194 ≤ pulseError s.tb.count s.tb.len ∧ pulseError s.tb.count s.tb.len ≤ 4194) := by omega
    have freq : s1.tb.freq = s.tb.freq := by rw [taken.tb_eq]
    refine ⟨_, rfl, ?_⟩
    rw [finishSecond_tb, finishSecond_ref, firstLabel_tb, firstLabel_ref, if_neg far]
    refine ⟨rfl, rfl, rfl, ?_, ?_, rfl, rfl, ?_, ?_⟩
    · exact congrArg TimeBase.slew (beginSecond_tb_eq _ none)
    · exact congrArg TimeBase.count (beginSecond_tb_eq _ none)
    · exact (congrArg TimeBase.freq (beginSecond_tb_eq _ none)).trans freq
    refine Frame.after (finishSecond_frame _ _ _) ?_ (by decide)
    refine Frame.after (firstLabel_frame _ _ _) ?_ (by decide)
    refine Frame.after (beginSecond_frame _ _) ?_ (by decide)
    exact Frame.after (State.setTb_frame _ _) (taken.frame.mono (by decide)) (by decide)

/-! ### Pulses in ACQUIRE (R9, R12) -/

theorem joined_tb (taken : PulseTaken s msg s1) : (joined s s1).tb = if s.tb.disc = .acquire then s.tb else { s.tb with
    disc := .acquire, good := 0, outlier := 0, holdover := if s.tb.disc = .holdover then 0 else s.tb.holdover } := by
  unfold joined
  split
  · exact taken.tb_eq
  · exact post_tb _ _ _ _

/-- What joining ACQUIRE leaves of the Time Base. -/
theorem joined_pace (taken : PulseTaken s msg s1) : (joined s s1).tb.disc = .acquire ∧ (joined s s1).now = s.now ∧
    (joined s s1).tb.slew = s.tb.slew ∧ (joined s s1).tb.prevMark = s.tb.prevMark ∧ (joined s s1).tb.freq = s.tb.freq := by
  rw [State.now, joined_tb taken]
  split
  next acquire => exact ⟨acquire, rfl, rfl, rfl, rfl⟩
  · exact ⟨rfl, rfl, rfl, rfl, rfl⟩

/-- The third good pulse locks (R9). -/
def lockedAt (good : Nat) (s : State) : State :=
  if 3 ≤ good then setDisc .locked (s.setTb { s.tb with outlier := 0 }) else s

theorem lockedAt_eq (good : Nat) (acquire : s.tb.disc = .acquire) : lockedAt good s = if 3 ≤ good then
    post .stateChanged 0 (pair 2 3) { s with tb := { s.tb with disc := .locked, good := 0, outlier := 0 } } else s := by
  have moves : (s.setTb { s.tb with outlier := 0 }).tb.disc ≠ .locked := by
    rw [State.setTb_tb, acquire]
    decide
  have inside : (s.setTb { s.tb with outlier := 0 }).tb.disc = .acquire := acquire
  rw [lockedAt, setDisc_change _ moves, if_pos inside, inside]
  rfl

/-- A pulse within the step threshold is judged (R9, R12). -/
def judged (e : Int) (good : Nat) (s : State) : State := s.setTb { s.tb with
  lastAccepted := some s.now, curMark := true, missed := 0, slew := e, good := good
  freq := if s.tb.slew = 0 ∧ s.tb.prevMark = true then clampInt (-26214400) 26214400 (s.tb.freq + 64 * e) else s.tb.freq }

theorem judged_of {x : Instant} {f : Int} (good : Nat) (now : s.now = x)
    (freq : (if s.tb.slew = 0 ∧ s.tb.prevMark = true then clampInt (-26214400) 26214400 (s.tb.freq + 64 * e)
      else s.tb.freq) = f) : judged e good s = { s with tb := { s.tb with
      lastAccepted := some x, curMark := true, missed := 0, slew := e, good := good, freq := f } } := by
  rw [← now, ← freq]
  rfl

theorem acquirePulse_within (msg : Option Label) (low : -419430 ≤ e) (high : e ≤ 419430) (s : State) :
    let good := if -4194 ≤ e ∧ e ≤ 4194 then s.tb.good + 1 else 0
    acquirePulse e msg s = checkPulse e msg (lockedAt good (judged e good s)) := by
  intro good
  have counted : (if within e Config.lockWindow then s.tb.good + 1 else 0) = good :=
    if_congr within_lockWindow rfl rfl
  have judges (n : Nat) : (acceptPulse s).setTb { learn e (acceptPulse s).tb with slew := e, good := n } = judged e n s := by
    rw [learn_eq]
    rfl
  rw [← counted, ← judges]
  exact if_neg (by rw [within_step low high]; decide)

/-- Settles O23: FREE and HOLDOVER join ACQUIRE, whose pulse is then judged. -/
theorem aPulseInAcquire : Obligations.APulseInAcquire := by
  intro s msg s1 taken which e high low s2 good s3
  rw [exec_refPulse_taken taken, takenPulse_acquire taken which]
  obtain ⟨acquire, now, slew, prevMark, freq⟩ := joined_pace taken
  have judges : judged e good (joined s s1) = s3 := judged_of good now (by rw [slew, prevMark, freq])
  rw [acquirePulse_within msg low high]
  change Host.Outcome.next (checkPulse e msg (lockedAt good (judged e good (joined s s1)))) = _
  rw [judges, lockedAt_eq (s := s3) good acquire]

end Sys2Proof.Machine
end

section
/-! SUPPORT. The window test and the active windows (R155, R156), and the phase step of a pulse beyond the threshold
(R10). -/

namespace Sys2Proof.Machine

set_option Elab.async false

variable {s t : State}

/-! ### The active windows (R155, R156) -/

/-- What the window test reads of the tables. -/
structure SameTables (s t : State) : Prop where
  days : t.days = s.days
  civil : t.civil = s.civil
  sun : t.sun = s.sun
  yesterday : t.cal.yesterday = s.cal.yesterday

theorem SameTables.classOf (h : SameTables s t) (date : Nat) : t.classOf date = s.classOf date := by
  simp only [State.classOf, h.days, h.civil]

theorem SameTables.eventMatches (h : SameTables s t) (today date : Nat) (e : Event) :
    eventMatches today date e t = eventMatches today date e s := by
  simp only [Machine.eventMatches, State.calendarClass, h.yesterday, h.classOf]

theorem SameTables.startMinute (h : SameTables s t) (date : Nat) (e : Event) :
    startMinute date e t = startMinute date e s := by
  simp only [Machine.startMinute, State.sunEntry, h.sun, h.civil]

theorem SameTables.windowTest (h : SameTables s t) (date minute : Nat) (e : Event) :
    windowTest date minute e t = windowTest date minute e s := by
  simp only [Machine.windowTest, windowToday, windowYesterday, h.eventMatches, h.startMinute]

theorem SameTables.activeNow (h : SameTables s t) (label : t.tb.label = s.tb.label) (events : ∀ n, t.event n = s.event n) :
    activeNow t = activeNow s := by
  have civil : t.civilNow = s.civilNow := by rw [State.civilNow, State.civilNow, label, h.civil]
  simp only [Machine.activeNow, civil, events, h.windowTest]

/-- Lights and notices do not bear on the windows. -/
theorem activeNow_of_frame (h : Frame [.lights, .notices, .ports] s t) : activeNow t = activeNow s :=
  SameTables.activeNow ⟨h.days, h.civil, h.sun, by rw [h.cal]⟩ (by rw [h.tb])
    fun n => by rw [State.event, State.event, h.cal]

/-- The active windows stand in the state as their own test finds them. -/
theorem activeNow_active (s : State) (xs : List (Fin 96)) :
    activeNow { s with cal := { s.cal with active := xs } } = activeNow s :=
  SameTables.activeNow ⟨rfl, rfl, rfl, rfl⟩ rfl fun _ => rfl

theorem recomputeWindows_active (old : List (Fin 96)) (s : State) :
    (recomputeWindows old s).cal.active = activeNow s ∧ activeNow (recomputeWindows old s) = activeNow s := by
  unfold recomputeWindows
  dsimp only
  split
  · exact ⟨rfl, activeNow_active s _⟩
  · rw [(deriveLights_frame _).cal, activeNow_of_frame (deriveLights_frame _), activeNow_active]
    exact ⟨rfl, rfl⟩

theorem relabelWindows_active (s : State) : (relabelWindows s).cal.active = activeNow (relabelWindows s) := by
  obtain ⟨set, same⟩ := recomputeWindows_active s.activeScenes s
  rw [relabelWindows, (overrideTests_frame _).cal, activeNow_of_frame (overrideTests_frame _), set, same]

/-! ### The check of a message at a phase step (R18, R19) -/

theorem stepCheck_same {l : Label} (label : s.tb.label = some l) : stepCheck l s = matchLabels s := by
  have running : s.label = some l := label
  simp only [stepCheck, running, if_true]

theorem stepCheck_first {m l : Label} (label : s.tb.label = some l) (differs : m ≠ l)
    (new : ∀ k, s.ref.continuity = some (k, m.diff l) → k.advance ≠ m) :
    stepCheck m s = (countMismatch (m.diff l) s).setRef
      { (countMismatch (m.diff l) s).ref with continuity := some (m, m.diff l) } := by
  have running : s.label = some l := label
  have lone : consecutive m (m.diff l) s = false := Bool.eq_false_iff.2 fun again => by
    obtain ⟨k, record, next⟩ := (consecutive_iff m _ s).1 again
    exact new k record next
  simp only [stepCheck, running, if_neg differs, countMismatch_consecutive, lone]
  rfl

theorem stepCheck_second {m l k : Label} (label : s.tb.label = some l) (differs : m ≠ l)
    (record : s.ref.continuity = some (k, m.diff l)) (next : k.advance = m) :
    stepCheck m s = matchLabels ((countMismatch (m.diff l) s).setTb
      { (countMismatch (m.diff l) s).tb with label := some m }) := by
  have running : s.label = some l := label
  have again : consecutive m (m.diff l) s = true := (consecutive_iff m _ s).2 ⟨k, record, next⟩
  simp only [stepCheck, running, if_neg differs, countMismatch_consecutive, again, if_true]

/-! ### The second a phase step begins -/

/-- No good pulse is counted while the count stands at 0. -/
theorem beginSecond_good (l : Option Label) (none : s.tb.good = 0) : (beginSecond l s).tb.good = 0 := by
  have begun : (s.setTb ({ s.tb.newSecond with label := l } : TimeBase).takePending).tb.good = 0 := by
    rw [State.setTb_tb, TimeBase.takePending_eq]
    exact none
  have risen := (congrArg TimeBase.good (holdoverRise_rest _)).trans begun
  rw [beginSecond_tb]
  generalize holdoverRise _ = u at risen
  have tested : (missedTest u).tb.good = 0 := by
    rw [missedTest_tb]
    split_ifs <;> first | exact risen | rfl
  rw [leaveUnset_tb]
  split_ifs <;> first | exact tested | rfl

/-- A pulse beyond the step threshold has been accepted outside LOCKED. -/
structure CutAt (s a : State) : Prop where
  uptime : a.tb.uptime = s.tb.uptime
  freq : a.tb.freq = s.tb.freq
  label : a.tb.label = s.tb.label
  pendingLabel : a.tb.pendingLabel = s.tb.pendingLabel
  mismatch : a.tb.mismatch = s.tb.mismatch
  missed : a.tb.missed = 0
  curMark : a.tb.curMark = true
  lastAccepted : a.tb.lastAccepted = some s.now
  disc : a.tb.disc = if s.tb.disc = .unset then .unset else .acquire
  continuity : a.ref.continuity = s.ref.continuity
  frame : Frame [.tb, .ref, .notices, .ports] s a

variable {s1 a : State} {msg : Option Label} {e : Int}

theorem CutAt.accept_unset (taken : PulseTaken s msg s1) (unset : s.tb.disc = .unset) : CutAt s (acceptPulse s1) where
  uptime := by rw [← taken.tb_eq]; rfl
  freq := by rw [← taken.tb_eq]; rfl
  label := by rw [← taken.tb_eq]; rfl
  pendingLabel := by rw [← taken.tb_eq]; rfl
  mismatch := by rw [← taken.tb_eq]; rfl
  missed := rfl
  curMark := rfl
  lastAccepted := congrArg some taken.now_eq
  disc := by
    rw [if_pos unset, ← unset, ← taken.tb_eq]
    rfl
  continuity := taken.continuity_eq
  frame := Frame.after (State.setTb_frame _ _) (taken.frame.mono (by decide)) (by decide)

theorem CutAt.accept_joined (taken : PulseTaken s msg s1) (timed : s.tb.disc ≠ .unset) :
    CutAt s (acceptPulse (joined s s1)) := by
  obtain ⟨disc, now, -, -, freq⟩ := joined_pace taken
  have tb := joined_tb taken
  have keeps : (joined s s1).tb.uptime = s.tb.uptime ∧ (joined s s1).tb.label = s.tb.label ∧
      (joined s s1).tb.pendingLabel = s.tb.pendingLabel ∧ (joined s s1).tb.mismatch = s.tb.mismatch := by
    rw [tb]
    split <;> exact ⟨rfl, rfl, rfl, rfl⟩
  obtain ⟨uptime, label, pendingLabel, mismatch⟩ := keeps
  have ref : (joined s s1).ref = s1.ref := by
    unfold joined
    split
    · rfl
    · exact post_ref _ _ _ _
  have frame : Frame [.tb, .ref, .notices, .ports] s (joined s s1) := by
    unfold joined
    split
    · exact taken.frame.mono (by decide)
    · refine Frame.after (post_frame _ _ _ _) ?_ (by decide)
      exact Frame.after (State.setTb_frame s1 _) (taken.frame.mono (by decide)) (by decide)
  refine ⟨uptime, freq, label, pendingLabel, mismatch, rfl, rfl, congrArg some now, ?_, ?_, ?_⟩
  · rw [if_neg timed]
    exact disc
  · exact (congrArg RefRx.continuity ref).trans taken.continuity_eq
  · exact Frame.after (State.setTb_frame _ _) frame (by decide)

/-- The second a phase step begins (R10). -/
def begunAt (e : Int) (a : State) : State :=
  beginSecond (if 0 < e then a.tb.label else a.tb.label.map Label.advance) (a.setTb { a.tb with slew := 0, good := 0 })

/-- Its message checked (R18). -/
def checkedAt (e : Int) (msg : Option Label) (a : State) : State :=
  match msg with
  | some m => stepCheck m (begunAt e a)
  | none => begunAt e a

theorem phaseStep_eq (e : Int) (msg : Option Label) (a : State) : phaseStep e msg a =
    stepRelabel (begunAt e a).label (checkedAt e msg a).label
      (finishSecond a.civilNow a.label (checkedAt e msg a)) := rfl

theorem phaseStep_tb (e : Int) (msg : Option Label) (a : State) : (phaseStep e msg a).tb =
    { (checkedAt e msg a).tb with validAtBoundary := (checkedAt e msg a).timeValid } := by
  rw [phaseStep_eq, stepRelabel_tb, finishSecond_tb]

theorem phaseStep_ref (e : Int) (msg : Option Label) (a : State) : (phaseStep e msg a).ref = (checkedAt e msg a).ref := by
  rw [phaseStep_eq]
  unfold stepRelabel
  split
  · exact finishSecond_ref _ _ _
  · rw [(relabelWindows_frame _).ref, finishSecond_ref]

theorem checkedAt_tb (e : Int) (msg : Option Label) (a : State) :
    ∃ l n, (checkedAt e msg a).tb = { (begunAt e a).tb with label := l, mismatch := n } := by
  cases msg with
  | none => exact ⟨_, _, rfl⟩
  | some m => exact stepCheck_tb m _

theorem begunAt_good (e : Int) (a : State) : (begunAt e a).tb.good = 0 := beginSecond_good _ rfl

theorem begunAt_ref (e : Int) (a : State) : (begunAt e a).ref = a.ref := (beginSecond_frame _ _).ref

/-- The Time Base of the second that a phase step begins. -/
theorem begunAt_tb (cut : CutAt s a) (e : Int) :
    (begunAt e a).tb.count = 0 ∧ (begunAt e a).tb.ms = 0 ∧ (begunAt e a).tb.uptime = s.tb.uptime + 1 ∧
      (begunAt e a).tb.slew = 0 ∧ (begunAt e a).tb.freq = s.tb.freq ∧ (begunAt e a).tb.missed = 0 ∧
      (begunAt e a).tb.prevMark = true ∧ (begunAt e a).tb.curMark = false ∧
      (begunAt e a).tb.lastAccepted = some s.now ∧ (begunAt e a).tb.mismatch = s.tb.mismatch := by
  have marked : ¬Missing (a.setTb { a.tb with slew := 0, good := 0 }) := fun missing => by
    have marks : a.tb.curMark = false := missing.2
    rw [cut.curMark] at marks
    cases marks
  have missed : missedAfter (a.setTb { a.tb with slew := 0, good := 0 }) = 0 := by
    rw [missedAfter, if_neg marked]
    exact cut.missed
  rw [begunAt, beginSecond_tb_eq, missed]
  exact ⟨rfl, rfl, congrArg (· + 1) cut.uptime, rfl, cut.freq, rfl, cut.curMark, rfl, cut.lastAccepted, cut.mismatch⟩

/-- No limit is reached at a phase step, whose second is marked; its discipline stands, and its label is the cut
second's or the next. -/
theorem begunAt_unlabelled (cut : CutAt s a) (e : Int) (none : s.tb.pendingLabel = none) :
    (begunAt e a).tb.disc = (if s.tb.disc = .unset then .unset else .acquire) ∧
      (begunAt e a).tb.label = if 0 < e then s.tb.label else s.tb.label.map Label.advance := by
  set x := a.setTb { a.tb with slew := 0, good := 0 }
  have waits : x.tb.pendingLabel = Option.none := cut.pendingLabel.trans none
  have marked : ¬Missing x := fun missing => by
    have marks : a.tb.curMark = false := missing.2
    rw [cut.curMark] at marks
    cases marks
  have outside : x.tb.disc ≠ .holdover := by
    change a.tb.disc ≠ .holdover
    rw [cut.disc]
    split <;> decide
  have disc : discBegun x = a.tb.disc := by
    rw [discBegun, if_neg (fun h => h.1 waits), discAfterMissed, if_neg (fun h => marked h.1), discAfterHoldover,
      if_neg (fun h => outside h.1)]
    rfl
  rw [begunAt, beginSecond_tb_eq, disc, cut.disc, if_pos waits, cut.label]
  exact ⟨rfl, rfl⟩

theorem phaseStep_active {m : Label} (differs : (checkedAt e msg a).tb.label = some m)
    (begun : (begunAt e a).tb.label ≠ some m) : (phaseStep e msg a).cal.active = activeNow (phaseStep e msg a) := by
  have relabels : (checkedAt e msg a).label ≠ (begunAt e a).label := fun same => begun (same.symm.trans differs)
  rw [phaseStep_eq, stepRelabel, if_neg relabels]
  exact relabelWindows_active _

/-- A pulse beyond the threshold outside LOCKED is a phase step. -/
theorem takenPulse_cut (taken : PulseTaken s msg s1) (outside : s.tb.disc ≠ .locked)
    (alone : s.tb.disc = .unset → msg = none)
    (beyond : 419430 < pulseError s.tb.count s.tb.len ∨ pulseError s.tb.count s.tb.len < -419430) :
    ∃ a, CutAt s a ∧ takenPulse msg s1 = phaseStep (pulseError s.tb.count s.tb.len) msg a := by
  have far := within_stepThreshold_eq_false beyond
  by_cases unset : s.tb.disc = .unset
  · refine ⟨_, CutAt.accept_unset taken unset, ?_⟩
    rw [takenPulse_unset taken unset, alone unset]
    exact if_neg (by rw [far]; decide)
  · refine ⟨_, CutAt.accept_joined taken unset, ?_⟩
    have which : s.tb.disc = .acquire ∨ s.tb.disc = .free ∨ s.tb.disc = .holdover := by
      cases disc : s.tb.disc <;> simp_all
    rw [takenPulse_acquire taken which]
    exact if_pos (by rw [far]; decide)

/-- Settles O24: the second the step begins, then the check of its message. -/
theorem aPulseBeyondTheThresholdStepsThePhase : Obligations.APulseBeyondTheThresholdStepsThePhase := by
  intro s msg s1 taken outside alone e beyond
  obtain ⟨a, cut, steps⟩ := takenPulse_cut taken outside alone beyond
  rw [exec_refPulse_taken taken, steps]
  obtain ⟨count, ms, uptime, slew, freq, missed, prevMark, curMark, lastAccepted, mismatch⟩ := begunAt_tb cut e
  obtain ⟨l, n, tb⟩ := checkedAt_tb e msg a
  refine ⟨_, rfl, ?_⟩
  simp only [phaseStep_tb, phaseStep_ref]
  refine ⟨?_, ?_, ?_, ?_, ?_, ?_, ?_, ?_, ?_, ?_, ?disc, ?label, ?message, ?frame⟩
  case disc =>
    intro none
    rw [tb]
    exact (begunAt_unlabelled cut e none).1
  case label =>
    rintro none rfl
    exact (begunAt_unlabelled cut e none).2
  case message =>
    rintro m l none rfl running
    set begun := if 0 < e then l else l.advance
    have label : (begunAt e a).tb.label = some begun := by
      rw [(begunAt_unlabelled cut e none).2, running]
      exact (apply_ite some _ _ _).symm
    have record : (begunAt e a).ref.continuity = s.ref.continuity := by rw [begunAt_ref, cut.continuity]
    refine ⟨?same, ?first, ?second⟩
    case same =>
      rintro rfl
      rw [checkedAt, stepCheck_same label]
      exact ⟨label, rfl, rfl⟩
    case first =>
      intro differs new
      rw [checkedAt, stepCheck_first label differs (by rwa [record]), State.setRef_tb, countMismatch_tb, mismatch]
      exact ⟨label, rfl, rfl⟩
    case second =>
      intro k differs recorded next
      have checks : checkedAt e (some m) a = _ := stepCheck_second label differs (record.trans recorded) next
      have labelled : (checkedAt e (some m) a).tb.label = some m := by rw [checks]; rfl
      refine ⟨labelled, by rw [checks]; rfl, by rw [checks]; rfl, phaseStep_active labelled ?_⟩
      rw [label]
      exact fun same => differs (Option.some.inj same).symm
  case frame => exact Frame.after (phaseStep_frame _ _ _) (cut.frame.mono (by decide)) (by decide)
  all_goals rw [tb]
  all_goals first | assumption | exact begunAt_good e a

end Sys2Proof.Machine
end

section
/-! SUPPORT. The course of a local second boundary (R3, R14, R15, R21, R33, R39): the Time Base, the moves at its limits,
and what the other blocks take. -/

namespace Sys2Proof.Machine

set_option Elab.async false

variable {s t : State}

/-! ### The pending offset change (R33) -/

theorem changeDue_congr (civil : t.civil = s.civil) (label : t.tb.label = s.tb.label) : changeDue t = changeDue s := by
  have running : t.label = s.label := label
  simp only [changeDue, civil, running]

theorem changeDue_none (none : s.civil.change = none) : changeDue s = false := by
  simp only [changeDue, none]

theorem changeDue_next {c : OffsetChange} (pending : s.civil.change = some c) (next : c.instant = .next) :
    changeDue s = true := by
  simp only [changeDue, pending, next]

theorem changeDue_label {c : OffsetChange} {i : Label} (pending : s.civil.change = some c) (at' : c.instant = .label i) :
    changeDue s = true ↔ ∃ l, s.tb.label = some l ∧ l.atOrAfter i = true := by
  have running : s.label = s.tb.label := rfl
  simp only [changeDue, pending, at', running]
  cases s.tb.label <;> simp

theorem changeDue_eq_false {c : OffsetChange} {i : Label} (pending : s.civil.change = some c) (at' : c.instant = .label i)
    (before : ∀ l, s.tb.label = some l → l.atOrAfter i = false) : changeDue s = false := by
  rw [Bool.eq_false_iff]
  intro due
  obtain ⟨l, label, reached⟩ := (changeDue_label pending at').1 due
  rw [before l label] at reached
  cases reached

/-! ### What follows the labelling of a second -/

/-- The change of date and the mark of a second that begins (R39, R148). -/
def dated (old : Option Label) (labelled becameValid : Bool) (s : State) : State :=
  (dateChange old becameValid s).setTb { (dateChange old becameValid s).tb with validAtBoundary := labelled }

theorem dated_tb (old : Option Label) (labelled becameValid : Bool) (s : State) :
    (dated old labelled becameValid s).tb = { s.tb with validAtBoundary := labelled } := by
  rw [dated, State.setTb_tb, (dateChange_frame s old becameValid).tb]

theorem dated_frame (old : Option Label) (labelled becameValid : Bool) (s : State) :
    Frame [.tb, .days, .cal] s (dated old labelled becameValid s) :=
  Frame.after (State.setTb_frame _ _) ((dateChange_frame s old becameValid).mono (by decide)) (by decide)

/-- The tail of a second with its offset test answered. -/
def tailOf (old : Option Label) (delta : Option Int) (applied : Bool) (s : State) : State :=
  let labelled := s.tb.label.isSome
  let becameValid := labelled && !s.tb.validAtBoundary
  let u := dated old labelled becameValid s
  if s.warm.held = none then blocksBoundary old delta applied becameValid u else u

theorem isHeld_iff (s : State) : s.isHeld = true ↔ ¬s.warm.held = none := by
  simp [State.isHeld, Option.isSome_iff_ne_none]

theorem newSecondTail_tailOf (old : Option Label) (delta : Option Int) (s : State) :
    newSecondTail old delta s = tailOf old delta (changeDue s) (if changeDue s then applyOffset s else s) := by
  rw [newSecondTail_eq, civilTail]
  generalize (if changeDue s then applyOffset s else s) = u
  have labelled : (dateChange old (u.timeValid && !u.tb.validAtBoundary) u).timeValid = u.tb.label.isSome :=
    congrArg (fun x : TimeBase => x.label.isSome) (dateChange_frame u old _).tb
  rw [labelled]
  change (if (dated old u.tb.label.isSome (u.tb.label.isSome && !u.tb.validAtBoundary) u).isHeld = true then
    dated old u.tb.label.isSome (u.tb.label.isSome && !u.tb.validAtBoundary) u else _) = _
  rw [tailOf]
  dsimp only
  by_cases held : u.warm.held = none
  · rw [if_pos held, if_neg]
    · rfl
    · rw [isHeld_iff, (dated_frame old _ _ u).warmHeld]
      exact not_not.2 held
  · rw [if_neg held, if_pos]
    rw [isHeld_iff, (dated_frame old _ _ u).warmHeld]
    exact held

/-- Without an offset change due a second goes straight on to the change of date. -/
theorem newSecondTail_ordinary (old : Option Label) (delta : Option Int) (quiet : changeDue s = false) :
    newSecondTail old delta s = tailOf old delta false s := by
  rw [newSecondTail_tailOf, quiet]
  rfl

theorem newSecondTail_applied (old : Option Label) (delta : Option Int) (due : changeDue s = true) :
    newSecondTail old delta s = tailOf old delta true (applyOffset s) := by
  rw [newSecondTail_tailOf, due]
  rfl

/-! ### An ordinary boundary -/

/-- The second that begins at an ordinary boundary. -/
def begun (s : State) : State := beginSecond (s.tb.label.map Label.advance) s

/-- It has posted its time step (R22). -/
def steppedOn (s : State) : State := postStep (stepDelta (s.tb.label.map Label.advance) (begun s).tb.label) (begun s)

theorem boundary_eq (s : State) : boundary s =
    newSecondTail s.civilNow (stepDelta (s.tb.label.map Label.advance) (begun s).tb.label) (steppedOn s) := rfl

theorem exec_boundary (reached : s.tb.len ≤ s.tb.count + 1) : exec .localSecondBoundary s = .next (boundary s) :=
  congrArg Host.Outcome.next (localSecondBoundary_of_reached reached)

theorem boundary_tb (s : State) :
    (boundary s).tb = { (begun s).tb with validAtBoundary := (begun s).tb.label.isSome } := finishSecond_tb _ _ _

theorem steppedOn_frame (s : State) : Frame [.notices, .ports] (begun s) (steppedOn s) := postStep_frame _ _

theorem begun_frame (s : State) : Frame [.tb, .notices, .ports] s (begun s) := beginSecond_frame s _

theorem begun_label (s : State) : (begun s).tb.label =
    if s.tb.pendingLabel = none then s.tb.label.map Label.advance else s.tb.pendingLabel := by
  rw [begun, beginSecond_tb_eq]

theorem changeDue_steppedOn (s : State) : changeDue (steppedOn s) = changeDue (begun s) :=
  changeDue_congr (steppedOn_frame s).civil (congrArg TimeBase.label (steppedOn_frame s).tb)

/-! ### The moves at the limits (R14, R15) -/

theorem missedMove_locked (locked : s.tb.disc = .locked) : missedMove s =
    post .stateChanged 0 (pair 3 4) (s.setTb { s.tb with disc := .holdover, holdover := 0 }) := by
  simp only [missedMove, locked]
  rw [setDisc_setTb s (by simp) (by simp)]
  rfl

theorem missedMove_acquire (acquire : s.tb.disc = .acquire) : missedMove s =
    post .stateChanged 0 (pair 2 1) (s.setTb { s.tb with disc := .free, good := 0 }) := by
  have moves : s.tb.disc ≠ .free := by rw [acquire]; decide
  simp only [missedMove, acquire]
  rw [setDisc_change s moves, if_pos acquire, acquire]
  rfl

theorem missedMove_other (other : s.tb.disc ≠ .locked ∧ s.tb.disc ≠ .acquire) : missedMove s = s := by
  unfold missedMove
  split
  next locked => exact absurd locked other.1
  next acquire => exact absurd acquire other.2
  · rfl

theorem missedTest_limit (on : s.ref.mode ≠ .off) (unmarked : s.tb.curMark = false) (seven : 7 ≤ s.tb.missed) :
    missedTest s = missedMove (s.setTb { s.tb with
      missed := min 255 (s.tb.missed + 1), prevMark := false, curMark := false }) := by
  have missing : (s.ref.mode != .off && !s.tb.curMark) = true := by simp [on, unmarked]
  have limit : 8 ≤ min 255 (s.tb.missed + 1) := by omega
  simp only [missedTest, missing, if_true, Bool.true_and, Config.missedLimit, limit, decide_true]
  rw [unmarked]

/-- At the missed limit (R14) a boundary in LOCKED begins its second in HOLDOVER. -/
theorem beginSecond_lost (label : Option Label) (locked : s.tb.disc = .locked) (on : s.ref.mode ≠ .off)
    (unmarked : s.tb.curMark = false) (seven : 7 ≤ s.tb.missed) :
    beginSecond label s = post .stateChanged 0 (pair 3 4) { s with tb := { s.tb.newSecond with
       label := if s.tb.pendingLabel = none then label else s.tb.pendingLabel
       pendingLabel := none, missed := min 255 (s.tb.missed + 1), prevMark := false, curMark := false
       disc := .holdover, holdover := 0 } } := by
  set u := s.setTb ({ s.tb.newSecond with label := label } : TimeBase).takePending
  have taken : u.tb = { s.tb.newSecond with
      label := if s.tb.pendingLabel = none then label else s.tb.pendingLabel, pendingLabel := none } :=
    TimeBase.takePending_eq _
  have disc : u.tb.disc = .locked := by rw [taken]; exact locked
  have rises : holdoverRise u = u := if_neg (by rw [disc]; decide)
  have tests : missedTest u = post .stateChanged 0 (pair 3 4) ((u.setTb { u.tb with
      missed := min 255 (u.tb.missed + 1), prevMark := false, curMark := false }).setTb { u.tb with
      missed := min 255 (u.tb.missed + 1), prevMark := false, curMark := false, disc := .holdover, holdover := 0 }) := by
    rw [missedTest_limit (s := u) on (by rw [taken]; exact unmarked) (by rw [taken]; exact seven),
      missedMove_locked (by exact disc)]
    rfl
  have leaves (waited : Bool) : leaveUnset waited (missedTest u) = missedTest u := if_neg fun h => by
    rw [tests, post_tb] at h
    exact nomatch h.2
  change leaveUnset _ (missedTest (holdoverRise u)) = _
  rw [rises, leaves, tests, taken]
  rfl

/-! ### The Event Calendar's cursor at a boundary (R150) -/

theorem calendarCompare_cursor (boundary small : Bool) {c : Label} (now : s.civilNow = some c) :
    (calendarCompare boundary small s).cal.cursor = some c.dayMinute := by
  simp only [calendarCompare, now]
  rfl

theorem recomputeWindows_cursor (old : List (Fin 96)) (s : State) :
    (recomputeWindows old s).cal.cursor = s.cal.cursor := by
  unfold recomputeWindows
  dsimp only
  split
  · rfl
  · rw [(deriveLights_frame _).cal]

theorem lightsBoundary_cursor (changed : Bool) (s : State) : (lightsBoundary changed s).cal.cursor = s.cal.cursor := by
  unfold lightsBoundary
  dsimp only
  rw [(deriveLights_frame _).cal]
  split
  · rw [(overrideTests_frame _).cal, recomputeWindows_cursor]
  · rfl

theorem civilNow_congr (label : t.tb.label = s.tb.label) (civil : t.civil = s.civil) : t.civilNow = s.civilNow := by
  rw [State.civilNow, State.civilNow, label, civil]

theorem blocksBoundary_cursor {old : Option Label} {delta : Option Int} {applied becameValid : Bool} {c : Label}
    (now : s.civilNow = some c) : (blocksBoundary old delta applied becameValid s).cal.cursor = some c.dayMinute := by
  unfold blocksBoundary
  dsimp only
  rw [lightsBoundary_cursor]
  refine calendarCompare_cursor _ _ ?_
  generalize (delta.isSome || applied || becameValid) = full
  have dials : (dialsBoundary full s).civilNow = s.civilNow :=
    civilNow_congr (congrArg TimeBase.label (dialsBoundary_frame s full).tb) (dialsBoundary_frame s full).civil
  rw [← now, ← dials]
  split
  next l _ =>
    exact civilNow_congr (congrArg TimeBase.label (strikeBoundary_frame _ delta l).tb) (strikeBoundary_frame _ delta l).civil
  · rfl

theorem blocksBoundary_civilNow {old : Option Label} {delta : Option Int} {applied becameValid : Bool} (s : State) :
    (blocksBoundary old delta applied becameValid s).civilNow = s.civilNow :=
  civilNow_congr (congrArg TimeBase.label (blocksBoundary_frame s _ _ _ _).tb) (blocksBoundary_frame s _ _ _ _).civil

theorem boundary_cursor {c : Label} (free : s.warm.held = none) (now : (boundary s).civilNow = some c) :
    (boundary s).cal.cursor = some c.dayMinute := by
  rw [boundary_eq, newSecondTail_tailOf] at now ⊢
  generalize applied : changeDue (steppedOn s) = due at now ⊢
  have offset : Frame [.tb, .civil, .notices, .ports] s (if due then applyOffset (steppedOn s) else steppedOn s) := by
    have stepped : Frame [.tb, .civil, .notices, .ports] s (steppedOn s) :=
      Frame.after (steppedOn_frame s) ((begun_frame s).mono (by decide)) (by decide)
    split
    · exact Frame.after (applyOffset_frame _) stepped (by decide)
    · exact stepped
  have open' := offset.warmHeld.trans free
  rw [tailOf] at now ⊢
  simp only [if_pos open'] at now ⊢
  rw [blocksBoundary_civilNow] at now
  exact blocksBoundary_cursor now

/-! ### The blocks at a boundary -/

theorem blocksBoundary_eq (old : Option Label) (delta : Option Int) (applied becameValid : Bool) (s : State) :
    let dials :=
      if delta ≠ none ∨ applied = true ∨ becameValid = true then (List.finRange 4).foldl (fun u d => fullCause d u) s
      else match s.civilNow with
        | some c => if c.sec % 30 = 0 then (List.finRange 4).foldl (fun u d => continuingCause d u) s else s
        | none => s
    let quarters := match s.tb.label with
      | some l => strikeBoundary delta l dials
      | none => dials
    let small := match delta with
      | some d => decide (1 ≤ d ∧ d ≤ 120 ∧ applied = false)
      | none => false
    let minutes := calendarCompare true small quarters
    let windows :=
      if old.map Label.dayMinute ≠ s.civilNow.map Label.dayMinute ∨ becameValid = true then
        (List.finRange 8).foldl (fun u c => overrideTest c u) (recomputeWindows minutes.activeScenes minutes)
      else minutes
    blocksBoundary old delta applied becameValid s = (List.finRange 8).foldl (fun u c => deriveLight c u) windows := by
  intro dials quarters small minutes windows
  have full : dialsBoundary (delta.isSome || applied || becameValid) s = dials := by
    have cause : (delta.isSome || applied || becameValid) = true ↔ delta ≠ none ∨ applied = true ∨ becameValid = true := by
      simp [Option.isSome_iff_ne_none, or_assoc]
    exact if_congr cause rfl rfl
  have label : dials.label = s.tb.label := by
    rw [← full]
    exact congrArg TimeBase.label (dialsBoundary_frame s _).tb
  have late : (smallDelta delta && !applied) = small := by
    cases delta with
    | none => rfl
    | some d => cases applied <;> simp [small, smallDelta]
  have now : minutes.civilNow = s.civilNow := by
    have dial : dials.civilNow = s.civilNow := by
      rw [← full]
      exact civilNow_congr (congrArg TimeBase.label (dialsBoundary_frame s _).tb) (dialsBoundary_frame s _).civil
    have quarter : quarters.civilNow = s.civilNow := by
      rw [← dial]
      show (match s.tb.label with
        | some l => strikeBoundary delta l dials
        | none => dials).civilNow = dials.civilNow
      split
      next l _ =>
        exact civilNow_congr (congrArg TimeBase.label (strikeBoundary_frame dials delta l).tb)
          (strikeBoundary_frame dials delta l).civil
      · rfl
    exact (civilNow_congr (congrArg TimeBase.label (calendarCompare_frame _ _ _).tb) (calendarCompare_frame _ _ _).civil).trans quarter
  have changed : (minuteChanged old minutes || becameValid) = true ↔
      old.map Label.dayMinute ≠ s.civilNow.map Label.dayMinute ∨ becameValid = true := by
    simp [minuteChanged, now]
  have follows : blocksBoundary old delta applied becameValid s =
      lightsBoundary (minuteChanged old minutes || becameValid) minutes := by
    unfold blocksBoundary
    rw [full]
    dsimp only
    rw [label, late] <;> rfl
  have lights : (if minuteChanged old minutes || becameValid then
      overrideTests (recomputeWindows minutes.activeScenes minutes) else minutes) = windows := if_congr changed rfl rfl
  rw [follows, lightsBoundary, ← lights]
  by_cases moved : (minuteChanged old minutes || becameValid) = true
  · simp only [if_pos moved]
    rfl
  · simp only [if_neg moved]
    rfl

/-- The course of a boundary at which no offset change falls due. -/
theorem boundary_ordinary (free : s.warm.held = none) (quiet : changeDue (begun s) = false) :
    let next := s.tb.label.map Label.advance
    let b := begun s
    let delta := stepDelta next b.tb.label
    let becameValid := b.tb.label.isSome && !s.tb.validAtBoundary
    let u := dateChange s.civilNow becameValid (postStep delta b)
    boundary s = blocksBoundary s.civilNow delta false becameValid
      { u with tb := { u.tb with validAtBoundary := b.tb.label.isSome } } := by
  intro next b delta becameValid u
  have open' : (steppedOn s).warm.held = none :=
    (steppedOn_frame s).warmHeld.trans ((begun_frame s).warmHeld.trans free)
  have tb : (steppedOn s).tb = (begun s).tb := (steppedOn_frame s).tb
  have valid : (begun s).tb.validAtBoundary = s.tb.validAtBoundary := by rw [begun, beginSecond_tb_eq]; rfl
  rw [boundary_eq, newSecondTail_ordinary _ _ ((changeDue_steppedOn s).trans quiet), tailOf, tb, valid]
  exact if_pos open'

/-- Settles O20, from the second that begins, the moves at the limits and the course of the blocks. -/
theorem boundariesAndTheirLimits : Obligations.BoundariesAndTheirLimits := by
  refine ⟨fun s reached => ⟨_, exec_boundary reached, ?timeBase⟩,
    fun s => ⟨fun eight locked => ?locked, fun eight acquire => ?acquire, fun other => ?other, fun holdover limit => ?holdover,
      fun other => congrArg Host.Outcome.next (if_neg (by rcases other with h | h; exacts [fun k => h k.1, fun k => Nat.not_le.2 h k.2]))⟩,
    fun s label locked on unmarked seven => beginSecond_lost label locked on unmarked seven,
    fun s reached free => ?course, blocksBoundary_eq, fun s t c ran reached free now => ?cursor⟩
  case timeBase =>
    dsimp only
    rw [boundary_tb]
    refine ⟨begun_label s, ?_, ?_, ?_, ?_, ?_, ?_, ?_, ?_, ?_, ?_, ?_, ?_, boundary_frame s⟩
    all_goals rw [begun, beginSecond_tb_eq]
    all_goals rfl
  case locked => exact congrArg Host.Outcome.next ((if_neg (Nat.not_lt.2 eight)).trans (missedMove_locked locked))
  case acquire => exact congrArg Host.Outcome.next ((if_neg (Nat.not_lt.2 eight)).trans (missedMove_acquire acquire))
  case other =>
    refine congrArg Host.Outcome.next (?_ : missedLimit s = s)
    unfold missedLimit
    split
    · rfl
    next eight => exact missedMove_other (other.resolve_left eight)
  case holdover =>
    refine congrArg Host.Outcome.next ((if_pos ⟨holdover, limit⟩).trans ?_)
    rw [setDisc_change s (by rw [holdover]; decide), holdover]
    rfl
  case course =>
    intro next b waits delta stepped becameValid dated
    rw [exec_boundary reached, boundary_ordinary free]
    · rfl
    · cases change : (begun s).civil.change with
      | none => exact changeDue_none change
      | some c =>
        obtain ⟨i, at', before⟩ := waits c ((congrArg Civil.change (begun_frame s).civil).symm.trans change)
        exact changeDue_eq_false change at' before
  case cursor =>
    obtain rfl : boundary s = t := Host.Outcome.next.inj ((exec_boundary reached).symm.trans ran)
    exact boundary_cursor free now

end Sys2Proof.Machine
end

section
/-! SUPPORT. OFFSET_SET and the offset change that a boundary applies (R32, R33). -/

namespace Sys2Proof.Machine

set_option Elab.async false

variable {s t : State}

/-! ### The boundary that applies a change -/

theorem tailOf_civil (old : Option Label) (delta : Option Int) (applied : Bool) (s : State) :
    (tailOf old delta applied s).civil = s.civil := by
  unfold tailOf
  dsimp only
  split
  · rw [(blocksBoundary_frame _ _ _ _ _).civil, (dated_frame _ _ _ s).civil]
  · rw [(dated_frame _ _ _ s).civil]

theorem applyOffset_eq {c : OffsetChange} (pending : s.civil.change = some c) :
    applyOffset s = post .offsetApplied 0 (BitVec.ofInt 16 c.offset)
      { s with civil := { s.civil with offset := c.offset, change := none } } := by
  simp only [applyOffset, pending]

theorem steppedOn_change (s : State) : (steppedOn s).civil.change = s.civil.change := by
  rw [(steppedOn_frame s).civil, (begun_frame s).civil]

theorem boundary_label (s : State) : (boundary s).tb.label = (begun s).tb.label := by rw [boundary_tb]

theorem boundary_civil_due {c : OffsetChange} (pending : s.civil.change = some c) (due : changeDue (begun s) = true) :
    (boundary s).civil = { s.civil with offset := c.offset, change := none } := by
  rw [boundary_eq, newSecondTail_applied _ _ ((changeDue_steppedOn s).trans due), tailOf_civil,
    applyOffset_eq ((steppedOn_change s).trans pending), post_civil]
  dsimp only
  rw [(steppedOn_frame s).civil, (begun_frame s).civil]

theorem boundary_civil_quiet (quiet : changeDue (begun s) = false) : (boundary s).civil = s.civil := by
  rw [boundary_eq, newSecondTail_ordinary _ _ ((changeDue_steppedOn s).trans quiet), tailOf_civil,
    (steppedOn_frame s).civil, (begun_frame s).civil]

/-- A change falls due at the boundary where the second that begins reaches its instant. -/
theorem begun_due {c : OffsetChange} (pending : s.civil.change = some c)
    (reached : c.instant = .next ∨ ∃ l i, (begun s).tb.label = some l ∧ c.instant = .label i ∧ l.atOrAfter i = true) :
    changeDue (begun s) = true := by
  have waits : (begun s).civil.change = some c := by rw [(begun_frame s).civil, pending]
  rcases reached with next | ⟨l, i, label, at', after⟩
  · exact changeDue_next waits next
  · exact (changeDue_label waits at').2 ⟨l, label, after⟩

theorem begun_quiet {c : OffsetChange} {i : Label} (pending : s.civil.change = some c) (at' : c.instant = .label i)
    (before : ∀ l, (begun s).tb.label = some l → l.atOrAfter i = false) : changeDue (begun s) = false :=
  changeDue_eq_false (by rw [(begun_frame s).civil, pending]) at' before

/-! ### OFFSET_CHANGE_APPLIED -/

theorem offsetChangeApplied_due (reached : s.tb.len ≤ s.tb.count + 1) (due : changeDue (begun s) = true) :
    offsetChangeApplied s = boundary s :=
  if_pos (by rw [boundaryApplies, Bool.and_eq_true, decide_eq_true_iff]; exact ⟨reached, due⟩)

theorem offsetChangeApplied_quiet (h : s.tb.count + 1 < s.tb.len ∨ changeDue (begun s) = false) :
    offsetChangeApplied s = s :=
  if_neg fun applies => by
    rw [boundaryApplies, Bool.and_eq_true, decide_eq_true_iff] at applies
    obtain ⟨reached, due⟩ := applies
    rcases h with within | quiet
    · exact absurd reached (Nat.not_le.2 within)
    · exact Bool.false_ne_true (quiet.symm.trans due)

/-! ### The notices of a warm reset (R186) -/

/-- A posted notice makes the reset notice list at most one longer. -/
theorem post_held_length (k : NoticeKind) (i : Nat) (x : BitVec 16) (s : State) :
    (post k i x s).warm.notices.length ≤ s.warm.notices.length + 1 := by
  rw [post_eq]
  by_cases held : s.warm.held = none
  · rw [postNotice_free s _ held]
    exact Nat.le_succ _
  · rw [postNotice_held s _ held]
    split
    · exact (List.length_append ..).le
    · exact Nat.le_succ _

theorem setDisc_held_length (d : Discipline) (s : State) :
    (setDisc d s).warm.notices.length ≤ s.warm.notices.length + 1 := by
  by_cases same : s.tb.disc = d
  · rw [setDisc_same s same]
    exact Nat.le_succ _
  · rw [setDisc_change s same]
    exact post_held_length _ _ _ _

theorem begun_held_length (s : State) : (begun s).warm.notices.length ≤ s.warm.notices.length + 3 := by
  have rises (u : State) : (holdoverRise u).warm.notices.length ≤ u.warm.notices.length + 1 := by
    unfold holdoverRise
    dsimp only
    split_ifs
    · exact setDisc_held_length _ _
    · exact Nat.le_succ _
    · exact Nat.le_succ _
  have misses (u : State) : (missedTest u).warm.notices.length ≤ u.warm.notices.length + 1 := by
    have moves (v : State) : (missedMove v).warm.notices.length ≤ v.warm.notices.length + 1 := by
      unfold missedMove
      split
      · exact setDisc_held_length _ _
      · exact setDisc_held_length _ _
      · exact Nat.le_succ _
    unfold missedTest
    dsimp only
    split_ifs
    · exact moves _
    · exact Nat.le_succ _
    · exact moves _
    · exact Nat.le_succ _
  have leaves (waited : Bool) (u : State) : (leaveUnset waited u).warm.notices.length ≤ u.warm.notices.length + 1 := by
    unfold leaveUnset
    split_ifs
    · exact setDisc_held_length _ _
    · exact setDisc_held_length _ _
    · exact Nat.le_succ _
  have first := rises (s.setTb ({ s.tb.newSecond with label := s.tb.label.map Label.advance } : TimeBase).takePending)
  have second := misses (holdoverRise (s.setTb ({ s.tb.newSecond with label := s.tb.label.map Label.advance } : TimeBase).takePending))
  have third := leaves s.tb.pendingLabel.isSome (missedTest (holdoverRise
    (s.setTb ({ s.tb.newSecond with label := s.tb.label.map Label.advance } : TimeBase).takePending)))
  calc (begun s).warm.notices.length ≤ _ + 1 := third
    _ ≤ _ + 1 + 1 := Nat.succ_le_succ second
    _ ≤ s.warm.notices.length + 1 + 1 + 1 := Nat.succ_le_succ (Nat.succ_le_succ first)

theorem steppedOn_held_length (s : State) : (steppedOn s).warm.notices.length ≤ s.warm.notices.length + 4 := by
  have begins := begun_held_length s
  unfold steppedOn postStep
  split
  · exact (post_held_length _ _ _ _).trans (Nat.succ_le_succ begins)
  · exact begins.trans (Nat.le_succ _)

/-- A notice posted in a warm reset with room in the list stands there. -/
theorem mem_post_held (k : NoticeKind) (i : Nat) (x : BitVec 16) (held : s.warm.held ≠ none)
    (room : s.warm.notices.length < 16) :
    ({ kind := k, subject := i, detail := x, stamp := s.tb.uptime, label := s.tb.label } : Notice) ∈
      (post k i x s).warm.notices := by
  rw [post_eq, postNotice_held s _ held, if_pos room]
  exact List.mem_append_right _ (List.mem_singleton_self _)

/-- OFFSET_APPLIED of a boundary in a warm reset. -/
theorem boundary_held_notice {c : OffsetChange} (pending : s.civil.change = some c) (due : changeDue (begun s) = true)
    (held : s.warm.held ≠ none) (room : s.warm.notices.length ≤ 11) :
    ({ kind := .offsetApplied, subject := 0, detail := BitVec.ofInt 16 c.offset, stamp := (boundary s).now,
       label := (boundary s).tb.label } : Notice) ∈ (boundary s).warm.notices := by
  have fits : (steppedOn s).warm.notices.length < 16 := by
    have := steppedOn_held_length s
    omega
  have holds : (steppedOn s).warm.held ≠ none := by
    rw [(steppedOn_frame s).warmHeld, (begun_frame s).warmHeld]
    exact held
  have tb : (steppedOn s).tb = (begun s).tb := (steppedOn_frame s).tb
  have posted := mem_post_held .offsetApplied 0 (BitVec.ofInt 16 c.offset)
    (s := { steppedOn s with civil := { (steppedOn s).civil with offset := c.offset, change := none } }) holds fits
  rw [← applyOffset_eq ((steppedOn_change s).trans pending)] at posted
  dsimp only at posted
  rw [tb] at posted
  rw [State.now, boundary_tb, boundary_eq, newSecondTail_applied _ _ ((changeDue_steppedOn s).trans due), tailOf]
  have stays : (applyOffset (steppedOn s)).warm.held ≠ none := by
    rw [(applyOffset_frame _).warmHeld]
    exact holds
  dsimp only
  rw [if_neg stays]
  rw [(dated_frame _ _ _ (applyOffset (steppedOn s)) .notices (by decide)).1]
  exact posted

/-! ### OFFSET_SET (R32) -/

variable {o : Int} {day sec : Nat} {i : OffsetInstant}

theorem actOffsetSet_accepted (low : -720 ≤ o) (high : o ≤ 840) (quarter : o % 15 = 0) (instant : instantOf day sec = some i)
    (valid : i = .next ∨ s.tb.label ≠ none) : actOffsetSet o day sec s = accept (beS2 o ++ beInstant i)
      { s with civil := { s.civil with change := some { offset := o, instant := i } } } := by
  have inside : ¬(o % 15 ≠ 0 ∨ o < -720 ∨ 840 < o) := by omega
  have timed : ¬(i ≠ .next ∧ (!s.timeValid) = true) := by
    rintro ⟨label, unset⟩
    have labelled := valid.resolve_left label
    simp only [State.timeValid, Bool.not_eq_true', Option.isSome_eq_false_iff, Option.isNone_iff_eq_none] at unset
    exact labelled unset
  rw [actOffsetSet, if_neg inside, instant]
  exact if_neg timed

theorem actOffsetSet_range (bad : o % 15 ≠ 0 ∨ o < -720 ∨ 840 < o ∨ instantOf day sec = none) :
    actOffsetSet o day sec s = refuse .range s := by
  unfold actOffsetSet
  split
  · rfl
  next inside =>
    have none : instantOf day sec = none := by
      rcases bad with h | h | h | h
      · exact absurd (.inl h) inside
      · exact absurd (.inr (.inl h)) inside
      · exact absurd (.inr (.inr h)) inside
      · exact h
    rw [none]

theorem actOffsetSet_unset {l : Label} (low : -720 ≤ o) (high : o ≤ 840) (quarter : o % 15 = 0)
    (instant : instantOf day sec = some (.label l)) (unset : s.tb.label = none) :
    actOffsetSet o day sec s = refuse .unset s := by
  have inside : ¬(o % 15 ≠ 0 ∨ o < -720 ∨ 840 < o) := by omega
  have untimed : s.timeValid = false := Option.isSome_eq_false_iff.2 (Option.isNone_iff_eq_none.2 unset)
  rw [actOffsetSet, if_neg inside, instant]
  exact if_pos ⟨nofun, by rw [untimed]; rfl⟩

/-- Settles O28, from the boundary that applies a change. -/
theorem offsetChanges : Obligations.OffsetChanges := by
  refine ⟨fun tag s o day sec i free low high quarter instant valid => ?accepted,
    fun tag s o day sec free bad => ?range, fun tag s o day sec l free low high quarter instant unset => ?unset,
    fun s t c ran reached pending => ?boundary, fun s c pending => applyOffset_eq pending,
    fun s c old delta pending due => ?tail, fun s t c ran reached pending next held room => ?notice,
    fun s c pending => ⟨fun reached due => ?applies, fun quiet => congrArg Host.Outcome.next (offsetChangeApplied_quiet ?quiet)⟩,
    fun s none => congrArg Host.Outcome.next (offsetChangeApplied_quiet (.inr (changeDue_none ?none)))⟩
  case accepted =>
    exact answers free (actOffsetSet_accepted low high quarter instant valid) rfl
  case range => exact answers free (actOffsetSet_range bad) rfl
  case unset => exact answers free (actOffsetSet_unset low high quarter instant unset) rfl
  case boundary =>
    obtain rfl : Machine.boundary s = t := Host.Outcome.next.inj ((exec_boundary reached).symm.trans ran)
    rw [boundary_label]
    refine ⟨fun due => boundary_civil_due pending (begun_due pending due), fun label before => ?_⟩
    cases at' : c.instant with
    | next => exact absurd at' label
    | label i => exact boundary_civil_quiet (begun_quiet pending at' fun l running => before l i running at')
  case tail =>
    intro u becameValid v w
    have tb : (applyOffset s).tb = s.tb := (applyOffset_frame s).tb
    rw [newSecondTail_applied old delta due, tailOf, (applyOffset_frame s).warmHeld, tb]
    rfl
  case notice =>
    obtain rfl : Machine.boundary s = t := Host.Outcome.next.inj ((exec_boundary reached).symm.trans ran)
    exact boundary_held_notice pending (begun_due pending (.inl next)) held room
  case applies =>
    rw [exec_boundary reached]
    refine congrArg Host.Outcome.next (offsetChangeApplied_due reached (begun_due pending ?_))
    rw [begun_label]
    exact due
  case quiet =>
    refine quiet.imp id ?_
    rintro ⟨i, at', before⟩
    exact begun_quiet pending at' (by rw [begun_label]; exact before)
  case none => rw [(begun_frame s).civil, none]

end Sys2Proof.Machine
end

section
/-! SUPPORT. Dates and day numbers (R29, R31): the year and the month of a day. -/

namespace Sys2Proof.Machine

set_option Elab.async false

/-! ### The year of a day number -/

theorem daysOfYears_succ (k : Nat) : daysOfYears (k + 1) = daysOfYears k + yearLength (2000 + k) := rfl

theorem daysOfYears_le_add (k j : Nat) : daysOfYears k ≤ daysOfYears (k + j) := by
  induction j with
  | zero => exact Nat.le_refl _
  | succ j ih => exact ih.trans (Nat.le_add_right _ _)

/-- Whole years are taken away until the day lies in its year. -/
theorem yearOf_eq (j : Nat) : ∀ {fuel k d r : Nat}, j ≤ fuel → r < yearLength (2000 + (k + j)) →
    d + daysOfYears k = daysOfYears (k + j) + r → yearOf fuel (2000 + k) d = (2000 + (k + j), r) := by
  induction j with
  | zero =>
    intro fuel k d r _ inside sum
    have same : d = r := by rw [Nat.add_zero] at sum; omega
    subst same
    cases fuel with
    | zero => rfl
    | succ fuel => exact if_pos inside
  | succ j ih =>
    intro fuel k d r enough inside sum
    obtain ⟨fuel, rfl⟩ : ∃ f, fuel = f + 1 := ⟨fuel - 1, by omega⟩
    have shift : k + 1 + j = k + (j + 1) := by omega
    have whole := daysOfYears_le_add (k + 1) j
    rw [shift, daysOfYears_succ] at whole
    have beyond : ¬d < yearLength (2000 + k) := by omega
    have rest : d - yearLength (2000 + k) + daysOfYears (k + 1) = daysOfYears (k + 1 + j) + r := by
      rw [shift, daysOfYears_succ]
      omega
    have next := ih (fuel := fuel) (k := k + 1) (Nat.le_of_succ_le_succ enough) (by rwa [shift]) rest
    rw [shift] at next
    exact (if_neg beyond).trans next

/-- Every day before a year lies in one of the years before it. -/
theorem exists_year {n : Nat} : ∀ {k : Nat}, n < daysOfYears k →
    ∃ j r, j < k ∧ r < yearLength (2000 + j) ∧ n = daysOfYears j + r := by
  intro k
  induction k with
  | zero => exact fun none => absurd none (Nat.not_lt_zero n)
  | succ k ih =>
    intro before
    rw [daysOfYears_succ] at before
    by_cases earlier : n < daysOfYears k
    · obtain ⟨j, r, first, inside, sum⟩ := ih earlier
      exact ⟨j, r, Nat.lt_succ_of_lt first, inside, sum⟩
    · exact ⟨k, n - daysOfYears k, Nat.lt_succ_self k, by omega, by omega⟩

/-! ### The month of a day of the year -/

theorem monthOf_eq (ls : List Nat) : ∀ {m i d r : Nat}, r < ls.getD i 0 → d = (ls.take i).sum + r →
    monthOf ls m d = (m + i, r) := by
  induction ls with
  | nil => exact fun {m i d r} inside _ => absurd inside (by simp)
  | cons len rest ih =>
    intro m i d r inside sum
    cases i with
    | zero =>
      rw [List.take_zero, List.sum_nil, Nat.zero_add] at sum
      subst sum
      exact if_pos inside
    | succ i =>
      rw [List.take_succ_cons, List.sum_cons] at sum
      have beyond : ¬d < len := by omega
      have next := ih (m := m + 1) (i := i) (d := d - len) (r := r) inside (by omega)
      rw [show m + 1 + i = m + (i + 1) by omega] at next
      exact (if_neg beyond).trans next

theorem exists_month (ls : List Nat) : ∀ {d : Nat}, d < ls.sum → ∃ i r, r < ls.getD i 0 ∧ d = (ls.take i).sum + r := by
  induction ls with
  | nil => exact fun {d} none => absurd none (Nat.not_lt_zero d)
  | cons len rest ih =>
    intro d before
    rw [List.sum_cons] at before
    by_cases first : d < len
    · exact ⟨0, d, first, (Nat.zero_add d).symm⟩
    · obtain ⟨i, r, inside, sum⟩ := ih (d := d - len) (by omega)
      refine ⟨i + 1, r, inside, ?_⟩
      rw [List.take_succ_cons, List.sum_cons]
      omega

theorem monthLengths_sum (y : Nat) : (monthLengths y).sum = yearLength y := by
  unfold monthLengths yearLength
  cases leapYear y <;> rfl

/-- A day of a month is a day of its year. -/
theorem monthDay_lt {y i r : Nat} (inside : r < (monthLengths y).getD i 0) :
    ((monthLengths y).take i).sum + r < yearLength y := by
  have within : i < (monthLengths y).length := by
    by_contra outside
    rw [List.getD_eq_default _ _ (Nat.not_lt.1 outside)] at inside
    exact Nat.not_lt_zero r inside
  have split : (monthLengths y).sum = ((monthLengths y).take (i + 1)).sum + ((monthLengths y).drop (i + 1)).sum := by
    rw [← List.sum_append, List.take_append_drop]
  rw [List.take_succ_eq_append_getElem within, List.sum_append, List.sum_singleton] at split
  rw [List.getD_eq_getElem _ _ within] at inside
  rw [← monthLengths_sum, split]
  omega

/-! ### Dates -/

/-- The day number of a day of a month of a year, each counted from 0. -/
def dayIndex (k i r : Nat) : Nat := daysOfYears k + (((monthLengths (2000 + k)).take i).sum + r)

theorem dateOf_dayIndex {k i r : Nat} (year : k ≤ 180) (inside : r < (monthLengths (2000 + k)).getD i 0) :
    dateOf (dayIndex k i r) = { year := 2000 + k, month := 1 + i, day := r + 1 } := by
  have whole : yearOf 180 2000 (dayIndex k i r) = (2000 + k, ((monthLengths (2000 + k)).take i).sum + r) := by
    have found := yearOf_eq k (fuel := 180) (k := 0) (d := dayIndex k i r) year
      (by rw [Nat.zero_add]; exact monthDay_lt inside) (by rw [Nat.zero_add]; rfl)
    rwa [Nat.zero_add] at found
  unfold dateOf
  rw [whole]
  dsimp only
  rw [monthOf_eq _ inside rfl]

theorem dayNumber_dayIndex (k i r : Nat) :
    dayNumber { year := 2000 + k, month := 1 + i, day := r + 1 } = dayIndex k i r := by
  unfold dayNumber dayIndex daysBeforeMonth
  dsimp only
  rw [Nat.add_sub_cancel_left, Nat.add_sub_cancel_left, Nat.add_sub_cancel]
  omega

theorem monthLength_succ (y i : Nat) : monthLength y (1 + i) = (monthLengths y).getD i 0 := by
  rw [monthLength, if_neg (by omega), Nat.add_sub_cancel_left]

theorem le_daysOfYears (k : Nat) : 365 * k ≤ daysOfYears k := by
  induction k with
  | zero => exact Nat.le_refl 0
  | succ k ih =>
    have long : 365 ≤ yearLength (2000 + k) := by
      unfold yearLength
      split <;> decide
    rw [daysOfYears_succ]
    omega

theorem exists_dayIndex {n : Nat} (small : n ≤ 65535) :
    ∃ k i r, k < 180 ∧ r < (monthLengths (2000 + k)).getD i 0 ∧ n = dayIndex k i r := by
  obtain ⟨k, d, year, inside, sum⟩ := exists_year (n := n) (k := 180) (by have := le_daysOfYears 180; omega)
  obtain ⟨i, r, day, rest⟩ := exists_month (monthLengths (2000 + k)) (d := d) (by rwa [monthLengths_sum])
  exact ⟨k, i, r, year, day, by rw [sum, rest, dayIndex]⟩

/-- Settles O32: a date is a day of a month of a year, and each is found again from the day number. -/
theorem datesAndDayNumbersNameEachOther : Obligations.DatesAndDayNumbersNameEachOther := by
  refine ⟨fun n small => ?_, fun d n passes => ?_, fun n => ⟨by simp only [weekday]; omega, rfl⟩⟩
  · obtain ⟨k, i, r, year, inside, rfl⟩ := exists_dayIndex small
    have month : i < 12 := by
      by_contra outside
      rw [List.getD_eq_default _ _ (show (monthLengths (2000 + k)).length ≤ i from Nat.not_lt.1 outside)] at inside
      exact Nat.not_lt_zero r inside
    rw [dateOf_dayIndex (Nat.le_of_lt year) inside, checkDate, if_pos]
    · rw [dayNumber_dayIndex]
      exact if_pos small
    · dsimp only
      rw [monthLength_succ]
      omega
  · unfold checkDate at passes
    split at passes
    next valid =>
      obtain ⟨low, high, first, last, day, inside⟩ := valid
      dsimp only at passes
      split at passes
      next small =>
        obtain rfl := Option.some.inj passes
        obtain ⟨year, month, number⟩ := d
        dsimp only at low high first last day inside
        obtain ⟨k, rfl⟩ : ∃ k, year = 2000 + k := ⟨year - 2000, by omega⟩
        obtain ⟨i, rfl⟩ : ∃ i, month = 1 + i := ⟨month - 1, by omega⟩
        obtain ⟨r, rfl⟩ : ∃ r, number = r + 1 := ⟨number - 1, by omega⟩
        rw [monthLength_succ] at inside
        refine ⟨small, ?_⟩
        rw [dayNumber_dayIndex, dateOf_dayIndex (by omega) inside]
      · cases passes
    · cases passes

end Sys2Proof.Machine
end

section
/-! SUPPORT. What the Event Calendar's comparison leaves of the calendar: the tables and every event but its last-fired
day (R148, R151). -/

namespace Sys2Proof.Machine

set_option Elab.async false

theorem SameTables.refl (s : State) : SameTables s s := ⟨rfl, rfl, rfl, rfl⟩

theorem SameTables.trans {s t u : State} (h : SameTables s t) (k : SameTables t u) : SameTables s u :=
  ⟨k.days.trans h.days, k.civil.trans h.civil, k.sun.trans h.sun, k.yesterday.trans h.yesterday⟩

/-- The tables stand, and every event but its last-fired day. -/
structure CalendarKept (s t : State) : Prop where
  tables : SameTables s t
  record : ∀ n, ∃ d, t.event n = { s.event n with lastFired := d }

namespace CalendarKept

variable {s t u : State}

theorem refl (s : State) : CalendarKept s s := ⟨.refl s, fun n => ⟨(s.event n).lastFired, rfl⟩⟩

theorem trans (h : CalendarKept s t) (k : CalendarKept t u) : CalendarKept s u where
  tables := h.tables.trans k.tables
  record n := by
    obtain ⟨d, ht⟩ := h.record n
    obtain ⟨d', hu⟩ := k.record n
    exact ⟨d', by rw [hu, ht]⟩

theorem of_frame {ps : List Part} (h : Frame ps s t) (days : Part.days ∉ ps := by decide)
    (civil : Part.civil ∉ ps := by decide) (sun : Part.sun ∉ ps := by decide) (cal : Part.cal ∉ ps := by decide) :
    CalendarKept s t where
  tables := ⟨h.days days, h.civil civil, h.sun sun, by rw [h.cal cal]⟩
  record n := ⟨(s.event n).lastFired, by rw [State.event, State.event, h.cal cal]⟩

/-- A write to the calendar's own working fields. -/
theorem of_cal (s : State) (c : Calendar) (events : c.events = s.cal.events := by rfl)
    (yesterday : c.yesterday = s.cal.yesterday := by rfl) : CalendarKept s { s with cal := c } where
  tables := ⟨rfl, rfl, rfl, yesterday⟩
  record n := ⟨(s.event n).lastFired, by simp only [State.event, events]⟩

theorem markFired (n : Fin 96) (date : Nat) (s : State) : CalendarKept s (markFired n date s) where
  tables := ⟨rfl, rfl, rfl, rfl⟩
  record m := by
    by_cases same : n = m
    · subst same
      exact ⟨some date, State.setEvent_event_self ..⟩
    · exact ⟨(s.event m).lastFired, State.setEvent_event_ne s same _⟩

theorem foldl {α : Type} {f : State → α → State} (h : ∀ s x, CalendarKept s (f s x)) (xs : List α) (s : State) :
    CalendarKept s (xs.foldl f s) :=
  foldl_keeps (P := CalendarKept s) (fun t x k => k.trans (h t x)) xs (refl s)

/-! ### The comparison -/

theorem eventNotice (n : Fin 96) (late : Bool) (session : Nat) (r : EventReason) (s : State) :
    CalendarKept s (eventNotice n late session r s) := of_frame (eventNotice_frame s n late session r)

theorem sunTest (today date : Nat) (late : Bool) (n : Fin 96) (s : State) :
    CalendarKept s (sunTest today date late n s) := by
  unfold Machine.sunTest
  split
  · exact (markFired n date s).trans (eventNotice ..)
  · exact refl s

theorem windowSunTest (today date : Nat) (late : Bool) (n : Fin 96) (s : State) :
    CalendarKept s (windowSunTest today date late n s) := of_frame (windowSunTest_frame s today date late n)

theorem fireTest (today : Nat) (m : DayMinute) (late : Bool) (n : Fin 96) (s : State) :
    CalendarKept s (fireTest today m late n s) := by
  unfold Machine.fireTest
  split
  · exact ((markFired n m.day s).trans (of_frame (handEvent_frame _ n))).trans (eventNotice ..)
  · exact refl s

theorem takeMinute (today : Nat) (m : DayMinute) (late : Bool) (s : State) : CalendarKept s (takeMinute today m late s) := by
  have sun := foldl (fun u n => sunTest today m.day late n u) allEvents s
  unfold Machine.takeMinute
  dsimp only
  refine CalendarKept.trans ?_ (foldl (fun u n => fireTest today m late n u) _ _)
  split
  · exact sun
  · have windows := sun.trans (foldl (fun u n => windowSunTest today m.day late n u) allEvents _)
    generalize allEvents.foldl (fun u n => Machine.windowSunTest today m.day late n u) _ = u at windows ⊢
    exact windows.trans (of_cal u _)

theorem missedEventTest (today : Nat) (k : DayMinute) (n : Nat) (e : Fin 96) (date : Nat) (s : State) :
    CalendarKept s (missedEventTest today k n e date s) := by
  unfold Machine.missedEventTest
  split
  · split
    · dsimp only
      split
      · exact (markFired e date s).trans (of_frame (post_frame _ _ _ _))
      · exact refl s
    · split
      · exact (markFired e date s).trans (eventNotice ..)
      · exact refl s
  · exact refl s

theorem missedEvents (today : Nat) (k : DayMinute) (n : Nat) (s : State) : CalendarKept s (missedEvents today k n s) :=
  foldl (fun u e => (missedEventTest today k n e _ u).trans (missedEventTest today k n e _ _)) allEvents s

theorem forwardJump (today : Nat) (k : DayMinute) (n held : Nat) (small : Bool) (s : State) :
    CalendarKept s (forwardJump today k n held small s) := by
  unfold Machine.forwardJump lateMinutes
  split
  · exact (missedEvents today k held s).trans (foldl (fun u _ => takeMinute today _ true u) _ _)
  · exact missedEvents today k n s

theorem setCursor (m : Option DayMinute) (s : State) : CalendarKept s (setCursor m s) := of_cal s _

theorem compareCursor (c : Label) (begins small : Bool) (held : Option DayMinute) (s : State) :
    CalendarKept s (compareCursor c begins small held s) := by
  unfold Machine.compareCursor
  refine CalendarKept.trans ?_ (setCursor _ _)
  have taken (u : State) := takeMinute c.day c.dayMinute false u
  dsimp only
  split
  · split
    · exact taken s
    · exact refl s
  · split
    · exact refl s
    · split
      · exact taken s
      · split
        · exact (forwardJump c.day _ _ _ small s).trans (taken _)
        · exact forwardJump c.day _ _ _ small s

theorem calendarCompare (boundary small : Bool) (s : State) : CalendarKept s (calendarCompare boundary small s) := by
  unfold Machine.calendarCompare
  split
  · exact refl s
  · exact (of_cal s _).trans (compareCursor ..)

theorem recomputeWindows (old : List (Fin 96)) (s : State) : CalendarKept s (recomputeWindows old s) := by
  have set : CalendarKept s { s with cal := { s.cal with active := activeNow s } } := of_cal s _
  unfold Machine.recomputeWindows
  dsimp only
  split
  · exact set
  · exact set.trans (of_frame (deriveLights_frame _))

theorem lightsBoundary (changed : Bool) (s : State) : CalendarKept s (lightsBoundary changed s) := by
  have windows := (recomputeWindows s.activeScenes s).trans (of_frame (overrideTests_frame _))
  unfold Machine.lightsBoundary
  refine CalendarKept.trans ?_ (of_frame (deriveLights_frame _))
  cases changed
  · exact refl s
  · exact windows

theorem relabelWindows (s : State) : CalendarKept s (relabelWindows s) :=
  (recomputeWindows s.activeScenes s).trans (of_frame (overrideTests_frame _))

theorem blocksBoundary (old : Option Label) (delta : Option Int) (applied becameValid : Bool) (s : State) :
    CalendarKept s (blocksBoundary old delta applied becameValid s) := by
  unfold Machine.blocksBoundary
  refine (CalendarKept.trans ?_ (calendarCompare ..)).trans (lightsBoundary ..)
  have dials : CalendarKept s (dialsBoundary (delta.isSome || applied || becameValid) s) :=
    of_frame (dialsBoundary_frame s _)
  split
  · exact dials.trans (of_frame (strikeBoundary_frame _ _ _))
  · exact dials

end CalendarKept

end Sys2Proof.Machine
end

section
/-! SUPPORT. The Day-Class List and the Sun Table: their requests, the order of the list, and the change of civil date
(R31, R36, R38, R39, R42, R148). -/

namespace Sys2Proof.Machine

set_option Elab.async false

variable {s t : State}

/-! ### The order of the list (R31, R36) -/

/-- A list in the order of the dates from `a` on. -/
abbrev AscendingFrom (a : Nat) (xs : List DayEntry) : Prop :=
  xs.Pairwise (fun x y => daysAfter a x.date ≤ daysAfter a y.date)

theorem dateOrder_perm (a : Nat) (xs : List DayEntry) : (dateOrder a xs).Perm xs := daysFrom_perm _ xs

/-- The place of a date on the circle from `d0` on. -/
abbrev placeFrom (d0 d : Nat) : Nat := (d + 65536 - d0 % 65536) % 65536

theorem placeFrom_eq (d0 d : Nat) : placeFrom d0 d =
    if d0 % 65536 ≤ d % 65536 then d % 65536 - d0 % 65536 else d % 65536 + 65536 - d0 % 65536 := by
  unfold placeFrom
  split <;> omega

/-- The way round the circle from one date to another. -/
theorem circle_eq (d0 a b : Nat) : (a % 65536 + (65536 - b % 65536)) % 65536 =
    if placeFrom d0 b ≤ placeFrom d0 a then placeFrom d0 a - placeFrom d0 b
    else placeFrom d0 a + 65536 - placeFrom d0 b := by
  rw [placeFrom_eq, placeFrom_eq]
  generalize ha : a % 65536 = a'
  generalize hb : b % 65536 = b'
  generalize hd : d0 % 65536 = d'
  split_ifs <;> omega

/-- Within half the circle "before" is the order of the places (R31). -/
theorem dayBefore_iff {d0 a b : Nat} (ha : placeFrom d0 a < 32768) (hb : placeFrom d0 b < 32768) :
    dayBefore a b = true ↔ placeFrom d0 a < placeFrom d0 b := by
  have way := circle_eq d0 a b
  simp only [dayBefore, dayDiff, circleDiff, way, decide_eq_true_eq]
  generalize placeFrom d0 a = x at *
  generalize placeFrom d0 b = y at *
  split_ifs <;> omega

theorem daysAfter_eq {d0 a b : Nat} (order : placeFrom d0 a ≤ placeFrom d0 b) :
    daysAfter a b = placeFrom d0 b - placeFrom d0 a := by
  have way := circle_eq d0 b a
  rw [if_pos order] at way
  rw [← way]
  unfold daysAfter
  omega

theorem exists_first {xs : List DayEntry} (d0 : Nat) (some' : xs ≠ []) :
    ∃ m ∈ xs, ∀ x ∈ xs, placeFrom d0 m.date ≤ placeFrom d0 x.date := by
  induction xs with
  | nil => exact absurd rfl some'
  | cons x xs ih =>
    by_cases only : xs = []
    · subst only
      exact ⟨x, List.mem_singleton_self x, fun y inside => by rw [List.mem_singleton.1 inside]⟩
    · obtain ⟨m, inside, least⟩ := ih only
      by_cases first : placeFrom d0 x.date ≤ placeFrom d0 m.date
      · exact ⟨x, List.mem_cons_self, List.forall_mem_cons.2 ⟨Nat.le_refl _, fun y old => first.trans (least y old)⟩⟩
      · exact ⟨m, List.mem_cons_of_mem x inside, List.forall_mem_cons.2 ⟨Nat.le_of_not_le first, least⟩⟩

/-- The date a list's order begins at is one no other lies before. -/
theorem firstDay_cases (a : Nat) (xs : List DayEntry) :
    (∃ e ∈ xs, firstDay a xs = e.date ∧ ∀ x ∈ xs, dayBefore x.date e.date = false) ∨
    (firstDay a xs = a ∧ ∀ e ∈ xs, ∃ x ∈ xs, dayBefore x.date e.date = true) := by
  have members {e : DayEntry} : e ∈ daysFrom a xs ↔ e ∈ xs := (daysFrom_perm a xs).mem_iff
  unfold firstDay
  split
  next e found =>
    have first := List.find?_some found
    simp only [List.all_eq_true, Bool.not_eq_true'] at first
    exact .inl ⟨e, members.1 (List.mem_of_find?_eq_some found), rfl, first⟩
  next none =>
    refine .inr ⟨rfl, fun e inside => ?_⟩
    have later := List.find?_eq_none.1 none e (members.2 inside)
    simpa [List.all_eq_true] using later

/-- Dates within half the circle stand ascending in R31's comparison. -/
theorem dateOrder_ascending (a : Nat) {d0 : Nat} {xs : List DayEntry}
    (half : ∀ x ∈ xs, x.date ≤ 65535 ∧ placeFrom d0 x.date < 32768) (once : (xs.map (·.date)).Nodup) :
    (dateOrder a xs).Pairwise (fun x y => dayBefore x.date y.date = true) := by
  have members {e : DayEntry} : e ∈ dateOrder a xs ↔ e ∈ xs := (dateOrder_perm a xs).mem_iff
  have firstPlace : ∀ x ∈ xs, placeFrom d0 (firstDay a xs) ≤ placeFrom d0 x.date := by
    intro x inside
    rcases firstDay_cases a xs with ⟨e, listed, first, least⟩ | ⟨-, preceded⟩
    · rw [first]
      refine Nat.not_lt.1 fun before => ?_
      have := (dayBefore_iff (half x inside).2 (half e listed).2).2 before
      rw [least x inside] at this
      cases this
    · obtain ⟨m, listed, least⟩ := exists_first d0 (List.ne_nil_of_mem inside)
      obtain ⟨y, other, before⟩ := preceded m listed
      exact absurd ((dayBefore_iff (half y other).2 (half m listed).2).1 before) (Nat.not_lt.2 (least y other))
  have ascending : AscendingFrom (firstDay a xs) (dateOrder a xs) := daysFrom_pairwise _ _
  have differ : (dateOrder a xs).Pairwise (fun x y => x.date ≠ y.date) :=
    List.pairwise_map.1 (((dateOrder_perm a xs).map DayEntry.date).nodup_iff.2 once)
  refine (ascending.and differ).imp_of_mem ?_
  rintro x y hx hy ⟨order, apart⟩
  have inx := members.1 hx
  have iny := members.1 hy
  rw [daysAfter_eq (firstPlace x inx), daysAfter_eq (firstPlace y iny)] at order
  rw [dayBefore_iff (half x inx).2 (half y iny).2]
  have bx := (half x inx).1
  have byy := (half y iny).1
  have px := placeFrom_eq d0 x.date
  have py := placeFrom_eq d0 y.date
  have fx := firstPlace x inx
  have fy := firstPlace y iny
  generalize placeFrom d0 x.date = u at *
  generalize placeFrom d0 y.date = v at *
  split_ifs at px py <;> omega

/-- Where every date has one before it the order begins at `a` (assumption 41). -/
theorem dateOrder_round {a : Nat} {xs : List DayEntry} (preceded : ∀ x ∈ xs, ∃ y ∈ xs, dayBefore y.date x.date = true) :
    (dateOrder a xs).Pairwise (fun x y => placeFrom a x.date ≤ placeFrom a y.date) := by
  have begins : firstDay a xs = a := by
    rcases firstDay_cases a xs with ⟨e, listed, -, least⟩ | ⟨first, -⟩
    · obtain ⟨y, other, before⟩ := preceded e listed
      rw [least y other] at before
      cases before
    · exact first
  have same (d : Nat) : daysAfter a d = placeFrom a d := by
    unfold daysAfter placeFrom
    omega
  have ascending : AscendingFrom (firstDay a xs) (dateOrder a xs) := daysFrom_pairwise _ _
  rw [begins] at ascending
  exact ascending.imp fun {x y} order => by rwa [same, same] at order

/-! ### The pairs of a request (R38) -/

theorem applyPair_find (xs : List DayEntry) (e : DayEntry) (d : Nat) :
    (applyPair xs e).find? (fun x => x.date == d) =
      if d = e.date then (if e.cls = .ordinary then none else some e) else xs.find? (fun x => x.date == d) := by
  have rest : (xs.filter (fun x => x.date != e.date)).find? (fun x => x.date == d) =
      if d = e.date then none else xs.find? (fun x => x.date == d) := by
    rw [List.find?_filter]
    split
    next same =>
      subst same
      exact List.find?_eq_none.2 fun x _ => by simp
    next other =>
      refine congrArg (fun p : DayEntry → Bool => xs.find? p) (funext fun x => ?_)
      by_cases hit : x.date = d
      · simp [hit, other]
      · simp [hit]
  unfold applyPair
  dsimp only
  split
  · rw [rest]
  · by_cases same : d = e.date
    · rw [if_pos same]
      exact List.find?_cons_of_pos (by simp [same])
    · rw [if_neg same, List.find?_cons_of_neg (by simpa using fun h => same h.symm), rest, if_neg same]

theorem applyPair_nodup {xs : List DayEntry} (e : DayEntry) (once : (xs.map (·.date)).Nodup) :
    ((applyPair xs e).map (·.date)).Nodup := by
  have rest : ((xs.filter (fun x => x.date != e.date)).map (·.date)).Nodup := once.sublist (List.filter_sublist.map _)
  unfold applyPair
  dsimp only
  split
  · exact rest
  · rw [List.map_cons, List.nodup_cons]
    refine ⟨fun inside => ?_, rest⟩
    obtain ⟨x, kept, same⟩ := List.mem_map.1 inside
    simp [same] at kept

/-! ### DAYCLASS_WRITE (R38) -/

variable {revision replace : Nat} {pairs : List DatePair} {es : List DayEntry}

theorem pastDates_iff (es : List DayEntry) (s : State) : pastDates es s = true ↔
    ∃ c, s.civilNow = some c ∧ ∃ e ∈ es, dayBefore e.date c.day = true := by
  unfold pastDates
  split
  next c now => simp [now]
  next none => simp [none]

/-- The checks of a DAYCLASS_WRITE pass. -/
structure PairsGood (s : State) (replace : Nat) (pairs : List DatePair) (es : List DayEntry) : Prop where
  replace : replace ≤ 1
  decoded : pairsOf pairs = some es
  some' : pairs ≠ []
  few : pairs.length ≤ 16
  future : ∀ c, s.civilNow = some c → ∀ e ∈ es, dayBefore e.date c.day = false

theorem actDayclassWrite_good (good : PairsGood s replace pairs es) :
    actDayclassWrite revision replace pairs s =
      if revision = 255 ∨ revision = s.days.revision then
        let list := dateOrder ((s.civilNow.map (·.day)).getD 0)
          (es.foldl applyPair (if replace = 1 then [] else s.days.entries))
        if list.length ≤ 64 then accept (be1 (nextRevision s.days.revision) ++ be1 list.length)
          { s with days := { entries := list, revision := nextRevision s.days.revision } }
        else refuseWith .full (be1 s.days.entries.length) s
      else refuseStale s.days.revision s := by
  have future : pastDates es s = false := Bool.eq_false_iff.2 fun past => by
    obtain ⟨c, now, e, inside, before⟩ := (pastDates_iff es s).1 past
    rw [good.future c now e inside] at before
    cases before
  have range : ¬(pairs = [] ∨ 16 < pairs.length ∨ pastDates es s = true) := by
    rintro (h | h | h)
    · exact good.some' h
    · exact absurd good.few (Nat.not_le.2 h)
    · exact Bool.false_ne_true (future.symm.trans h)
  have clear : (if (replace == 1) = true then [] else s.days.entries) = if replace = 1 then [] else s.days.entries :=
    if_congr beq_iff_eq rfl rfl
  unfold actDayclassWrite
  rw [yesNo_of_le good.replace, good.decoded]
  dsimp only
  rw [if_neg range, clear]
  by_cases fresh : revision = 255 ∨ revision = s.days.revision
  · rw [if_pos fresh, (revisionOk_iff _ _).2 fresh, if_neg (by decide)]
    dsimp only [writtenDays]
    split_ifs <;> first | rfl | omega
  · rw [if_neg fresh, if_pos]
    rw [Bool.not_eq_true', Bool.eq_false_iff]
    exact fun ok => fresh ((revisionOk_iff _ _).1 ok)

theorem actDayclassWrite_range (bad : 1 < replace ∨ pairsOf pairs = none ∨ pairs = [] ∨ 16 < pairs.length ∨
    ∃ c es, s.civilNow = some c ∧ pairsOf pairs = some es ∧ ∃ e ∈ es, dayBefore e.date c.day = true) :
    actDayclassWrite revision replace pairs s = refuse .range s := by
  unfold actDayclassWrite
  split
  next clear es flag decoded =>
    refine if_pos ?_
    rcases bad with h | h | h | h | ⟨c, es', now, decoded', past⟩
    · rw [yesNo_of_one_lt h] at flag
      cases flag
    · rw [h] at decoded
      cases decoded
    · exact .inl h
    · exact .inr (.inl h)
    · obtain rfl : es = es' := Option.some.inj (decoded.symm.trans decoded')
      exact .inr (.inr ((pastDates_iff es s).2 ⟨c, now, past⟩))
  · rfl

/-! ### SUN_WRITE (R42) -/

theorem writeSun_get (es : List SunEntry) : ∀ (i : Nat) (v : Vector SunEntry 366) (j : Nat) (h : j < 366),
    some (writeSun i es v)[j] = if i ≤ j ∧ j < i + es.length then es[j - i]? else some v[j] := by
  induction es with
  | nil =>
    intro i v j h
    rw [if_neg (by rw [List.length_nil]; omega)]
    rfl
  | cons e es ih =>
    intro i v j h
    unfold writeSun
    rw [ih, List.length_cons]
    by_cases first : i = j
    · subst first
      rw [if_neg (by omega), if_pos (by omega), Nat.sub_self]
      simp [h]
    · by_cases later : i + 1 ≤ j ∧ j < i + 1 + es.length
      · have place : j - i = (j - (i + 1)) + 1 := by omega
        rw [if_pos later, if_pos (by omega), place]
        rfl
      · rw [if_neg later, if_neg (by omega)]
        split
        · rw [Vector.getElem_set_ne _ _ first]
        · rfl

theorem sunEntriesOf_length {entries : List SunPair} : ∀ {es : List SunEntry}, sunEntriesOf entries = some es →
    es.length = entries.length := by
  induction entries with
  | nil =>
    rintro es decoded
    cases decoded
    rfl
  | cons e rest ih =>
    intro es decoded
    unfold sunEntriesOf at decoded
    split at decoded
    next r t xs rise set others =>
      cases decoded
      rw [List.length_cons, List.length_cons, ih others]
    · cases decoded

theorem actSunWrite_good {first : Nat} {entries : List SunPair} {es : List SunEntry} (decoded : sunEntriesOf entries = some es)
    (from1 : 1 ≤ first) (some' : entries ≠ []) (few : entries.length ≤ 60) (room : first + entries.length ≤ 367) :
    actSunWrite revision first entries s =
      if revision = 255 ∨ revision = s.sun.revision then accept (be1 (nextRevision s.sun.revision))
        { s with sun := { entries := writeSun (first - 1) es s.sun.entries, revision := nextRevision s.sun.revision } }
      else refuseStale s.sun.revision s := by
  have range : ¬(first < 1 ∨ entries = [] ∨ 60 < entries.length ∨ 366 < first + entries.length - 1) := by
    rintro (h | h | h | h)
    · omega
    · exact some' h
    · omega
    · omega
  rw [actSunWrite, decoded]
  dsimp only
  rw [if_neg range]
  by_cases fresh : revision = 255 ∨ revision = s.sun.revision
  · rw [if_pos fresh, (revisionOk_iff _ _).2 fresh]
    rfl
  · rw [if_neg fresh, if_pos]
    rw [Bool.not_eq_true', Bool.eq_false_iff]
    exact fun ok => fresh ((revisionOk_iff _ _).1 ok)

theorem actSunWrite_range {first : Nat} {entries : List SunPair} (bad : sunEntriesOf entries = none ∨ first = 0 ∨
    entries = [] ∨ 60 < entries.length ∨ 367 < first + entries.length) :
    actSunWrite revision first entries s = refuse .range s := by
  unfold actSunWrite
  split
  · rfl
  next es decoded =>
    refine if_pos ?_
    rcases bad with h | h | h | h | h
    · rw [h] at decoded
      cases decoded
    · exact .inl (by omega)
    · exact .inr (.inl h)
    · exact .inr (.inr (.inl h))
    · exact .inr (.inr (.inr (by omega)))

/-! ### A change of civil date (R39, R148) -/

/-- The list as a civil date leaves it. -/
abbrev prunedAt (day : Nat) (s : State) : DayList :=
  { s.days with entries := dateOrder day (s.days.entries.filter (fun e => !dayBefore e.date day)) }

theorem dateChange_moved {o c : Label} (becameValid : Bool) (now : s.civilNow = some c) (moved : o.day ≠ c.day) :
    (dateChange (some o) becameValid s).days = prunedAt c.day s ∧
      (dateChange (some o) becameValid s).cal.yesterday = some { date := o.day, cls := s.classOf o.day } := by
  have changes : dateChange (some o) becameValid s = pruneDays c.day (takeYesterday o.day s) := by
    simp only [dateChange, now]
    exact if_pos moved
  rw [changes]
  exact ⟨rfl, rfl⟩

theorem dateChange_same {o c : Label} (becameValid : Bool) (now : s.civilNow = some c) (same : o.day = c.day) :
    (becameValid = false → (dateChange (some o) becameValid s).days = s.days) ∧
      (dateChange (some o) becameValid s).cal.yesterday = s.cal.yesterday := by
  have changes : dateChange (some o) becameValid s = if becameValid then pruneDays c.day s else s := by
    simp only [dateChange, now]
    exact if_neg (not_not.2 same)
  rw [changes]
  cases becameValid
  · exact ⟨fun _ => rfl, rfl⟩
  · exact ⟨fun none => (nomatch none), rfl⟩

theorem dateChange_first {c : Label} (becameValid : Bool) (now : s.civilNow = some c) :
    (dateChange none becameValid s).days = prunedAt c.day s ∧
      (dateChange none becameValid s).cal.yesterday = s.cal.yesterday := by
  simp only [dateChange, now]
  exact ⟨rfl, rfl⟩

theorem tailOf_dates (old : Option Label) (delta : Option Int) (applied : Bool) (s : State) :
    let changed := dateChange old (s.tb.label.isSome && !s.tb.validAtBoundary) s
    (tailOf old delta applied s).days = changed.days ∧ (tailOf old delta applied s).cal.yesterday = changed.cal.yesterday := by
  unfold tailOf
  dsimp only
  split
  · rw [(blocksBoundary_frame _ _ _ _ _).days, (CalendarKept.blocksBoundary ..).tables.yesterday]
    exact ⟨rfl, rfl⟩
  · exact ⟨rfl, rfl⟩

theorem tailOf_civilNow (old : Option Label) (delta : Option Int) (applied : Bool) (s : State) :
    (tailOf old delta applied s).civilNow = s.civilNow := by
  refine civilNow_congr ?_ (tailOf_civil old delta applied s)
  unfold tailOf
  dsimp only
  split
  · rw [(blocksBoundary_frame _ _ _ _ _).tb, dated_tb]
  · rw [dated_tb]

/-- The second that begins, with the offset change it applies. -/
def offsetTaken (s : State) : State := if changeDue (steppedOn s) then applyOffset (steppedOn s) else steppedOn s

theorem boundary_offsetTaken (s : State) : boundary s = tailOf s.civilNow
    (stepDelta (s.tb.label.map Label.advance) (begun s).tb.label) (changeDue (steppedOn s)) (offsetTaken s) := by
  rw [boundary_eq, newSecondTail_tailOf]
  rfl

theorem offsetTaken_frame (s : State) : Frame [.tb, .civil, .notices, .ports] s (offsetTaken s) := by
  have stepped : Frame [.tb, .civil, .notices, .ports] s (steppedOn s) :=
    Frame.after (steppedOn_frame s) ((begun_frame s).mono (by decide)) (by decide)
  unfold offsetTaken
  split
  · exact Frame.after (applyOffset_frame _) stepped (by decide)
  · exact stepped

theorem offsetTaken_sundayClass (s : State) : (offsetTaken s).civil.sundayClass = s.civil.sundayClass := by
  have stepped : (steppedOn s).civil = s.civil := (steppedOn_frame s).civil.trans (begun_frame s).civil
  unfold offsetTaken
  split
  · unfold applyOffset
    split
    · rw [stepped]
    · rw [post_civil, ← stepped]
  · rw [stepped]

theorem offsetTaken_classOf (s : State) (date : Nat) : (offsetTaken s).classOf date = s.classOf date := by
  rw [State.classOf, State.classOf, (offsetTaken_frame s).days, offsetTaken_sundayClass]

theorem offsetTaken_valid (s : State) : (offsetTaken s).tb.validAtBoundary = s.tb.validAtBoundary := by
  have begins : (begun s).tb.validAtBoundary = s.tb.validAtBoundary := by rw [begun, beginSecond_tb_eq]; rfl
  have stepped : (steppedOn s).tb.validAtBoundary = s.tb.validAtBoundary := by rw [(steppedOn_frame s).tb, begins]
  unfold offsetTaken
  split
  · rw [(applyOffset_frame _).tb, stepped]
  · exact stepped

theorem offsetTaken_pruned (day : Nat) (s : State) : prunedAt day (offsetTaken s) = prunedAt day s := by
  rw [prunedAt, (offsetTaken_frame s).days]

theorem relabel_dates (delta : Int) (l : Label) (s : State) :
    let changed := dateChange s.civilNow false (postStep (some delta) (s.setTb { s.tb with label := some l }))
    (relabel delta l s).days = changed.days ∧ (relabel delta l s).cal.yesterday = changed.cal.yesterday := by
  unfold relabel
  dsimp only
  generalize dateChange s.civilNow false (postStep (some delta) (s.setTb { s.tb with label := some l })) = u
  rw [(relabelWindows_frame _).days, (CalendarKept.relabelWindows _).tables.yesterday, (calendarCompare_frame _ _ _).days,
    (CalendarKept.calendarCompare ..).tables.yesterday, (quarterStep_frame _ _ _).days, (quarterStep_frame _ _ _).cal,
    (dialsFull_frame _).days, (dialsFull_frame _).cal]
  exact ⟨rfl, rfl⟩

/-- Settles O30, from the order of the list, the requests, and the change of date at a boundary and at a relabel. -/
theorem dayClassesAndSunTable : Obligations.DayClassesAndSunTable := by
  refine ⟨fun tag s revision replace pairs es free flag decoded some' few future fresh => ?written, applyPair_find,
    fun xs e => applyPair_nodup e, dateOrder_perm, fun a xs d0 half once => dateOrder_ascending a half once,
    fun a xs preceded => dateOrder_round fun x inside => (preceded x inside).2,
    fun tag s revision replace pairs free bad => answers free (actDayclassWrite_range bad) rfl,
    fun tag s revision replace pairs es free flag decoded some' few future bounded other => ?stale,
    fun p tag s revision first entries es ⟨free, permitted⟩ decoded from1 some' few room =>
      ⟨fun fresh => ?sun, fun bounded other => ?sunStale⟩,
    fun p tag s revision first entries ⟨free, permitted⟩ bad => answers free (actSunWrite_range bad),
    fun s t o c ran reached old now => ?boundary, fun s t c ran reached old now => ?first, fun s delta l o old => ?relabel⟩
  case written =>
    have good : PairsGood s replace pairs es := ⟨flag, decoded, some', few, future⟩
    intro list
    split
    next fits =>
      refine answers free ?_ rfl
      rw [actDayclassWrite_good good, if_pos fresh]
      exact if_pos fits
    next full =>
      refine answers free ?_ rfl
      rw [actDayclassWrite_good good, if_pos fresh]
      exact if_neg full
  case stale =>
    refine answers free ?_ rfl
    rw [actDayclassWrite_good ⟨flag, decoded, some', few, future⟩]
    exact if_neg (not_or.2 ⟨bounded, other⟩)
  case sun =>
    refine ⟨_, answers free ((actSunWrite_good decoded from1 some' few room).trans (if_pos fresh)), withSun_frame s _,
      rfl, fun i h => writeSun_get es _ _ i h⟩
  case sunStale =>
    exact answers free ((actSunWrite_good decoded from1 some' few room).trans (if_neg (not_or.2 ⟨bounded, other⟩)))
  case boundary =>
    obtain rfl : Machine.boundary s = t := Host.Outcome.next.inj ((exec_boundary reached).symm.trans ran)
    rw [boundary_offsetTaken, old] at now ⊢
    rw [tailOf_civilNow] at now
    obtain ⟨days, yesterday⟩ := tailOf_dates (some o) (stepDelta (s.tb.label.map Label.advance) (begun s).tb.label)
      (changeDue (steppedOn s)) (offsetTaken s)
    rw [days, yesterday, offsetTaken_valid]
    refine ⟨fun moved => ?_, fun same => ?_⟩
    · obtain ⟨list, record⟩ := dateChange_moved ((offsetTaken s).tb.label.isSome && !s.tb.validAtBoundary) now moved
      rw [list, record, offsetTaken_classOf, offsetTaken_pruned]
      exact ⟨rfl, rfl⟩
    · obtain ⟨list, stays⟩ := dateChange_same ((offsetTaken s).tb.label.isSome && !s.tb.validAtBoundary) now same
      rw [stays, (offsetTaken_frame s).cal]
      refine ⟨rfl, fun valid => ?_⟩
      rw [list (by rw [valid]; exact Bool.and_false _), (offsetTaken_frame s).days]
  case first =>
    obtain rfl : Machine.boundary s = t := Host.Outcome.next.inj ((exec_boundary reached).symm.trans ran)
    rw [boundary_offsetTaken, old] at now ⊢
    rw [tailOf_civilNow] at now
    obtain ⟨days, yesterday⟩ := tailOf_dates none (stepDelta (s.tb.label.map Label.advance) (begun s).tb.label)
      (changeDue (steppedOn s)) (offsetTaken s)
    rw [days, yesterday]
    obtain ⟨list, stays⟩ := dateChange_first ((offsetTaken s).tb.label.isSome && !(offsetTaken s).tb.validAtBoundary) now
    rw [list, stays, (offsetTaken_frame s).cal]
    exact ⟨rfl, offsetTaken_pruned c.day s⟩
  case relabel =>
    intro c t
    obtain ⟨days, yesterday⟩ := relabel_dates delta l s
    rw [old] at days yesterday
    have stepped : Frame [.tb, .notices, .ports] s (postStep (some delta) (s.setTb { s.tb with label := some l })) :=
      Frame.after (postStep_frame _ _) ((State.setTb_frame s _).mono (by decide)) (by decide)
    have now : (postStep (some delta) (s.setTb { s.tb with label := some l })).civilNow = some c := by
      rw [State.civilNow, (postStep_frame _ _).tb, stepped.civil]
      rfl
    have classes : (postStep (some delta) (s.setTb { s.tb with label := some l })).classOf o.day = s.classOf o.day := by
      rw [State.classOf, State.classOf, stepped.days, stepped.civil]
    rw [show t.days = _ from days, show t.cal.yesterday = _ from yesterday]
    refine ⟨fun moved => ?_, fun same => ?_⟩
    · obtain ⟨list, record⟩ := dateChange_moved false now moved
      rw [list, record, classes, prunedAt, stepped.days]
      exact ⟨rfl, rfl⟩
    · obtain ⟨list, stays⟩ := dateChange_same false now same
      rw [list rfl, stays, stepped.days, stepped.cal]
      exact ⟨rfl, rfl⟩

end Sys2Proof.Machine
end

section
/-! SUPPORT. The encoding of requests: every item is read back from the place it was written to (R204). -/

namespace Sys2Proof.Machine

set_option Elab.async false

variable {n : Nat} {z : Int} {bs : List Byte}

/-! ### The items -/

@[simp] theorem be1_length (n : Nat) : (be1 n).length = 1 := rfl
@[simp] theorem be2_length (n : Nat) : (be2 n).length = 2 := rfl
@[simp] theorem be3_length (n : Nat) : (be3 n).length = 3 := rfl
@[simp] theorem beS2_length (z : Int) : (beS2 z).length = 2 := rfl

theorem rd1_be1 (h : n < 256) : rd1 (be1 n ++ bs) 0 = n := by
  simp [rd1, be1, Nat.mod_eq_of_lt h]
theorem rd2_at (h : n < 65536) : rd2 (be2 n ++ bs) 0 = n := rd2_be2 (Nat.le_of_lt_succ h) bs
theorem rd3_at (h : n < 16777216) : rd3 (be3 n ++ bs) 0 = n := rd3_be3 (Nat.le_of_lt_succ h) bs
theorem rdS2_at (low : -32768 ≤ z) (high : z < 32768) : rdS2 (beS2 z ++ bs) 0 = z := by
  rw [rdS2, beS2, rd2_be2 (by omega), BitVec.ofNat_toNat, BitVec.setWidth_eq, BitVec.toInt_ofInt]
  exact Int.bmod_eq_of_le (by omega) (by omega)

theorem rd1_last (h : n < 256) : rd1 (be1 n) 0 = n := by
  rw [← List.append_nil (be1 n), rd1_be1 h]
theorem rd2_last (h : n < 65536) : rd2 (be2 n) 0 = n := by
  rw [← List.append_nil (be2 n), rd2_at h]
theorem rd3_last (h : n < 16777216) : rd3 (be3 n) 0 = n := by
  rw [← List.append_nil (be3 n), rd3_at h]

/-! ### Reading behind an item -/

@[simp] theorem rd1_behind1 (n i : Nat) (bs : List Byte) : rd1 (be1 n ++ bs) (i + 1) = rd1 bs i := rfl
@[simp] theorem rd1_behind2 (n i : Nat) (bs : List Byte) : rd1 (be2 n ++ bs) (i + 2) = rd1 bs i := rfl
@[simp] theorem rd1_behindS (z : Int) (i : Nat) (bs : List Byte) : rd1 (beS2 z ++ bs) (i + 2) = rd1 bs i := rfl
@[simp] theorem rd2_behind1 (n i : Nat) (bs : List Byte) : rd2 (be1 n ++ bs) (i + 1) = rd2 bs i := rfl
@[simp] theorem rd2_behind2 (n i : Nat) (bs : List Byte) : rd2 (be2 n ++ bs) (i + 2) = rd2 bs i := rfl
@[simp] theorem rd2_behindS (z : Int) (i : Nat) (bs : List Byte) : rd2 (beS2 z ++ bs) (i + 2) = rd2 bs i := rfl
@[simp] theorem rd3_behind2 (n i : Nat) (bs : List Byte) : rd3 (be2 n ++ bs) (i + 2) = rd3 bs i := rfl
@[simp] theorem rd3_behindS (z : Int) (i : Nat) (bs : List Byte) : rd3 (beS2 z ++ bs) (i + 2) = rd3 bs i := rfl
@[simp] theorem rdS2_behind2 (n i : Nat) (bs : List Byte) : rdS2 (be2 n ++ bs) (i + 2) = rdS2 bs i := rfl
@[simp] theorem rdS2_behind1 (n i : Nat) (bs : List Byte) : rdS2 (be1 n ++ bs) (i + 1) = rdS2 bs i := rfl

theorem rd1_header {h : List Byte} {k : Nat} (length : h.length = k) (i : Nat) : rd1 (h ++ bs) (k + i) = rd1 bs i := by
  rw [← length, ← rd1_drop, List.drop_left]

/-- The byte `j` of item `i` of a run of items of one width. -/
theorem rd1_flatMap {α : Type} {f : α → List Byte} {k : Nat} (width : ∀ x, (f x).length = k) (xs : List α) :
    ∀ {i j : Nat} (within : i < xs.length), j < k → rd1 (xs.flatMap f) (k * i + j) = rd1 (f xs[i]) j := by
  induction xs with
  | nil => exact fun within _ => absurd within (Nat.not_lt_zero _)
  | cons x xs ih =>
    intro i j within inside
    rw [List.flatMap_cons]
    cases i with
    | zero =>
      rw [Nat.mul_zero, Nat.zero_add]
      exact rd1_append (by rw [width]; exact inside)
    | succ i =>
      have place : k * (i + 1) + j = (f x).length + (k * i + j) := by
        rw [width, Nat.mul_succ]
        omega
      rw [place, ← rd1_drop, List.drop_left]
      exact ih (Nat.lt_of_succ_lt_succ within) inside

theorem flatMap_length {α : Type} {f : α → List Byte} {k : Nat} (width : ∀ x, (f x).length = k) (xs : List α) :
    (xs.flatMap f).length = k * xs.length := by
  induction xs with
  | nil => rfl
  | cons x xs ih =>
    rw [List.flatMap_cons, List.length_append, width, ih, List.length_cons, Nat.mul_succ]
    omega

/-- The byte `j` of item `i` behind a header. -/
theorem rd1_item {α : Type} {f : α → List Byte} {k m : Nat} {h : List Byte} (header : h.length = m)
    (width : ∀ x, (f x).length = k) {xs : List α} {i : Nat} (within : i < xs.length) (j : Nat) (inside : j < k) :
    rd1 (h ++ xs.flatMap f) (m + j + k * i) = rd1 (f xs[i]) j := by
  rw [Nat.add_assoc, rd1_header header, Nat.add_comm, rd1_flatMap width xs within inside]

theorem rd2_item {α : Type} {f : α → List Byte} {k m : Nat} {h : List Byte} (header : h.length = m)
    (width : ∀ x, (f x).length = k) {xs : List α} {i : Nat} (within : i < xs.length) (j : Nat) (inside : j + 1 < k) :
    rd2 (h ++ xs.flatMap f) (m + j + k * i) = rd2 (f xs[i]) j := by
  have next : m + j + k * i + 1 = m + (j + 1) + k * i := by omega
  rw [rd2, rd2, next, rd1_item header width within j (Nat.lt_of_succ_lt inside),
    rd1_item header width within (j + 1) inside]

/-- A list is read back by its count. -/
theorem map_range_eq {α : Type} {g : Nat → α} {xs : List α} (read : ∀ i (h : i < xs.length), g i = xs[i]) :
    (List.range xs.length).map g = xs := by
  refine List.ext_getElem (by simp) fun i h1 h2 => ?_
  rw [List.getElem_map, List.getElem_range, read i h2]

/-! ### The requests -/

theorem decode_of {r : Req} {p : Port} {tag : Byte} {i : Instr} (form : r.lengthOk bs = true)
    (fields : r.fields p tag bs = i) : r.decode p tag bs = some i := by
  rw [Req.decode, if_pos form, fields]

theorem ofCode_code (r : Req) : Req.ofCode r.code = some r := by cases r <;> rfl

/-- A well-formed request fits a frame and is read from its own payload. -/
def Carried (i : Instr) (r : Req) (p : Port) (tag : Byte) : Prop :=
  i.payload.length ≤ 248 ∧ r.decode p tag i.payload = some i

variable {p : Port} {tag : Byte}

/-- A pair of DAYCLASS_WRITE as it is sent. -/
def dateItem (d : DatePair) : List Byte := be2 d.year ++ (be1 d.month ++ (be1 d.day ++ be1 d.cls))

theorem dayclassWrite_carried {revision replace : Nat} {pairs : List DatePair} (hr : revision < 256) (hf : replace < 256)
    (few : pairs.length ≤ 49) (items : ∀ d ∈ pairs, d.year < 65536 ∧ d.month < 256 ∧ d.day < 256 ∧ d.cls < 256) :
    Carried (.dayclassWrite p tag revision replace pairs) .dayclassWrite p tag := by
  set header := be1 revision ++ (be1 replace ++ be1 pairs.length)
  have payload : (Instr.dayclassWrite p tag revision replace pairs).payload = header ++ pairs.flatMap dateItem := rfl
  have width (d : DatePair) : (dateItem d).length = 5 := rfl
  have length := flatMap_length width pairs
  have whole : (header ++ pairs.flatMap dateItem).length = 3 + 5 * pairs.length := by
    rw [List.length_append, length]
    rfl
  have count : rd1 (header ++ pairs.flatMap dateItem) 2 = pairs.length :=
    rd1_be1 (bs := pairs.flatMap dateItem) (by omega)
  have first : rd1 (header ++ pairs.flatMap dateItem) 0 = revision :=
    rd1_be1 (bs := be1 replace ++ (be1 pairs.length ++ pairs.flatMap dateItem)) hr
  have second : rd1 (header ++ pairs.flatMap dateItem) 1 = replace :=
    rd1_be1 (bs := be1 pairs.length ++ pairs.flatMap dateItem) hf
  rw [Carried, payload]
  refine ⟨by omega, decode_of ?_ ?_⟩
  · delta Req.lengthOk
    dsimp only
    rw [whole, count]
    simp
  · delta Req.fields
    dsimp only
    rw [count, first, second]
    refine congrArg (Instr.dayclassWrite p tag revision replace) (map_range_eq fun i within => ?_)
    obtain ⟨year, month, day, cls⟩ := items _ (List.getElem_mem within)
    rw [rd2_item (m := 3) rfl width within 0 (by decide), rd1_item (m := 3) rfl width within 2 (by decide),
      rd1_item (m := 3) rfl width within 3 (by decide), rd1_item (m := 3) rfl width within 4 (by decide)]
    simp only [dateItem, rd2_at, rd1_behind2, rd1_behind1, rd1_be1, rd1_last, year, month, day, cls]

/-- A pair of SUN_WRITE as it is sent. -/
def sunItem (e : SunPair) : List Byte := be2 e.rise ++ be2 e.set

theorem sunWrite_carried {revision first : Nat} {entries : List SunPair} (hr : revision < 256) (hf : first < 65536)
    (few : entries.length ≤ 61) (items : ∀ e ∈ entries, e.rise < 65536 ∧ e.set < 65536) :
    Carried (.sunWrite p tag revision first entries) .sunWrite p tag := by
  set header := be1 revision ++ (be2 first ++ be1 entries.length)
  have payload : (Instr.sunWrite p tag revision first entries).payload = header ++ entries.flatMap sunItem := rfl
  have width (e : SunPair) : (sunItem e).length = 4 := rfl
  have length := flatMap_length width entries
  have whole : (header ++ entries.flatMap sunItem).length = 4 + 4 * entries.length := by
    rw [List.length_append, length]
    rfl
  have count : rd1 (header ++ entries.flatMap sunItem) 3 = entries.length :=
    rd1_be1 (bs := entries.flatMap sunItem) (by omega)
  have head : rd1 (header ++ entries.flatMap sunItem) 0 = revision :=
    rd1_be1 (bs := be2 first ++ (be1 entries.length ++ entries.flatMap sunItem)) hr
  have place : rd2 (header ++ entries.flatMap sunItem) 1 = first :=
    rd2_at (bs := be1 entries.length ++ entries.flatMap sunItem) hf
  rw [Carried, payload]
  refine ⟨by omega, decode_of ?_ ?_⟩
  · delta Req.lengthOk
    dsimp only
    rw [whole, count]
    simp
  · delta Req.fields
    dsimp only
    rw [count, head, place]
    refine congrArg (Instr.sunWrite p tag revision first) (map_range_eq fun i within => ?_)
    obtain ⟨rise, set⟩ := items _ (List.getElem_mem within)
    rw [rd2_item (m := 4) rfl width within 0 (by decide), rd2_item (m := 4) rfl width within 2 (by decide)]
    simp only [sunItem, rd2_at, rd2_behind2, rd2_last, rise, set]

/-- A note of TUNE_WRITE as it is sent. -/
def noteItem (n : RawNote) : List Byte := be1 n.bell ++ be2 n.offset

theorem tuneWrite_carried {tune first : Nat} {notes : List RawNote} (ht : tune < 256) (hf : first < 256)
    (few : notes.length ≤ 81) (items : ∀ n ∈ notes, n.bell < 256 ∧ n.offset < 65536) :
    Carried (.tuneWrite p tag tune first notes) .tuneWrite p tag := by
  set header := be1 tune ++ (be1 first ++ be1 notes.length)
  have payload : (Instr.tuneWrite p tag tune first notes).payload = header ++ notes.flatMap noteItem := rfl
  have width (n : RawNote) : (noteItem n).length = 3 := rfl
  have length := flatMap_length width notes
  have whole : (header ++ notes.flatMap noteItem).length = 3 + 3 * notes.length := by
    rw [List.length_append, length]
    rfl
  have count : rd1 (header ++ notes.flatMap noteItem) 2 = notes.length :=
    rd1_be1 (bs := notes.flatMap noteItem) (by omega)
  have head : rd1 (header ++ notes.flatMap noteItem) 0 = tune :=
    rd1_be1 (bs := be1 first ++ (be1 notes.length ++ notes.flatMap noteItem)) ht
  have place : rd1 (header ++ notes.flatMap noteItem) 1 = first :=
    rd1_be1 (bs := be1 notes.length ++ notes.flatMap noteItem) hf
  rw [Carried, payload]
  refine ⟨by omega, decode_of ?_ ?_⟩
  · delta Req.lengthOk
    dsimp only
    rw [whole, count]
    simp
  · delta Req.fields
    dsimp only
    rw [count, head, place]
    refine congrArg (Instr.tuneWrite p tag tune first) (map_range_eq fun i within => ?_)
    obtain ⟨bell, offset⟩ := items _ (List.getElem_mem within)
    rw [rd1_item (m := 3) rfl width within 0 (by decide), rd2_item (m := 3) rfl width within 1 (by decide)]
    simp only [noteItem, rd1_be1, rd2_behind1, rd2_last, bell, offset]

/-- Settles O11: the three requests with a list by their counts, the others item by item. -/
theorem encodedRequestsDecodeToThemselves : Obligations.EncodedRequestsDecodeToThemselves := by
  intro i r p tag ok named
  suffices carried : Carried i r p tag from ⟨carried.1, ofCode_code r, carried.2⟩
  cases i
  case dayclassWrite revision replace pairs =>
    cases named
    simp only [Instr.wellFormed, WellFormed.datePair, Bool.and_eq_true, decide_eq_true_eq, List.all_eq_true, and_assoc] at ok
    obtain ⟨hr, hf, few, items⟩ := ok
    exact dayclassWrite_carried hr hf few items
  case sunWrite revision first entries =>
    cases named
    simp only [Instr.wellFormed, WellFormed.sunPair, Bool.and_eq_true, decide_eq_true_eq, List.all_eq_true, and_assoc] at ok
    obtain ⟨hr, hf, few, items⟩ := ok
    exact sunWrite_carried hr hf few items
  case tuneWrite tune first notes =>
    cases named
    simp only [Instr.wellFormed, WellFormed.rawNote, Bool.and_eq_true, decide_eq_true_eq, List.all_eq_true, and_assoc] at ok
    obtain ⟨ht, hf, few, items⟩ := ok
    exact tuneWrite_carried ht hf few items
  all_goals cases named
  all_goals
    simp only [Instr.wellFormed, WellFormed.bellArgs, WellFormed.dialArgs, WellFormed.planArgs, WellFormed.eventArgs,
      WellFormed.lightArgs, Bool.and_eq_true, decide_eq_true_eq, and_assoc] at ok
    delta Carried Instr.payload
    dsimp only
    refine ⟨by simp, decode_of ?_ ?_⟩
    · delta Req.lengthOk
      simp
    · delta Req.fields
      simp [rd1_be1, rd2_at, rdS2_at, rd1_last, rd2_last, rd3_last, ok]

end Sys2Proof.Machine
end

section
/-! SUPPORT. The bytes of a frame at a port (R189, R191, R192): hunting, the length, the rest, the check, and the
handing over. -/

namespace Sys2Proof.Machine

set_option Elab.async false

variable {s : State} {p : Port}

/-! ### One byte -/

theorem setRx_port (p : Port) (rx : List Byte) (s : State) :
    (s.setRx p rx).port p = { s.port p with rx := rx, lastByte := s.now } := State.setPort_port_self ..

theorem setRx_setRx (p : Port) (rx rx' : List Byte) (s : State) : (s.setRx p rx).setRx p rx' = s.setRx p rx' := by
  rw [State.setRx, setRx_port]
  exact State.setPort_setPort ..

/-- A frame whose last byte has just come shows no gap. -/
theorem frameGapTimeout_setRx (p : Port) (rx : List Byte) (s : State) :
    frameGapTimeout p (s.setRx p rx) = s.setRx p rx := by
  refine frameGapTimeout_none _ (.inr ?_)
  rw [setRx_port]
  exact Nat.le_add_right _ _

theorem portByte_hunt {b : Byte} (idle : (s.port p).rx = []) (other : b ≠ 0xA5#8) : portByte p b s = s := by
  unfold portByte
  rw [frameGapTimeout_none s (.inl idle)]
  dsimp only
  rw [if_pos idle]
  exact if_neg other

theorem portByte_start (idle : (s.port p).rx = []) : portByte p 0xA5#8 s = s.setRx p [0xA5#8] := by
  unfold portByte
  rw [frameGapTimeout_none s (.inl idle)]
  dsimp only
  rw [if_pos idle]
  rfl

/-- One byte without a gap before it. -/
theorem portByte_setRx (p : Port) (b : Byte) (rx : List Byte) (s : State) : portByte p b (s.setRx p rx) =
    if rx = [] then (if b = 0xA5#8 then s.setRx p [b] else s.setRx p rx)
    else if rx.length = 1 then
      if badLength b.toNat then discardFrame p (s.setRx p []) else s.setRx p (rx ++ [b])
    else if rx.length + 1 < rd1 rx 1 + 4 then s.setRx p (rx ++ [b])
    else completeFrame p (rx ++ [b]) (s.setRx p []) := by
  unfold portByte
  rw [frameGapTimeout_setRx]
  dsimp only
  rw [setRx_port]
  dsimp only
  rw [setRx_setRx, setRx_setRx, setRx_setRx]
  rfl

theorem portByte_length {n : Byte} (x : Byte) (s : State) (good : 2 ≤ n.toNat) (fits : n.toNat ≤ 250) :
    portByte p n (s.setRx p [x]) = s.setRx p [x, n] := by
  have length : badLength n.toNat = false := decide_eq_false (by omega)
  rw [portByte_setRx, if_neg (List.cons_ne_nil _ _), if_pos List.length_singleton, length]
  rfl

theorem portByte_collect {rx : List Byte} (b : Byte) (s : State) (long : 2 ≤ rx.length)
    (more : rx.length + 1 < rd1 rx 1 + 4) : portByte p b (s.setRx p rx) = s.setRx p (rx ++ [b]) := by
  have begun : rx ≠ [] := fun none => by rw [none] at long; exact absurd long (by decide)
  rw [portByte_setRx, if_neg begun, if_neg (by omega), if_pos more]

theorem portByte_last {rx : List Byte} (b : Byte) (s : State) (long : 2 ≤ rx.length)
    (full : rx.length + 1 = rd1 rx 1 + 4) :
    portByte p b (s.setRx p rx) = completeFrame p (rx ++ [b]) (s.setRx p []) := by
  have begun : rx ≠ [] := fun none => by rw [none] at long; exact absurd long (by decide)
  rw [portByte_setRx, if_neg begun, if_neg (by omega), if_neg (by omega)]

/-! ### The bytes of a frame -/

theorem frameComplete_cons (p : Port) (b : Byte) (bs : List Byte) (s : State) :
    frameComplete p (b :: bs) s = frameComplete p bs (portByte p b s) := rfl

theorem frameComplete_append (p : Port) (bs cs : List Byte) (s : State) :
    frameComplete p (bs ++ cs) s = frameComplete p cs (frameComplete p bs s) := List.foldl_append ..

theorem frameComplete_hunt {bs : List Byte} (idle : (s.port p).rx = []) (none : ∀ b ∈ bs, b ≠ 0xA5#8) :
    frameComplete p bs s = s := by
  induction bs with
  | nil => rfl
  | cons b bs ih =>
    rw [frameComplete_cons, portByte_hunt idle (none b List.mem_cons_self)]
    exact ih fun x inside => none x (List.mem_cons_of_mem b inside)

theorem frameComplete_collect (bs : List Byte) : ∀ {rx : List Byte} (s : State), 2 ≤ rx.length →
    rx.length + bs.length < rd1 rx 1 + 4 → frameComplete p bs (s.setRx p rx) = s.setRx p (rx ++ bs) := by
  induction bs with
  | nil =>
    intro rx s _ _
    rw [List.append_nil]
    rfl
  | cons b bs ih =>
    intro rx s long more
    rw [List.length_cons] at more
    rw [frameComplete_cons, portByte_collect b s long (by omega), ih, List.append_assoc]
    · rfl
    · rw [List.length_append]
      omega
    · rw [rd1_append (by omega), List.length_append, List.length_singleton]
      omega

/-- A frame of a good length comes to its check. -/
theorem frameComplete_whole {n : Byte} {xs : List Byte} (c1 c2 : Byte) (idle : (s.port p).rx = []) (good : 2 ≤ n.toNat)
    (fits : n.toNat ≤ 250) (length : xs.length = n.toNat) :
    frameComplete p (0xA5#8 :: n :: xs ++ [c1, c2]) s =
      completeFrame p (0xA5#8 :: n :: xs ++ [c1, c2]) (s.setRx p []) := by
  have split : 0xA5#8 :: n :: xs ++ [c1, c2] = 0xA5#8 :: n :: ((xs ++ [c1]) ++ [c2]) := by
    rw [List.append_assoc]
    rfl
  have announced : rd1 [0xA5#8, n] 1 = n.toNat := rfl
  have before : (xs ++ [c1]).length = n.toNat + 1 := by rw [List.length_append, length]; rfl
  have collects : frameComplete p (xs ++ [c1]) (s.setRx p [0xA5#8, n]) = s.setRx p ([0xA5#8, n] ++ (xs ++ [c1])) := by
    refine frameComplete_collect _ s (Nat.le_refl 2) ?_
    rw [announced, before]
    change 2 + _ < _
    omega
  have whole : ([0xA5#8, n] ++ (xs ++ [c1])).length = n.toNat + 3 := by
    rw [List.length_append, before]
    change 2 + _ = _
    omega
  rw [split, frameComplete_cons, portByte_start idle, frameComplete_cons, portByte_length _ s good fits,
    frameComplete_append, collects]
  refine (portByte_last c2 s ?_ ?_).trans rfl
  · omega
  · rw [rd1_append Nat.one_lt_two, announced, whole]

/-- The check of a frame (R189). -/
theorem completeFrame_eq {n : Byte} {xs : List Byte} (c1 c2 : Byte) (s : State) (good : 2 ≤ n.toNat)
    (length : xs.length = n.toNat) :
    completeFrame p (0xA5#8 :: n :: xs ++ [c1, c2]) s =
      if (crc16 (n :: xs)).toNat = c1.toNat * 256 + c2.toNat then
        handleFrame p (xs.getD 0 0) (xs.getD 1 0) (xs.drop 2) s
      else discardFrame p s := by
  have announced : rd1 (0xA5#8 :: n :: xs ++ [c1, c2]) 1 = n.toNat := rfl
  have body : ((0xA5#8 :: n :: xs ++ [c1, c2]).drop 1).take (n.toNat + 1) = n :: xs := by
    change (n :: (xs ++ [c1, c2])).take (n.toNat + 1) = _
    rw [List.take_succ_cons, ← length, List.take_left]
  have check : rd2 (0xA5#8 :: n :: xs ++ [c1, c2]) (n.toNat + 2) = c1.toNat * 256 + c2.toNat := by
    have high := rd1_header (bs := [c1, c2]) (h := 0xA5#8 :: n :: xs) (k := n.toNat + 2) (by simp [length]) 0
    have low := rd1_header (bs := [c1, c2]) (h := 0xA5#8 :: n :: xs) (k := n.toNat + 2) (by simp [length]) 1
    rw [rd2, ← Nat.add_zero (n.toNat + 2), high]
    rw [Nat.add_zero, low]
    rfl
  have item (i : Nat) (within : i < xs.length) : (0xA5#8 :: n :: xs ++ [c1, c2]).getD (i + 2) 0 = xs.getD i 0 := by
    rw [List.cons_append, List.cons_append, List.getD_cons_succ, List.getD_cons_succ, List.getD_append _ _ _ _ within]
  have rest : ((0xA5#8 :: n :: xs ++ [c1, c2]).drop 4).take (n.toNat - 2) = xs.drop 2 := by
    change ((xs ++ [c1, c2]).drop 2).take _ = _
    rw [List.drop_append_of_le_length (by omega), List.take_left']
    rw [List.length_drop, length]
  unfold completeFrame
  dsimp only
  rw [announced, body, check, item 0 (by omega), item 1 (by omega), rest]

/-- A frame as it is sent. -/
theorem frame_eq (tag code : Byte) (payload : List Byte) : ∃ c1 c2 : Byte, frame tag code payload =
      0xA5#8 :: BitVec.ofNat 8 (payload.length + 2) :: (tag :: code :: payload) ++ [c1, c2] ∧
    c1.toNat * 256 + c2.toNat = (crc16 (BitVec.ofNat 8 (payload.length + 2) :: (tag :: code :: payload))).toNat := by
  refine ⟨_, _, rfl, ?_⟩
  have small := (crc16 (BitVec.ofNat 8 (payload.length + 2) :: (tag :: code :: payload))).isLt
  simp only [be1, List.cons_append, List.nil_append, BitVec.toNat_ofNat]
  omega

/-- A frame with a good check is handed over (R189). -/
theorem frameComplete_handles (tag code : Byte) {payload : List Byte} (idle : (s.port p).rx = []) (fits : payload.length ≤ 248) :
    frameComplete p (frame tag code payload) s = handleFrame p tag code payload (s.setRx p []) := by
  obtain ⟨c1, c2, sent, check⟩ := frame_eq tag code payload
  have announced : (BitVec.ofNat 8 (payload.length + 2)).toNat = payload.length + 2 := by
    rw [BitVec.toNat_ofNat]
    omega
  have length : (tag :: code :: payload).length = (BitVec.ofNat 8 (payload.length + 2)).toNat := announced.symm
  rw [sent, frameComplete_whole c1 c2 idle (by omega) (by omega) length,
    completeFrame_eq c1 c2 _ (by omega) length, if_pos check.symm]
  rfl

theorem setRx_idle (idle : (s.port p).rx = []) : s.setRx p [] = s.setPort p { s.port p with lastByte := s.now } := by
  rw [State.setRx, ← idle]

/-! ### The handing over (R191, R192) -/

theorem handleFrame_free {code : Byte} (tag : Byte) (payload : List Byte) (free : PortFree p s) :
    handleFrame p tag code payload s =
      match Req.ofCode code with
      | none => answered p tag .malformed [] s
      | some r =>
        if !r.permits p then answered p tag .denied [] s
        else
          match r.decode p tag payload with
          | none => answered p tag .malformed [] s
          | some i => runRequest i s := by
  obtain ⟨held, sending, owed⟩ := free
  have idle : (s.port p).responding = false := by simp [LinkPort.responding, sending, owed]
  unfold handleFrame
  rw [if_neg (by rw [isHeld_iff]; exact not_not.2 held), idle]
  rfl

/-- A frame does what the request it spells does. -/
theorem handleFrame_request {i : Instr} {r : Req} {tag : Byte} (spelled : i.request = some (r, p, tag))
    (decodes : r.decode p tag i.payload = some i) (s : State) :
    handleFrame p tag r.code i.payload s = after i s := by
  obtain ⟨act, runs⟩ := after_request spelled
  by_cases held : s.warm.held = none
  · by_cases responding : (s.port p).responding = true
    · rw [runs, request_responding tag act held responding, handleFrame, if_neg (by rw [isHeld_iff]; exact not_not.2 held),
        if_pos responding]
    · have free : PortFree p s := by
        simp only [LinkPort.responding, Bool.or_eq_true, not_or, Bool.not_eq_true', Bool.not_eq_false,
          Option.not_isSome_iff_eq_none, List.isEmpty_iff] at responding
        exact ⟨held, responding.1, by simpa using responding.2⟩
      rw [handleFrame_free tag _ free, ofCode_code]
      dsimp only
      cases permitted : r.permits p with
      | false =>
        rw [runs, request_denied tag act free permitted]
        rfl
      | true =>
        rw [decodes]
        exact runRequest_eq_after spelled s
  · rw [runs, request_held tag act held, handleFrame, if_pos ((isHeld_iff s).2 held)]

/-- Settles O12: the frame comes to its check, is handed over, and decodes to its request. -/
theorem aFrameRunsTheRequestItCarries : Obligations.AFrameRunsTheRequestItCarries := by
  intro i r p tag s ok spelled idle
  obtain ⟨fits, -, decodes⟩ := encodedRequestsDecodeToThemselves i r p tag ok spelled
  refine ⟨_, exec_eq_next i _, congrArg Host.Outcome.next (?_ : frameComplete p (frame tag r.code i.payload) s = _)⟩
  rw [frameComplete_handles tag r.code idle fits, setRx_idle idle, handleFrame_request spelled decodes]

/-! ### Bad frames -/

theorem discardFrame_setRx (p : Port) (s : State) : discardFrame p (s.setRx p []) = s.setPort p { s.port p with
    rx := [], lastByte := s.now, discard := min 65535 ((s.port p).discard + 1) } := by
  rw [discardFrame, setRx_port]
  exact State.setPort_setPort ..

theorem frameGapTimeout_gap (begun : (s.port p).rx ≠ []) (gap : (s.port p).lastByte + 10 < s.now) :
    frameGapTimeout p s = s.setPort p { s.port p with rx := [], discard := min 65535 ((s.port p).discard + 1) } := by
  refine if_pos ?_
  rw [frameGap, Bool.and_eq_true]
  exact ⟨bne_iff_ne.2 begun, decide_eq_true gap⟩

theorem frameComplete_free (tag code : Byte) {payload : List Byte} (free : PortFree p s) (idle : (s.port p).rx = [])
    (fits : payload.length ≤ 248) : frameComplete p (frame tag code payload) s =
      match Req.ofCode code with
      | none => answered p tag .malformed [] (s.setPort p { s.port p with lastByte := s.now })
      | some r =>
        if !r.permits p then answered p tag .denied [] (s.setPort p { s.port p with lastByte := s.now })
        else
          match r.decode p tag payload with
          | none => answered p tag .malformed [] (s.setPort p { s.port p with lastByte := s.now })
          | some i => runRequest i (s.setPort p { s.port p with lastByte := s.now }) := by
  have still : PortFree p (s.setPort p { s.port p with lastByte := s.now }) := by
    obtain ⟨held, sending, owed⟩ := free
    exact ⟨held, by rw [State.setPort_port_self]; exact sending, by rw [State.setPort_port_self]; exact owed⟩
  rw [frameComplete_handles tag code idle fits, setRx_idle idle]
  exact handleFrame_free tag payload still

theorem frameLengthRejected_bad {n : Byte} (short : (s.port p).rx.length ≤ 1)
    (fresh : (s.port p).rx = [] ∨ s.now ≤ (s.port p).lastByte + 10) (bad : n.toNat < 2 ∨ 250 < n.toNat) :
    frameLengthRejected p n s = s.setPort p { s.port p with
      rx := [], lastByte := s.now, discard := min 65535 ((s.port p).discard + 1) } := by
  unfold frameLengthRejected
  rw [frameGapTimeout_none s fresh, ← discardFrame_setRx]
  refine if_pos ?_
  rw [Bool.and_eq_true]
  exact ⟨decide_eq_true bad, decide_eq_true short⟩

theorem frameLengthRejected_good {n : Byte} (fresh : (s.port p).rx = [] ∨ s.now ≤ (s.port p).lastByte + 10)
    (good : (2 ≤ n.toNat ∧ n.toNat ≤ 250) ∨ 2 ≤ (s.port p).rx.length) : frameLengthRejected p n s = s := by
  unfold frameLengthRejected
  rw [frameGapTimeout_none s fresh]
  refine if_neg fun bad => ?_
  rw [Bool.and_eq_true, badLength, decide_eq_true_iff, decide_eq_true_iff] at bad
  omega

/-- The byte that ends a gap belongs to the hunt. -/
theorem portByte_gap {t : State} (b : Byte) (drops : frameGapTimeout p s = t) (idle : frameGapTimeout p t = t) :
    portByte p b s = portByte p b t := by
  unfold portByte
  rw [drops, idle]

/-- Settles O13, from the bytes of a frame, its check and its handing over. -/
theorem badFramesAreRefusedOrDiscarded : Obligations.BadFramesAreRefusedOrDiscarded := by
  intro p s
  refine ⟨fun tag code payload free idle fits => ⟨?_, ?_, ?_⟩,
    fun bs idle none => congrArg Host.Outcome.next (frameComplete_hunt idle none),
    fun n xs c1 c2 idle good fits length wrong =>
      congrArg Host.Outcome.next (?wrong : frameComplete p (0xA5#8 :: n :: xs ++ [c1, c2]) s = _),
    fun n state bad => congrArg Host.Outcome.next (frameLengthRejected_bad ?short (state.imp id And.right) bad),
    fun n fresh good => congrArg Host.Outcome.next (frameLengthRejected_good fresh good),
    fun begun gap => ?gap, fun quiet => congrArg Host.Outcome.next (frameGapTimeout_none s quiet)⟩
  case wrong =>
    rw [frameComplete_whole c1 c2 idle good fits length, completeFrame_eq c1 c2 _ good length, if_neg (Ne.symm wrong),
      discardFrame_setRx, ← idle]
  case short => rcases state with none | ⟨one, -⟩ <;> simp [*]
  case gap =>
    have drops := frameGapTimeout_gap begun gap
    have idle : frameGapTimeout p (s.setPort p { s.port p with rx := [], discard := min 65535 ((s.port p).discard + 1) }) =
        s.setPort p { s.port p with rx := [], discard := min 65535 ((s.port p).discard + 1) } :=
      frameGapTimeout_none _ (.inl (by rw [State.setPort_port_self]))
    refine ⟨congrArg Host.Outcome.next drops, fun b bs => congrArg Host.Outcome.next (?_ : frameComplete p _ s = frameComplete p _ _),
      fun n => congrArg Host.Outcome.next (?_ : frameLengthRejected p n s = frameLengthRejected p n _)⟩
    · rw [frameComplete_cons, frameComplete_cons, portByte_gap b drops idle]
    · unfold frameLengthRejected
      rw [drops, idle]
  · intro unknown
    refine congrArg Host.Outcome.next ((frameComplete_free tag code free idle fits).trans ?_)
    rw [unknown]
  · intro r known denied
    refine congrArg Host.Outcome.next ((frameComplete_free tag code free idle fits).trans ?_)
    rw [known]
    exact if_pos (by rw [denied]; rfl)
  · intro r known permitted form
    have undecoded : r.decode p tag payload = none := if_neg (by rw [form]; decide)
    refine congrArg Host.Outcome.next ((frameComplete_free tag code free idle fits).trans ?_)
    rw [known]
    dsimp only
    rw [if_neg (by rw [permitted]; decide), undecoded]

end Sys2Proof.Machine
end

section
/-! SUPPORT. The dials: their decisions, their impulses and their requests (R46 to R51, R58 to R61). -/

namespace Sys2Proof.Machine

set_option Elab.async false

variable {s : State} {d : Fin 4}

/-! ### Decisions (R50, R51) -/

theorem deciding_iff (r : Dial) : r.deciding = true ↔ r.fitted = true ∧ (r.state = .run ∨ r.state = .advance ∨ r.state = .hold) := by
  simp only [Dial.deciding, Bool.and_eq_true, Bool.or_eq_true, beq_iff_eq, or_assoc]

theorem enterDial_same {st : DialState} (same : (s.dial d).state = st) : enterDial d st s = s := if_pos same

theorem enterDial_change {st : DialState} (other : (s.dial d).state ≠ st) : enterDial d st s =
    post .dialState (d.1 + 1) (pair (s.dial d).state.code st.code) (s.setDial d { s.dial d with state := st }) := if_neg other

theorem continuingDecision_eq {l : Label} (valid : s.tb.label = some l) : continuingDecision d s =
    enterDial d (continuingState (s.dial d) (dialTarget (civilOf s.civil.offset l))) s := by
  simp only [continuingDecision, target_of_label valid]

theorem continuingDecision_unset (unset : s.tb.label = none) : continuingDecision d s = s := by
  simp only [continuingDecision, target_of_unset unset]

theorem continuingDecision_hold {l : Label} (valid : s.tb.label = some l) (hold : (s.dial d).state = .hold) :
    continuingDecision d s =
      if dialDistance (dialTarget (civilOf s.civil.offset l)) (s.dial d).position = 0 then
        post .dialState (d.1 + 1) (pair (s.dial d).state.code DialState.run.code)
          (s.setDial d { s.dial d with state := .run })
      else s := by
  rw [continuingDecision_eq valid]
  simp only [continuingState, hold]
  split
  · rw [enterDial_change (by rw [hold]; decide), hold]
  · exact enterDial_same hold

theorem continuingDecision_advance {l : Label} (valid : s.tb.label = some l) (advance : (s.dial d).state = .advance) :
    continuingDecision d s =
      if dialDistance (dialTarget (civilOf s.civil.offset l)) (s.dial d).position ≤ 1 then
        post .dialState (d.1 + 1) (pair (s.dial d).state.code DialState.run.code)
          (s.setDial d { s.dial d with state := .run })
      else s := by
  rw [continuingDecision_eq valid]
  simp only [continuingState, advance]
  split
  · rw [enterDial_change (by rw [advance]; decide), advance]
  · exact enterDial_same advance

theorem continuingDecision_run {l : Label} (valid : s.tb.label = some l) (run : (s.dial d).state = .run) :
    continuingDecision d s = fullDecision d s := by
  rw [continuingDecision_eq valid, fullDecision_eq valid rfl]
  simp only [continuingState, run]

theorem endDecision_eq (d : Fin 4) (s : State) : endDecision d s =
    if (s.dial d).fitted = true ∧ ((s.dial d).state = .run ∨ (s.dial d).state = .advance ∨ (s.dial d).state = .hold) then
      (if (s.dial d).owed = .full then fullDecision d (s.setDial d { s.dial d with owed := .none })
       else continuingDecision d (s.setDial d { s.dial d with owed := .none }))
    else s.setDial d { s.dial d with owed := .none } := by
  unfold endDecision
  dsimp only
  by_cases deciding : (s.dial d).deciding = true
  · rw [if_neg (by rw [deciding]; decide), if_pos ((deciding_iff _).1 deciding)]
  · rw [if_pos (by simpa using deciding), if_neg (fun h => deciding ((deciding_iff _).2 h))]

theorem fullCause_eq (d : Fin 4) (s : State) : fullCause d s =
    if (s.dial d).fitted = true ∧ ((s.dial d).state = .run ∨ (s.dial d).state = .advance ∨ (s.dial d).state = .hold) then
      (if (s.dial d).flight = none then fullDecision d s else s.setDial d { s.dial d with owed := .full })
    else s := by
  unfold fullCause
  dsimp only
  by_cases deciding : (s.dial d).deciding = true
  · rw [if_neg (by rw [deciding]; decide), if_pos ((deciding_iff _).1 deciding)]
    cases (s.dial d).flight <;> rfl
  · rw [if_pos (by simpa using deciding), if_neg (fun h => deciding ((deciding_iff _).2 h))]

theorem continuingCause_eq (d : Fin 4) (s : State) : continuingCause d s =
    if (s.dial d).fitted = true ∧ ((s.dial d).state = .run ∨ (s.dial d).state = .advance ∨ (s.dial d).state = .hold) then
      (if (s.dial d).flight = none then continuingDecision d s
       else s.setDial d { s.dial d with owed := if (s.dial d).owed = .full then .full else .continuing })
    else s := by
  unfold continuingCause
  dsimp only
  by_cases deciding : (s.dial d).deciding = true
  · rw [if_neg (by rw [deciding]; decide), if_pos ((deciding_iff _).1 deciding)]
    cases (s.dial d).flight <;> rfl
  · rw [if_pos (by simpa using deciding), if_neg (fun h => deciding ((deciding_iff _).2 h))]

/-! ### The beginning of an impulse (R46) -/

theorem canStart_iff {l : Label} (valid : s.tb.label = some l) : canStart d s = true ↔
    (s.dial d).fitted = true ∧
    (((s.dial d).state = .run ∧ dialDistance (dialTarget (civilOf s.civil.offset l)) (s.dial d).position = 1) ∨
     ((s.dial d).state = .advance ∧ 2 ≤ dialDistance (dialTarget (civilOf s.civil.offset l)) (s.dial d).position)) ∧
    s.supply.state = .mains ∧ (s.dial d).flight = none ∧
    ∀ x, (s.dial d).lastStart = some x → x + (s.dial d).fast * 1000 ≤ s.now := by
  simp only [canStart, target_of_label valid]
  cases (s.dial d).lastStart with
  | none => simp [onMains_iff, and_assoc]
  | some x => simp [onMains_iff, and_assoc]

theorem canStart_unset (unset : s.tb.label = none) : canStart d s = false := by
  simp only [canStart, target_of_unset unset]

theorem dialImpulseStart_begins (free : s.warm.held = none) (starts : canStart d s = true) :
    dialImpulseStart d s = s.setDial d { s.dial d with
      flight := some { polarity := (s.dial d).polarity.opposite, start := s.now, width := (s.dial d).width,
                       superseded := false, confirmed := false, watched := (s.dial d).confirm,
                       startLevel := s.lines.dialConf[d] }
      lastStart := some s.now } :=
  if_neg (by rw [not_isHeld free, starts]; decide)

theorem dialImpulseStart_waits (h : s.warm.held ≠ none ∨ canStart d s = false) : dialImpulseStart d s = s := by
  refine if_pos ?_
  rcases h with held | waits
  · rw [isHeld_of_ne held, Bool.true_or]
  · rw [waits, Bool.not_false, Bool.or_true]

/-! ### The end of an impulse (R47, R48) -/

theorem judgeImpulse_eq (d : Fin 4) (i : Impulse) (s : State) : judgeImpulse d i s =
    if i.superseded = true then s.setDial d { s.dial d with flight := none }
    else if i.watched = false ∨ i.confirmed = true then s.setDial d { s.dial d with
      flight := none, position := ((s.dial d).position + 1) % 1440, polarity := i.polarity, misses := 0 }
    else
      let n := min 3 ((s.dial d).misses + 1)
      let missed := post .dialMiss (d.1 + 1) (dialMissDetail n (s.dial d).position)
        (s.setDial d { s.dial d with flight := none, misses := n })
      if n = 3 ∧ ((s.dial d).state = .run ∨ (s.dial d).state = .advance ∨ (s.dial d).state = .hold) then
        enterDial d .fault missed
      else missed := by
  unfold judgeImpulse
  dsimp only
  refine if_congr Iff.rfl rfl ?_
  refine if_congr (by simp) rfl ?_
  unfold dialMissed
  simp only [State.setDial_dial_self, State.setDial_setDial]

theorem dialImpulseEnd_due {i : Impulse} (free : s.warm.held = none) (flight : (s.dial d).flight = some i)
    (ends : i.start + i.width ≤ s.now) : dialImpulseEnd d s = endDecision d (judgeImpulse d i s) := by
  have past : (s.isHeld || decide (s.now < i.start + i.width)) = false := by
    rw [not_isHeld free, Bool.false_or]
    exact decide_eq_false (Nat.not_lt.2 ends)
  simp only [dialImpulseEnd, flight, past]
  rfl

theorem dialImpulseEnd_early (h : s.warm.held ≠ none ∨ (s.dial d).flight = none ∨
    ∃ i, (s.dial d).flight = some i ∧ s.now < i.start + i.width) : dialImpulseEnd d s = s := by
  unfold dialImpulseEnd
  split
  · rfl
  next i flight =>
    refine if_pos ?_
    rcases h with held | none | ⟨j, same, early⟩
    · rw [isHeld_of_ne held, Bool.true_or]
    · rw [flight] at none
      cases none
    · obtain rfl : i = j := Option.some.inj (flight.symm.trans same)
      rw [Bool.or_eq_true]
      exact .inr (decide_eq_true early)

/-- A dial of which one condition of R46 fails begins no impulse. -/
theorem dialImpulseStart_idle (fails : s.warm.held ≠ none ∨ s.tb.label = none ∨ (s.dial d).fitted = false ∨
    s.supply.state = .battery ∨ (s.dial d).flight ≠ none ∨ ((s.dial d).state ≠ .run ∧ (s.dial d).state ≠ .advance) ∨
    ∃ x, (s.dial d).lastStart = some x ∧ s.now < x + (s.dial d).fast * 1000) : dialImpulseStart d s = s := by
  refine dialImpulseStart_waits (fails.imp id fun fails => ?_)
  cases valid : s.tb.label with
  | none => exact canStart_unset valid
  | some l =>
    refine Bool.eq_false_iff.2 fun starts => ?_
    obtain ⟨fitted, state, mains, idle, waited⟩ := (canStart_iff valid).1 starts
    rcases fails with unset | unfitted | battery | flight | ⟨run, advance⟩ | ⟨x, last, early⟩
    · rw [valid] at unset
      cases unset
    · rw [fitted] at unfitted
      cases unfitted
    · rw [mains] at battery
      cases battery
    · exact flight idle
    · exact state.elim (fun h => run h.1) (fun h => advance h.1)
    · exact absurd (waited x last) (Nat.not_le.2 early)

theorem dialConfChange_eq (d : Fin 4) (closed : Bool) (s : State) :
    let moved := s.setLines { s.lines with dialConf := s.lines.dialConf.set d closed }
    dialConfChange d closed s = match (s.dial d).flight with
      | none => moved
      | some i => if i.watched = true ∧ closed ≠ i.startLevel then
          moved.setDial d { s.dial d with flight := some { i with confirmed := true } } else moved := by
  intro moved
  unfold dialConfChange
  change (match (s.dial d).flight with
    | none => moved
    | some i => if i.watched && closed != i.startLevel then
        moved.setDial d { s.dial d with flight := some { i with confirmed := true } } else moved) = _
  cases (s.dial d).flight with
  | none => rfl
  | some i => exact if_congr (by simp) rfl rfl

/-- Settles O34, from the conditions of R46, the judgement of an impulse and the decisions. -/
theorem theImpulsesOfADial : Obligations.TheImpulsesOfADial := by
  intro d s
  dsimp only
  refine ⟨fun l free valid fitted mains idle waited state => ⟨?begins, ?a, ?b⟩, fun waits => ?waits, fun l valid state => ?state,
    fun i free flight ends => ?ends, fun early => congrArg Host.Outcome.next (dialImpulseEnd_early early), endDecision_eq d s,
    fun l valid => ⟨continuingDecision_hold valid, continuingDecision_advance valid, continuingDecision_run valid⟩,
    continuingDecision_unset, fullCause_eq d s, continuingCause_eq d s, fun closed => ?confirm⟩
  case begins =>
    exact congrArg Host.Outcome.next (dialImpulseStart_begins free ((canStart_iff valid).2 ⟨fitted, state, mains, idle, waited⟩))
  case a =>
    rw [dialA_eq, State.setDial_dial_self]
    cases (s.dial d).polarity <;> rfl
  case b =>
    rw [dialB_eq, State.setDial_dial_self]
    cases (s.dial d).polarity <;> rfl
  case waits => exact congrArg Host.Outcome.next (dialImpulseStart_idle waits)
  case state =>
    refine congrArg Host.Outcome.next (dialImpulseStart_waits (.inr (Bool.eq_false_iff.2 fun starts => ?_)))
    obtain ⟨-, ⟨run, one⟩ | ⟨advance, many⟩, -⟩ := (canStart_iff valid).1 starts
    · rcases state with ⟨-, other⟩ | ⟨advance, -⟩
      · exact other one
      · rw [run] at advance
        cases advance
    · rcases state with ⟨run, -⟩ | ⟨-, few⟩
      · rw [run] at advance
        cases advance
      · exact absurd many (Nat.not_le.2 few)
  case ends =>
    refine congrArg Host.Outcome.next ((dialImpulseEnd_due free flight ends).trans ?_)
    rw [judgeImpulse_eq]
  case confirm => exact congrArg Host.Outcome.next (dialConfChange_eq d closed s)

/-! ### The requests of a dial (R58 to R61) -/

theorem polarityOf_code (pol : Polarity) : polarityOf pol.code = some pol := by cases pol <;> rfl

theorem owes_eq (r : Dial) : r.owes = (r.owed == .full) := rfl

/-- A dial made known at a position, its impulse in flight superseded (R58). -/
def placed (d : Fin 4) (position : Nat) (pol : Polarity) (s : State) : State :=
  let r := s.dial d
  let r' := { r with position := position, polarity := pol, misses := 0 }
  if r.state = .stopped then s.setDial d { r' with flight := r.flight.map (fun i => { i with superseded := true }) }
  else if r.flight ≠ none then
    s.setDial d { r' with owed := .full, flight := r.flight.map (fun i => { i with superseded := true }) }
  else fullDecision d (s.setDial d r')

theorem actDialSet_placed {position : Nat} (pol : Polarity) (low : position ≤ 1439) (fitted : (s.dial d).fitted = true) :
    actDialSet (d.1 + 1) position pol.code s = accept (be2 position ++ be1 pol.code ++
      be1 ((placed d position pol s).dial d).state.code ++ beFlag (((placed d position pol s).dial d).owed == .full))
      (placed d position pol s) := by
  have follows : (if (s.dial d).state = .stopped then s.setDial d { s.dial d with
        position := position, polarity := pol, misses := 0
        flight := (s.dial d).flight.map (fun i => { i with superseded := true }) }
      else if (s.dial d).flight.isSome then s.setDial d { s.dial d with
        position := position, polarity := pol, misses := 0, owed := .full
        flight := (s.dial d).flight.map (fun i => { i with superseded := true }) }
      else fullDecision d (s.setDial d { s.dial d with
        position := position, polarity := pol, misses := 0
        flight := (s.dial d).flight.map (fun i => { i with superseded := true }) })) = placed d position pol s := by
    refine if_congr Iff.rfl rfl ?_
    cases (s.dial d).flight <;> rfl
  rw [← follows]
  unfold actDialSet
  rw [named_succ, polarityOf_code]
  dsimp only
  rw [if_neg (Nat.not_lt.2 low), if_neg (by rw [fitted]; decide)]
  rfl

theorem actDialSet_range {position : Nat} (polarity : Nat) (high : 1439 < position) :
    actDialSet (d.1 + 1) position polarity s = refuse .range s := by
  unfold actDialSet
  rw [named_succ]
  cases polarityOf polarity with
  | none => rfl
  | some pol => exact if_pos high

theorem actDialSet_unfitted {position : Nat} (pol : Polarity) (low : position ≤ 1439) (unfitted : (s.dial d).fitted = false) :
    actDialSet (d.1 + 1) position pol.code s = refuse .notFitted s := by
  unfold actDialSet
  rw [named_succ, polarityOf_code]
  dsimp only
  rw [if_neg (Nat.not_lt.2 low), if_pos (by rw [unfitted]; rfl)]

theorem actDialStop_eq (d : Fin 4) (s : State) : actDialStop (d.1 + 1) s =
    if (s.dial d).fitted = false then refuse .notFitted s
    else if (s.dial d).state = .unknown then refuse .state s
    else accept (be1 4 ++ be2 (s.dial d).position) (if (s.dial d).state = .stopped then s
      else post .dialState (d.1 + 1) (pair (s.dial d).state.code 4)
        (s.setDial d { s.dial d with state := .stopped, owed := .none })) := by
  have enters (other : (s.dial d).state ≠ .stopped) : enterDial d .stopped (s.setDial d { s.dial d with owed := .none }) =
      post .dialState (d.1 + 1) (pair (s.dial d).state.code 4)
        (s.setDial d { s.dial d with state := .stopped, owed := .none }) := by
    rw [enterDial_change (by rw [State.setDial_dial_self]; exact other), State.setDial_dial_self, State.setDial_setDial]
    rfl
  unfold actDialStop
  rw [named_succ]
  dsimp only
  refine if_congr (by simp) rfl (if_congr Iff.rfl rfl ?_)
  split
  · rfl
  next other =>
    rw [enters other]
    rfl

theorem actDialStart_eq (d : Fin 4) (s : State) : actDialStart (d.1 + 1) s =
    if (s.dial d).fitted = false then refuse .notFitted s
    else if (s.dial d).state = .unknown then refuse .state s
    else
      let t := if (s.dial d).flight = none then fullDecision d (s.setDial d { s.dial d with misses := 0 })
        else if (s.dial d).state = .stopped ∨ (s.dial d).state = .fault then
          enterDial d .hold (s.setDial d { s.dial d with misses := 0, owed := .full })
        else s.setDial d { s.dial d with misses := 0, owed := .full }
      accept (be1 (t.dial d).state.code ++ beFlag ((t.dial d).owed == .full)) t := by
  unfold actDialStart
  rw [named_succ]
  dsimp only
  refine if_congr (by simp) rfl (if_congr Iff.rfl rfl ?_)
  cases (s.dial d).flight <;> rfl

/-- A dial after DIAL_CONFIG (R61). -/
def configured (d : Fin 4) (a : DialArgs) (s : State) : State :=
  let r := s.dial d
  let width := clamp 200 2000 a.width
  let r' := { r with
    fitted := a.fitted == 1, confirm := a.confirm == 1, width := width, fast := fastFor width a.fast
    holdLimit := clamp 0 720 a.hold, revision := nextRevision r.revision
    misses := if r.confirm = (a.confirm == 1) then r.misses else 0 }
  if r.fitted = (a.fitted == 1) then s.setDial d r'
  else enterDial d .unknown (s.setDial d { r' with flight := none, owed := .none })

theorem actDialConfig_eq {a : DialArgs} (dial : a.dial = d.1 + 1) (fitted : a.fitted ≤ 1) (confirm : a.confirm ≤ 1) :
    actDialConfig a s = if a.revision = 255 ∨ a.revision = (s.dial d).revision then
      accept ((configured d a s).dial d).configBytes (configured d a s)
    else refuseStale (s.dial d).revision s := by
  unfold actDialConfig
  rw [dial, named_succ, yesNo_of_le fitted, yesNo_of_le confirm]
  dsimp only
  by_cases fresh : a.revision = 255 ∨ a.revision = (s.dial d).revision
  · rw [if_pos fresh, (revisionOk_iff _ _).2 fresh]
    rfl
  · rw [if_neg fresh, if_pos]
    rw [Bool.not_eq_true', Bool.eq_false_iff]
    exact fun ok => fresh ((revisionOk_iff _ _).1 ok)

/-- Settles O35, from what each request of a dial does. -/
theorem theRequestsOfADial : Obligations.TheRequestsOfADial := by
  intro d p tag s free r
  refine ⟨fun position pol role low fitted => answers free (actDialSet_placed pol low fitted) (permits_of_ne_l3 role),
    fun position pol role high => answers free (actDialSet_range pol high) (permits_of_ne_l3 role),
    fun role unfitted => ⟨fun position pol low => answers free (actDialSet_unfitted pol low unfitted) (permits_of_ne_l3 role),
      answers free ((actDialStop_eq d s).trans (if_pos unfitted)) (permits_of_ne_l3 role),
      answers free ((actDialStart_eq d s).trans (if_pos unfitted)) (permits_of_ne_l3 role)⟩,
    fun role fitted unknown => ?unknown, fun role fitted known => ?stop, fun role fitted known => ?start,
    fun a l1 dial yes confirm fresh => answers free ((actDialConfig_eq dial yes confirm).trans (if_pos fresh)) (l1 ▸ rfl),
    fun a l1 dial yes confirm bounded other =>
      answers free ((actDialConfig_eq dial yes confirm).trans (if_neg (not_or.2 ⟨bounded, other⟩))) (l1 ▸ rfl)⟩
  all_goals have fits : ¬(s.dial d).fitted = false := by rw [show (s.dial d).fitted = true from fitted]; decide
  case unknown =>
    exact ⟨answers free ((actDialStop_eq d s).trans ((if_neg fits).trans (if_pos unknown))) (permits_of_ne_l3 role),
      answers free ((actDialStart_eq d s).trans ((if_neg fits).trans (if_pos unknown))) (permits_of_ne_l3 role)⟩
  case stop =>
    exact answers free ((actDialStop_eq d s).trans ((if_neg fits).trans (if_neg known))) (permits_of_ne_l3 role)
  case start =>
    exact answers free ((actDialStart_eq d s).trans ((if_neg fits).trans (if_neg known))) (permits_of_ne_l3 role)

end Sys2Proof.Machine
end

section
/-! SUPPORT. The guards: their motion, their limit contacts and their faults (R70, R73 to R78, R80). -/

namespace Sys2Proof.Machine

set_option Elab.async false

variable {s : State} {b : Fin 16} {c : Contact}

/-! ### Motion (R73 to R76, R80) -/

theorem guardBegin_pulse (pulse : (s.bell b).pulseEnd ≠ none) : guardBegin b s =
    s.setGuard b { (s.bell b).guard with motion := .waitingPulse, deadline := none } :=
  if_pos (Option.isSome_iff_ne_none.2 pulse)

/-- Without a pulse in progress a guard waits for nothing but mains. -/
theorem guardBegin_idle (idle : (s.bell b).pulseEnd = none) : guardBegin b s =
    if s.supply.state = .battery then s.setGuard b { (s.bell b).guard with motion := .halted, deadline := none }
    else if (s.bell b).guard.atTarget = true then guardComplete b s
    else s.setGuard b { (s.bell b).guard with
      motion := .running, deadline := some (s.now + (s.bell b).config.travel * 1000) } := by
  unfold guardBegin
  dsimp only
  rw [if_neg (by rw [idle]; decide)]
  refine if_congr ?_ rfl rfl
  rw [Bool.not_eq_true', battery_of_not_onMains]

theorem guardEngage_unfitted (unfitted : (s.bell b).config.guardFitted = false) : guardEngage b s = s :=
  if_pos (by rw [unfitted]; rfl)

theorem guardEngage_sets (fitted : (s.bell b).config.guardFitted = true)
    (away : (s.bell b).guard.state = .disengaged ∨ (s.bell b).guard.state = .releasing) : guardEngage b s =
    guardBegin b (s.setGuard b { (s.bell b).guard with direction := .engage, state := .engaging }) := by
  unfold guardEngage
  dsimp only
  rw [if_neg (by rw [fitted]; decide)]
  rcases away with h | h <;> rw [h]

theorem guardEngage_keeps (fitted : (s.bell b).config.guardFitted = true)
    (there : (s.bell b).guard.state = .engaging ∨ (s.bell b).guard.state = .engaged ∨ (s.bell b).guard.state = .fault) :
    guardEngage b s = s.setGuard b { (s.bell b).guard with direction := .engage } := by
  unfold guardEngage
  dsimp only
  rw [if_neg (by rw [fitted]; decide)]
  rcases there with h | h | h <;> simp only [h]

theorem guardRelease_none (h : (s.bell b).config.guardFitted = false ∨ (s.bell b).holder ≠ .free) : guardRelease b s = s := by
  refine if_pos ?_
  rcases h with unfitted | held
  · rw [unfitted]
    rfl
  · rw [bne_iff_ne.2 held, Bool.or_true]

theorem guardRelease_free (fitted : (s.bell b).config.guardFitted = true) (free : (s.bell b).holder = .free) :
    guardRelease b s = if ((s.bell b).guard.state = .engaged ∨ (s.bell b).guard.state = .engaging) ∧ (s.swing b).state = .atRest then
      guardBegin b (s.setGuard b { (s.bell b).guard with direction := .release, state := .releasing })
    else s.setGuard b { (s.bell b).guard with direction := .release } := by
  unfold guardRelease
  dsimp only
  rw [if_neg (by rw [fitted, free]; decide)]
  cases (s.bell b).guard.state <;> simp

theorem guardComplete_eq (b : Fin 16) (s : State) {st : GuardState}
    (stop : st = if (s.bell b).guard.state = .engaging then .engaged else .disengaged) : guardComplete b s =
    tryStartOf b (post .guardReady (b.1 + 1) (pair 0 st.code)
      (s.setGuard b { (s.bell b).guard with state := st, motion := .idle, deadline := none })) := by
  subst stop
  rfl

/-! ### Contacts (R70, R76, R78) -/

theorem contact_setContact (g : Guard) (c : Contact) (l : ContactLevel) : (g.setContact c l).contact c = l := by
  cases c <;> rfl

theorem guardContactChange_same (b : Fin 16) (c : Contact) (s : State) : guardContactChange b c (s.contactLine b c) s = s :=
  if_pos rfl

/-- A contact's line moves, and its settling starts or ends unseen. -/
theorem guardContactChange_moves {closed : Bool} (moves : s.contactLine b c ≠ closed) : ∃ l : Lines,
    guardContactChange b c closed s = (s.setLines l).setGuard b ((s.bell b).guard.setContact c
      { (s.bell b).guard.contact c with
        since := if closed = ((s.bell b).guard.contact c).settled then none else some s.now }) ∧
    (s.setLines l).contactLine b c = closed := by
  refine ⟨_, if_neg moves, ?_⟩
  cases c <;> simp [State.contactLine]

theorem settleReached_some {l : ContactLevel} {x now : Instant} (since : l.since = some x) :
    settleReached l now = true ↔ x + 20 ≤ now := by
  rw [settleReached, since]
  exact decide_eq_true_iff

theorem settleReached_eq_false {l : ContactLevel} {now : Instant}
    (h : l.since = none ∨ ∃ x, l.since = some x ∧ now < x + 20) : settleReached l now = false := by
  rcases h with none | ⟨x, since, early⟩
  · rw [settleReached, none]
  · rw [Bool.eq_false_iff, Ne, settleReached_some since]
    exact Nat.not_le.2 early

theorem guardContactSettled_early (h : s.warm.held ≠ none ∨ ((s.bell b).guard.contact c).since = none ∨
    ∃ x, ((s.bell b).guard.contact c).since = some x ∧ s.now < x + 20) : guardContactSettled b c s = s := by
  refine if_pos ?_
  rcases h with held | early
  · rw [isHeld_of_ne held, Bool.true_or]
  · rw [settleReached_eq_false early, Bool.not_false, Bool.or_true]

theorem guardContactSettled_due {x : Instant} (free : s.warm.held = none)
    (since : ((s.bell b).guard.contact c).since = some x) (held : x + 20 ≤ s.now) : guardContactSettled b c s =
      contactTaken b c (s.contactLine b c)
        (s.setGuard b ((s.bell b).guard.setContact c { settled := s.contactLine b c, since := none })) := by
  refine if_neg ?_
  rw [not_isHeld free, (settleReached_some since).2 held]
  decide

/-- What a settled contact does, in the order of its cases. -/
theorem contactTaken_eq (b : Fin 16) (c : Contact) (level : Bool) (s : State) : contactTaken b c level s =
    if (s.bell b).config.guardFitted = false then s
    else if (s.bell b).guard.state = .engaged ∧ c = .engaged ∧ level = false then guardFault b .lostEngaged s
    else if (s.bell b).guard.state = .disengaged ∧ c = .disengaged ∧ level = false then guardFault b .lostDisengaged s
    else if (s.bell b).guard.motion = .running ∧ level = true ∧
      (((s.bell b).guard.state = .engaging ∧ c = .engaged) ∨ ((s.bell b).guard.state = .releasing ∧ c = .disengaged)) then
      guardComplete b s
    else s := by
  unfold contactTaken
  dsimp only
  refine if_congr (by simp) rfl ?_
  split
  next state => simp [state]
  next state => simp [state]
  next state => simp [state]
  next state => simp [state]
  next lostEngaged lostDisengaged engages releases =>
    rw [if_neg, if_neg, if_neg]
    · rintro ⟨-, closed, ⟨state, contact⟩ | ⟨state, contact⟩⟩
      · exact engages state contact closed
      · exact releases state contact closed
    · rintro ⟨state, contact, level⟩
      exact lostDisengaged state contact level
    · rintro ⟨state, contact, level⟩
      exact lostEngaged state contact level

theorem guardTravelTimeout_early (h : s.warm.held ≠ none ∨ (s.bell b).guard.motion ≠ .running ∨
    (s.bell b).guard.deadline = none ∨ ∃ x, (s.bell b).guard.deadline = some x ∧ s.now < x) :
    guardTravelTimeout b s = s := by
  refine if_pos ?_
  rcases h with held | other | early
  · rw [isHeld_of_ne held, Bool.true_or, Bool.true_or]
  · rw [bne_iff_ne.2 other, Bool.or_true, Bool.true_or]
  · rw [reached_eq_false early, Bool.not_false, Bool.or_true]

theorem guardTravelTimeout_due {x : Instant} (free : s.warm.held = none) (running : (s.bell b).guard.motion = .running)
    (deadline : (s.bell b).guard.deadline = some x) (due : x ≤ s.now) : guardTravelTimeout b s =
    guardFault b (if (s.bell b).guard.state = .engaging then .travelEngage else .travelRelease) s := by
  refine if_neg ?_
  rw [not_isHeld free, running, deadline, reached_some.2 due]
  decide

/-- Settles O37, from a guard's motion, its contacts and its deadline. -/
theorem howAGuardMoves : Obligations.HowAGuardMoves := by
  refine ⟨fun b s => ⟨guardBegin_pulse, fun idle battery => ?halts, fun idle mains there => ?completes,
      fun idle mains away => ?runs, fun st => guardComplete_eq b s, guardEngage_sets, guardEngage_keeps,
      fun fitted free rest state => ?releases, fun fitted free moving => ?waits, guardRelease_none, guardEngage_unfitted⟩,
    fun b c s => ⟨?same, fun closed moves => ?moves, fun early => congrArg Host.Outcome.next (guardContactSettled_early early),
      fun x free since held => ?settles, fun x free running deadline due =>
        congrArg Host.Outcome.next (guardTravelTimeout_due free running deadline due),
      fun early => congrArg Host.Outcome.next (guardTravelTimeout_early early)⟩⟩
  case halts => exact (guardBegin_idle idle).trans (if_pos battery)
  case completes => exact (guardBegin_idle idle).trans ((if_neg (by rw [mains]; decide)).trans (if_pos there))
  case runs =>
    exact (guardBegin_idle idle).trans ((if_neg (by rw [mains]; decide)).trans (if_neg (by rw [away]; decide)))
  case releases => exact (guardRelease_free fitted free).trans (if_pos ⟨state, rest⟩)
  case waits => exact (guardRelease_free fitted free).trans (if_neg fun h => moving h.2)
  case same =>
    rintro closed rfl
    exact congrArg Host.Outcome.next (guardContactChange_same b c s)
  case moves =>
    obtain ⟨l, changes, line⟩ := guardContactChange_moves moves
    refine ⟨_, congrArg Host.Outcome.next changes, line, ?_, ?_, ?_⟩
    · simp
    · intro b' other
      exact State.setBell_bell_ne _ other.symm _
    · exact Frame.after (State.setGuard_frame _ _ _) ((State.setLines_frame s l).mono (by decide)) (by decide)
  case settles =>
    have kept : ∀ l, ((s.setGuard b ((s.bell b).guard.setContact c l)).bell b).guard.state = (s.bell b).guard.state ∧
        ((s.setGuard b ((s.bell b).guard.setContact c l)).bell b).guard.motion = (s.bell b).guard.motion := fun l => by
      rw [State.setGuard_guard]
      exact setContact_motion _ _ _
    refine congrArg Host.Outcome.next ((guardContactSettled_due free since held).trans ((contactTaken_eq b c _ _).trans ?_))
    refine if_congr (by rw [State.setGuard_config]) rfl (if_congr (by rw [(kept _).1]) rfl (if_congr (by rw [(kept _).1]) rfl
      (if_congr (by rw [(kept _).1, (kept _).2]) rfl rfl)))

end Sys2Proof.Machine
end

section
/-! SUPPORT. Claims and releases of bells (R65 to R68). -/

namespace Sys2Proof.Machine

set_option Elab.async false

variable {s : State} {b b' : Fin 16} {h : Holder}

/-! ### Holders (R65) -/

theorem setHolder_holder (b : Fin 16) (h : Holder) (s : State) : ((setHolder b h s).bell b).holder = h := by
  by_cases kept : (s.bell b).holder = h
  · rw [setHolder, if_pos kept]
    exact kept
  · rw [setHolder_change s kept]
    split
    · rw [(guardRelease_frame _ b).holder b, changeHolder_holder]
    · split
      · rw [(guardEngage_frame _ b).holder b, changeHolder_holder]
      · exact changeHolder_holder ..

theorem setHolder_other (h : Holder) (s : State) (other : b' ≠ b) : ((setHolder b h s).bell b').holder = (s.bell b').holder := by
  by_cases kept : (s.bell b).holder = h
  · rw [setHolder, if_pos kept]
  · rw [setHolder_change s kept]
    split
    · rw [(guardRelease_frame _ b).holder b', changeHolder_other _ _ other]
    · split
      · rw [(guardEngage_frame _ b).holder b', changeHolder_other _ _ other]
      · rw [changeHolder_other _ _ other]

/-- A bell that leaves its session changes its own holder alone. -/
theorem leaveEarly_holder {n : Fin 4} (service : (s.bell b).holder = .service n) (b' : Fin 16) :
    ((leaveEarly b h s).bell b').holder = if b' = b then h else (s.bell b').holder := by
  rw [leaveEarly, service]
  refine ((afterLeaving_frame _ n).holder b').trans ?_
  rw [(post_frame _ _ _ _).holder b', (State.setSession_frame _ n _).holder b']
  split
  · subst b'
    exact setHolder_holder ..
  · rw [setHolder_other _ _ ‹_›, (motorOff_frame _ b).holder b']

/-! ### Decisions over a mask (R66 to R68) -/

/-- A decision on one bell gives it the holder a rule names, and leaves every other bell's alone. -/
def Decides (f : Fin 16 → State → State × Option Status) (rule : Bool → Holder → Holder) : Prop :=
  ∀ (b : Fin 16) (s : State) (b' : Fin 16), ((f b s).1.bell b').config = (s.bell b').config ∧
    ((f b s).1.bell b').holder =
      if b' = b then rule (s.bell b).config.guardFitted (s.bell b).holder else (s.bell b').holder

theorem decideBells_holder {f : Fin 16 → State → State × Option Status} {rule : Bool → Holder → Holder}
    (decides : Decides f rule) {bs : List (Fin 16)} (once : bs.Nodup) (s : State) (b : Fin 16) :
    ((decideBells f bs s).1.bell b).holder =
      if b ∈ bs then rule (s.bell b).config.guardFitted (s.bell b).holder else (s.bell b).holder := by
  induction bs generalizing s with
  | nil => rfl
  | cons x bs ih =>
    obtain ⟨fresh, once⟩ := List.nodup_cons.1 once
    obtain ⟨config, holder⟩ := decides x s b
    refine (ih once (f x s).1).trans ?_
    rw [config, holder]
    by_cases same : b = x
    · subst same
      rw [if_neg fresh, if_pos rfl, if_pos List.mem_cons_self]
    · rw [if_neg same]
      exact if_congr (List.mem_cons.trans (or_iff_right same)).symm rfl rfl

theorem mem_maskBells {mask : Nat} : b ∈ maskBells (BitVec.ofNat 16 mask) ↔ mask.testBit b.1 = true := by
  rw [maskBells, List.mem_filter, BitVec.getLsbD_ofNat, decide_eq_true b.isLt, Bool.true_and]
  exact and_iff_right (List.mem_finRange b)

theorem maskBells_nodup (m : BitVec 16) : (maskBells m).Nodup := (List.nodup_finRange 16).filter _

/-- The holder a CLAIM leaves (R66, R67): for ROPES where `ropes`, else for MAINT of the port. -/
def claimed (p : Port) (ropes fitted : Bool) : Holder → Holder
  | .free => if ropes then (if fitted then .ropes else .free) else .maint p
  | .service n => if ropes then .service n else .maint p
  | h => h

/-- The holder a RELEASE leaves (R68). -/
def released (p : Port) : Holder → Holder
  | .ropes => if p = .l2 then .free else .ropes
  | .maint q => if q = p then .free else .maint q
  | h => h

theorem setHolder_decides (b : Fin 16) (h : Holder) (s : State) (b' : Fin 16) :
    ((setHolder b h s).bell b').config = (s.bell b').config ∧
    ((setHolder b h s).bell b').holder = if b' = b then h else (s.bell b').holder := by
  refine ⟨(setHolder_frame s b h).config b', ?_⟩
  split
  · subst b'
    exact setHolder_holder ..
  · exact setHolder_other _ _ ‹_›

theorem keeps_decides (s : State) (b b' : Fin 16) (same : h = (s.bell b).holder) :
    (s.bell b').config = (s.bell b').config ∧ (s.bell b').holder = if b' = b then h else (s.bell b').holder := by
  refine ⟨rfl, ?_⟩
  split
  · subst b'
    exact same.symm
  · rfl

theorem claimBell_decides (p : Port) (ropes : Bool) : Decides (claimBell p ropes) (claimed p ropes) := by
  intro b s b'
  unfold claimBell
  dsimp only
  split
  next free =>
    rw [free]
    cases ropes
    · exact setHolder_decides b (.maint p) s b'
    · cases fitted : (s.bell b).config.guardFitted
      · exact keeps_decides s b b' free.symm
      · exact setHolder_decides b .ropes s b'
  next n service =>
    rw [service]
    cases ropes
    · exact ⟨(leaveEarly_frame s b (.maint p)).config b', leaveEarly_holder service b'⟩
    · exact keeps_decides s b b' service.symm
  next ropesHold =>
    rw [ropesHold]
    cases ropes <;> exact keeps_decides s b b' ropesHold.symm
  next q maint =>
    rw [maint]
    split <;> exact keeps_decides s b b' maint.symm

theorem releaseBell_decides (p : Port) : Decides (releaseBell p) fun _ => released p := by
  intro b s b'
  unfold releaseBell
  split
  next free => exact keeps_decides s b b' (by rw [free]; rfl)
  next n service => exact keeps_decides s b b' (by rw [service]; rfl)
  next ropes =>
    rw [ropes]
    split
    next l2 => exact (if_pos l2 : released p .ropes = .free) ▸ setHolder_decides b .free s b'
    next other => exact keeps_decides s b b' ((if_neg other : released p .ropes = .ropes).trans ropes.symm)
  next q maint =>
    rw [maint]
    split
    next own => exact (if_pos own : released p (.maint q) = .free) ▸ setHolder_decides b .free s b'
    next other => exact keeps_decides s b b' ((if_neg other : released p (.maint q) = .maint q).trans maint.symm)

/-! ### The requests -/

theorem actClaim_decides {p : Port} {kind mask : Nat} (kinds : kind ≤ 1) (ropes : kind = 0 → p ≠ .l1)
    (named : mask % 65536 ≠ 0) : actClaim p kind mask s =
    accept (bellsPayload (decideBells (claimBell p (kind == 0)) (maskBells (BitVec.ofNat 16 mask)) s).2 fun b =>
      be1 (((decideBells (claimBell p (kind == 0)) (maskBells (BitVec.ofNat 16 mask)) s).1).bell b).guard.state.code)
      (decideBells (claimBell p (kind == 0)) (maskBells (BitVec.ofNat 16 mask)) s).1 :=
  (if_neg fun h => ropes h.1 h.2).trans (if_neg (not_or.2 ⟨Nat.not_lt.2 kinds, named⟩))

/-- Settles O38, bell by bell of the mask. -/
theorem claimsAndReleases : Obligations.ClaimsAndReleases := by
  refine ⟨fun p tag kind mask s reaches kinds ropes named => ⟨answers reaches.1 (actClaim_decides kinds ropes named) reaches.2, fun b => ?claims⟩,
    fun p tag mask s reaches named => ⟨answers reaches.1 (if_neg named) reaches.2, fun b => ?releases⟩,
    fun tag mask s free => answers free rfl rfl, fun p tag mask s reaches none => answers reaches.1 (if_pos none) reaches.2,
    fun b h s changes => if_neg changes, fun b s => if_pos rfl⟩
  case claims =>
    refine (decideBells_holder (claimBell_decides p (kind == 0)) (maskBells_nodup _) s b).trans
      (if_congr mem_maskBells ?_ rfl)
    cases (s.bell b).holder <;> simp [claimed]
  case releases =>
    refine (decideBells_holder (releaseBell_decides p) (maskBells_nodup _) s b).trans (if_congr mem_maskBells ?_ rfl)
    cases (s.bell b).holder <;> rfl

end Sys2Proof.Machine
end

section
/-! SUPPORT. The configuration of a bell, the reading of its guard and the clearing of its faults (R72, R81 to R83, R93). -/

namespace Sys2Proof.Machine

set_option Elab.async false

variable {s : State} {b : Fin 16} {c : BellConfig}

/-! ### Writing a configuration (R81, R82, R94) -/

/-- A bell whose sensor is fitted no more forgets its pulses (R94). -/
def sensorTaken (b : Fin 16) (c : BellConfig) (s : State) : State :=
  if (s.bell b).config.sensor = true ∧ c.sensor = false then
    (s.setBell b { s.bell b with config := c }).setSwing b { s.swing b with history := [], lastPulse := none }
  else s.setBell b { s.bell b with config := c }

theorem sensorTaken_guard : ((sensorTaken b c s).bell b).guard = (s.bell b).guard := by
  unfold sensorTaken
  split <;> simp

theorem writeBell_eq (b : Fin 16) (c : BellConfig) (s : State) : writeBell b c s =
    if (s.bell b).config.guardFitted = true ∧ c.guardFitted = false then
      (sensorTaken b c s).setGuard b
        { (s.bell b).guard with state := .disengaged, direction := .release, motion := .idle, deadline := none }
    else if (s.bell b).config.guardFitted = false ∧ c.guardFitted = true then readGuard b (sensorTaken b c s)
    else sensorTaken b c s := by
  have taken : sensorTaken b c s = if (s.bell b).config.sensor && !c.sensor then
      (s.setBell b { s.bell b with config := c }).setSwing b
        { (s.setBell b { s.bell b with config := c }).swing b with history := [], lastPulse := none }
      else s.setBell b { s.bell b with config := c } := if_congr (by simp) (by simp) rfl
  rw [← sensorTaken_guard (s := s) (b := b) (c := c), taken]
  exact if_congr (by simp) rfl (if_congr (by simp) rfl rfl)

/-- A well-formed BELL_CONFIG of a known revision writes a bell that is free, at rest and not moving its guard. -/
theorem actBellConfig_eq {a : BellArgs} (bell : a.bell = b.1 + 1)
    (settings : bellSettings b a (s.bell b).config.revision = some c)
    (revision : a.revision = 255 ∨ a.revision = (s.bell b).config.revision) : actBellConfig a s =
    if (s.bell b).holder ≠ .free ∨ (s.swing b).state ≠ .atRest ∨ (s.bell b).guard.state = .engaging ∨
      (s.bell b).guard.state = .releasing then refuse .busy s
    else accept c.bytes (writeBell b c s) := by
  unfold actBellConfig
  rw [bell, named_succ]
  dsimp only
  rw [settings]
  exact if_neg (by rw [(revisionOk_iff _ _).2 revision]; decide)

/-- What a BELL_CONFIG asks for is clamped, and drives no bell without a sensor and a guard (R81). -/
theorem bellSettings_some {a : BellArgs} {revision : Nat} (settings : bellSettings b a revision = some c) :
    c.width = clamp 20 200 a.width ∧ c.recovery = clamp 150 3000 a.recovery ∧ c.travel = clamp 1 20 a.travel ∧
    c.period = clamp 100 400 a.period ∧ c.settle = clamp 4 30 a.settle ∧ c.revision = nextRevision revision ∧
    c.policy ≠ .substitute b ∧ (c.drive = true → c.sensor = true ∧ c.guardFitted = true) := by
  unfold bellSettings at settings
  split at settings
  next h g d w _ _ _ _ =>
    dsimp only at settings
    split at settings
    next => cases settings
    next pol policy =>
      split at settings
      next => cases settings
      next driven =>
        cases settings
        refine ⟨rfl, rfl, rfl, rfl, rfl, rfl, fun own => ?_, fun drive => ?_⟩
        · rw [show pol = .substitute b from own] at policy
          split at policy
          next => cases policy
          next =>
            split at policy
            next =>
              split at policy
              next =>
                split at policy
                next => cases policy
                next differs =>
                  cases policy
                  exact differs rfl
              next => cases policy
            next => cases policy
        · rw [show d = true from drive] at driven
          simpa using driven
  next => cases settings

/-! ### Reading a guard (R72) -/

/-- The guard of a bell as it is read, commanded by its holder. -/
def readAs (b : Fin 16) (st : GuardState) (s : State) : State :=
  s.setGuard b { (s.bell b).guard with
    state := st, direction := if (s.bell b).holder = .free then .release else .engage, motion := .idle, deadline := none }

theorem readGuard_engaged (atEng : (s.bell b).guard.atEng.settled = true) (atDis : (s.bell b).guard.atDis.settled = false) :
    readGuard b s = if (s.bell b).holder = .free then guardRelease b (readAs b .engaged s) else readAs b .engaged s := by
  have reads : readGuard b s = guardRelease b (readAs b .engaged s) := by
    unfold readGuard
    dsimp only
    rw [atEng, atDis]
    rfl
  refine reads.trans ?_
  split
  next => rfl
  next held => exact guardRelease_none (.inr (by rwa [readAs, State.setGuard_holder]))

theorem readGuard_disengaged (atEng : (s.bell b).guard.atEng.settled = false) (atDis : (s.bell b).guard.atDis.settled = true) :
    readGuard b s = if (s.bell b).holder = .free then readAs b .disengaged s else guardEngage b (readAs b .disengaged s) := by
  unfold readGuard
  dsimp only
  rw [atEng, atDis]
  rfl

theorem readGuard_alike (alike : (s.bell b).guard.atEng.settled = (s.bell b).guard.atDis.settled) :
    readGuard b s = post .guardFault (b.1 + 1) (guardFaultDetail .contactRead (s.bell b).guard) (readAs b .fault s) := by
  unfold readGuard
  dsimp only
  rw [alike]
  cases (s.bell b).guard.atDis.settled <;> rfl

/-! ### Clearing faults (R83, R93) -/

/-- A faulted swing settles. -/
def swingCleared (b : Fin 16) (s : State) : State :=
  if (s.swing b).state = .fault then s.setSwing b { s.swing b with
    state := .stopping, fault := .none
    settleDeadline := some (max s.now ((s.swing b).lastPulse.getD 0) + (s.bell b).config.settle * 1000) } else s

/-- A guard is faulted and fitted. -/
def guardFaulted (b : Fin 16) (s : State) : Bool := (s.bell b).guard.state == .fault && (s.bell b).config.guardFitted

/-- A faulted guard may set out: to engage, or to release a bell at rest. -/
def guardRetried (b : Fin 16) (s : State) : Bool :=
  guardFaulted b s && ((s.bell b).guard.direction == .engage || (s.swing b).state == .atRest)

/-- A retried guard sets out toward its commanded stop. -/
def guardCleared (b : Fin 16) (s : State) : State :=
  if guardRetried b s = true then
    guardBegin b (s.setGuard b { (s.bell b).guard with
      state := if (s.bell b).guard.direction = .engage then .engaging else .releasing })
  else s

theorem clearSwing_eq (b : Fin 16) (s : State) : clearSwing b s =
    (swingCleared b s, if (s.swing b).state = .fault then .cleared else .notFaulted) := by
  unfold clearSwing swingCleared
  dsimp only
  split <;> rfl

theorem clearGuard_eq (b : Fin 16) (s : State) : clearGuard b s =
    (guardCleared b s, if guardRetried b s = true then .cleared
      else if guardFaulted b s = true then .swingNotAtRest else .notFaulted) := by
  unfold clearGuard guardCleared guardRetried guardFaulted
  dsimp only
  by_cases fault : (s.bell b).guard.state = .fault
  · cases fitted : (s.bell b).config.guardFitted
    · simp [fault]
    · by_cases engages : (s.bell b).guard.direction = .engage
      · simp [fault, engages]
      · by_cases rest : (s.swing b).state = .atRest
        · simp [fault, engages, rest]
        · simp [fault, engages, rest]
  · simp [fault]

theorem swingCleared_bell (b b' : Fin 16) (s : State) : (swingCleared b s).bell b' = s.bell b' := by
  unfold swingCleared
  split <;> rfl

/-- A swing cleared of its fault is not at rest, and was not before. -/
theorem guardRetried_swingCleared (b : Fin 16) (s : State) : guardRetried b (swingCleared b s) = guardRetried b s := by
  have rest : ((swingCleared b s).swing b).state = .atRest ↔ (s.swing b).state = .atRest := by
    unfold swingCleared
    split
    next fault => simp [fault]
    next => rfl
  unfold guardRetried guardFaulted
  rw [swingCleared_bell, Bool.eq_iff_iff]
  simp [rest]

/-- The payload of BELL_FAULT_CLEAR (R83; log entry 19): both outcomes, and the states after where one was cleared. -/
def clearPayload (b : Fin 16) (s t : State) : List Byte :=
  be1 (if guardRetried b s = true then 0 else if guardFaulted b s = true then 1 else 2) ++
  be1 (if (s.swing b).state = .fault then 0 else 2) ++
  (if (s.swing b).state = .fault ∨ guardRetried b s = true then
    be1 (t.bell b).guard.state.code ++ be1 (t.swing b).state.code else [])

theorem actBellFaultClear_eq (b : Fin 16) (s : State) : actBellFaultClear (b.1 + 1) s =
    ⟨guardCleared b (swingCleared b s), if (s.swing b).state = .fault ∨ guardRetried b s = true then .ok else .state,
      clearPayload b s (guardCleared b (swingCleared b s))⟩ := by
  unfold actBellFaultClear
  rw [named_succ]
  dsimp only
  rw [clearSwing_eq, clearGuard_eq]
  dsimp only
  rw [guardRetried_swingCleared, show guardFaulted b (swingCleared b s) = guardFaulted b s by
    rw [guardFaulted, guardFaulted, swingCleared_bell]]
  unfold clearPayload
  by_cases fault : (s.swing b).state = .fault
  · by_cases retried : guardRetried b s = true
    · simp [fault, retried, accept, ClearOutcome.code]
    · by_cases faulted : guardFaulted b s = true
      · simp [fault, retried, faulted, accept, ClearOutcome.code]
      · simp [fault, retried, faulted, accept, ClearOutcome.code]
  · have kept : swingCleared b s = s := if_neg fault
    by_cases retried : guardRetried b s = true
    · simp [fault, retried, accept, ClearOutcome.code]
    · have still : guardCleared b s = s := if_neg retried
      rw [kept, still]
      by_cases faulted : guardFaulted b s = true
      · simp [fault, retried, faulted, refuseWith, ClearOutcome.code]
      · simp [fault, retried, faulted, refuseWith, ClearOutcome.code]

theorem faultsCleared_frame (b : Fin 16) (s : State) :
    Frame [.guards, .swings, .sessions, .notices, .ports] s (guardCleared b (swingCleared b s)) := by
  have swing : Frame [.swings] s (swingCleared b s) := by
    unfold swingCleared
    split
    · exact State.setSwing_frame s b _
    · exact Frame.refl _ s
  refine (swing.mono (by decide)).trans ?_
  unfold guardCleared
  split
  · exact ((State.setGuard_frame _ b _).mono (by decide)).trans ((guardBegin_frame _ b).mono (by decide))
  · exact Frame.refl _ _

/-- What BELL_FAULT_CLEAR leaves, written by the guard of the state before. -/
theorem faultsCleared_eq (b : Fin 16) (s : State) : guardCleared b (swingCleared b s) =
    if guardRetried b s = true then guardBegin b ((swingCleared b s).setGuard b { (s.bell b).guard with
      state := if (s.bell b).guard.direction = .engage then .engaging else .releasing }) else swingCleared b s := by
  rw [guardCleared, guardRetried_swingCleared, swingCleared_bell]

/-- Settles O39, from the writing of a configuration, the reading of a guard and the clearing of both faults. -/
theorem bellConfigurationAndFaults : Obligations.BellConfigurationAndFaults := by
  refine ⟨fun tag a s b c free bell settings revision holder rest engaging releasing => ?writes,
    fun b a revision c => bellSettings_some, fun tag a s b c free bell settings revision busy => ?busy,
    fun p tag s b reaches => ?clears, fun p tag n s reaches outside => ?outside,
    fun b s => ⟨readGuard_engaged, readGuard_disengaged, readGuard_alike⟩⟩
  case writes =>
    have idle : ¬ ((s.bell b).holder ≠ .free ∨ (s.swing b).state ≠ .atRest ∨ (s.bell b).guard.state = .engaging ∨
        (s.bell b).guard.state = .releasing) := by
      simp [holder, rest, engaging, releasing]
    exact answers free ((actBellConfig_eq bell settings revision).trans ((if_neg idle).trans
      (congrArg (accept c.bytes) (writeBell_eq b c s)))) rfl
  case busy =>
    refine answers free ((actBellConfig_eq bell settings revision).trans (if_pos ?_)) rfl
    exact busy.imp_right .inl
  case clears =>
    have acts := answers reaches.1 (actBellFaultClear_eq b s) reaches.2 (tag := tag)
    have frame := faultsCleared_frame b s
    rw [faultsCleared_eq] at acts frame
    exact ⟨acts, frame⟩
  case outside =>
    refine answers reaches.1 ?_ reaches.2
    unfold actBellFaultClear
    rw [named_none outside]
    rfl

end Sys2Proof.Machine
end

section
/-! SUPPORT. The swings: a sensor pulse and the ends of a swing (R86 to R93, R97). -/

namespace Sys2Proof.Machine

set_option Elab.async false

variable {s : State} {b : Fin 16}

/-! ### A sensor pulse (R87, R88, R90 to R92) -/

theorem sensorPulse_ignored (h : s.warm.held ≠ none ∨ (s.bell b).config.sensor = false ∨
    ∃ x, (s.swing b).lastPulse = some x ∧ s.now - x < 250) : sensorPulse b s = s := by
  unfold sensorPulse
  dsimp only
  split
  next => rfl
  next free =>
    obtain held | blind | ⟨x, last, bounce⟩ := h
    · exact absurd (by rw [isHeld_of_ne held, Bool.true_or]) free
    · exact absurd (by rw [blind]; exact Bool.or_true _) free
    · rw [last]
      exact if_pos bounce

/-- The history of a swing with a further interval: the last four. -/
def historyAfter (history : List Nat) : Option Nat → List Nat
  | none => history
  | some i => if 4 ≤ history.length then (history ++ [i]).drop 1 else history ++ [i]

/-- A swing whose pulse is read now. -/
def pulseRead (b : Fin 16) (interval : Option Nat) (s : State) : Swing :=
  { s.swing b with history := historyAfter (s.swing b).history interval, lastPulse := some s.now }

/-- A pulse that is read is taken with its interval recorded. -/
theorem sensorPulse_read {interval : Option Nat} (free : s.warm.held = none) (sensor : (s.bell b).config.sensor = true)
    (since : interval = (s.swing b).lastPulse.map fun x => s.now - x) (apart : ∀ i, interval = some i → 250 ≤ i) :
    sensorPulse b s = pulseTaken b interval (s.setSwing b (pulseRead b interval s)) := by
  unfold sensorPulse
  dsimp only
  rw [if_neg (by rw [not_isHeld free, sensor]; decide)]
  cases last : (s.swing b).lastPulse with
  | none =>
    rw [last] at since
    subst since
    rfl
  | some x =>
    rw [last] at since
    subst since
    refine (if_neg (Nat.not_lt.2 (apart _ rfl))).trans ?_
    unfold pulseRead historyAfter
    have longer : ∀ i, (4 < ((s.swing b).history ++ [i]).length) = (4 ≤ (s.swing b).history.length) := fun i => by
      rw [List.length_append, List.length_singleton, Nat.lt_succ_iff]
    simp only [gt_iff_lt, longer]
    rfl

theorem settleMs_setSwing (b : Fin 16) (w : Swing) : settleMs b (s.setSwing b w) = (s.bell b).config.settle * 1000 := rfl

/-- A starting bell's interval qualifies within a quarter of the nominal period (R90). -/
theorem qualifies_iff {i : Nat} : qualifies b i s = true ↔
    3 * ((s.bell b).config.period * 10) ≤ 4 * i ∧ 4 * i ≤ 5 * ((s.bell b).config.period * 10) := by
  rw [qualifies, Bool.and_eq_true, decide_eq_true_iff, decide_eq_true_iff]

/-! What a taken pulse does to a bell whose swing is `w`, its interval recorded. -/

theorem pulseTaken_atRest (interval : Option Nat) {w : Swing} (state : w.state = .atRest) :
    pulseTaken b interval (s.setSwing b w) =
      if (s.bell b).holder = .free then post .unexpectedMotion (b.1 + 1) (pair 0 (s.bell b).guard.state.code)
        (s.setSwing b { w with state := .drifting, settleDeadline := some (s.now + (s.bell b).config.settle * 1000) })
      else s.setSwing b { w with state := .drifting, settleDeadline := some (s.now + (s.bell b).config.settle * 1000) } := by
  unfold pulseTaken
  simp only [State.setSwing_swing_self, State.setSwing_setSwing, state]
  rfl

theorem pulseTaken_settling (interval : Option Nat) {w : Swing} (state : w.state = .drifting ∨ w.state = .stopping) :
    pulseTaken b interval (s.setSwing b w) =
      s.setSwing b { w with settleDeadline := some (s.now + (s.bell b).config.settle * 1000) } := by
  unfold pulseTaken
  rcases state with state | state <;>
  · simp only [State.setSwing_swing_self, State.setSwing_setSwing, state]
    rfl

theorem pulseTaken_keeps (interval : Option Nat) {w : Swing} (state : w.state = .swinging ∨ w.state = .fault) :
    pulseTaken b interval (s.setSwing b w) = s.setSwing b w := by
  unfold pulseTaken
  rcases state with state | state <;> simp only [State.setSwing_swing_self, state]

theorem pulseTaken_first {w : Swing} (state : w.state = .starting) :
    pulseTaken b none (s.setSwing b w) = s.setSwing b w := by
  unfold pulseTaken
  simp only [State.setSwing_swing_self, state]

/-- An interval of a starting bell counts, completes the count, or makes it begin again (R90). -/
theorem pulseTaken_starting (i : Nat) {w : Swing} (state : w.state = .starting) :
    pulseTaken b (some i) (s.setSwing b w) =
      if qualifies b i s = false then s.setSwing b { w with qualifying := 0 }
      else if 2 ≤ w.qualifying then post .bellSwinging (b.1 + 1) (BitVec.ofNat 16 (sat 65535 (w.period.getD 0)))
        (s.setSwing b { w with state := .swinging, qualifying := 0 })
      else s.setSwing b { w with qualifying := w.qualifying + 1 } := by
  unfold pulseTaken
  simp only [State.setSwing_swing_self, State.setSwing_setSwing, state]
  refine if_congr ?_ rfl (if_congr ?_ rfl rfl)
  · rw [Bool.not_eq_true']
    rfl
  · exact Nat.succ_le_succ_iff

theorem historyAfter_ne_nil (history : List Nat) (i : Nat) : historyAfter history (some i) ≠ [] := by
  refine List.ne_nil_of_length_pos ?_
  show 0 < (if 4 ≤ history.length then (history ++ [i]).drop 1 else history ++ [i]).length
  split
  · rw [List.length_drop, List.length_append, List.length_singleton]
    omega
  · rw [List.length_append, List.length_singleton]
    exact Nat.succ_pos _

/-- The period a starting bell reports (R86, R90). -/
theorem pulseRead_period (b : Fin 16) (i : Nat) (s : State) : sat 65535 ((pulseRead b (some i) s).period.getD 0) =
    min 65535 ((historyAfter (s.swing b).history (some i)).sum / (historyAfter (s.swing b).history (some i)).length) := by
  rw [Swing.period, if_neg (show (pulseRead b (some i) s).history ≠ [] from historyAfter_ne_nil _ i)]
  rfl

/-- Settles O40, by the state of the swing. -/
theorem aSensorPulse : Obligations.ASensorPulse := by
  refine fun b s => ⟨fun h => congrArg Host.Outcome.next (sensorPulse_ignored h), fun interval free sensor since apart => ?_⟩
  have read := sensorPulse_read free sensor since apart
  refine ⟨fun state => congrArg Host.Outcome.next (read.trans (pulseTaken_atRest interval state)),
    fun state => congrArg Host.Outcome.next (read.trans (pulseTaken_settling interval state)),
    fun state => congrArg Host.Outcome.next (read.trans (pulseTaken_keeps interval state)), fun state first => ?first,
    fun i state interval => ?starting⟩
  case first =>
    subst first
    exact congrArg Host.Outcome.next (read.trans (pulseTaken_first state))
  case starting =>
    subst interval
    have counts := read.trans (pulseTaken_starting i state)
    refine ⟨fun outside => congrArg Host.Outcome.next (counts.trans (if_pos ?_)), fun low high few =>
      congrArg Host.Outcome.next (counts.trans ((if_neg ?_).trans (if_neg (Nat.not_le.2 few)))), fun low high enough =>
      congrArg Host.Outcome.next (counts.trans ((if_neg ?_).trans ((if_pos enough).trans ?_)))⟩
    · rw [Bool.eq_false_iff, Ne, qualifies_iff]
      rintro ⟨low, high⟩
      exact outside.elim (Nat.not_lt.2 low) (Nat.not_lt.2 high)
    · rw [qualifies_iff.2 ⟨low, high⟩]
      decide
    · rw [qualifies_iff.2 ⟨low, high⟩]
      decide
    · rw [pulseRead_period]
      rfl

/-! ### The ends of a swing -/

/-- A bell comes to rest (R86, R88). -/
def rested (b : Fin 16) (left : SwingState) (s : State) : State :=
  post .bellAtRest (b.1 + 1) (pair 0 left.code)
    (s.setSwing b { s.swing b with state := .atRest, settleDeadline := none, history := [], lastPulse := none })

theorem driftSettled_other (state : (s.swing b).state ≠ .drifting) : driftSettled b s = s :=
  if_pos (by rw [bne_iff_ne.2 state, Bool.or_true, Bool.true_or])

theorem stopSettled_other (state : (s.swing b).state ≠ .stopping) : stopSettled b s = s :=
  if_pos (by rw [bne_iff_ne.2 state, Bool.or_true, Bool.true_or])

theorem startTimeout_other (state : (s.swing b).state ≠ .starting) : startTimeout b s = s :=
  if_pos (by rw [bne_iff_ne.2 state, Bool.or_true, Bool.true_or])

theorem swingLost_other (state : (s.swing b).state ≠ .swinging) : swingLost b s = s :=
  if_pos (by rw [bne_iff_ne.2 state, Bool.or_true, Bool.true_or])

/-- An event of a swing acts outside a warm reset, in its state and at its time. -/
theorem swing_waits {state st : SwingState} {deadline : Option Instant} {x : Instant} (free : s.warm.held = none)
    (same : state = st) (at_ : deadline = some x) :
    (s.isHeld || state != st || !reached deadline s.now) = true ↔ ¬ x ≤ s.now := by
  rw [not_isHeld free, same, at_, bne_self_eq_false, Bool.or_self, Bool.false_or, Bool.not_eq_true', Bool.eq_false_iff,
    Ne, reached_some]

theorem driftSettled_eq {x : Instant} (free : s.warm.held = none) (state : (s.swing b).state = .drifting)
    (deadline : (s.swing b).settleDeadline = some x) : driftSettled b s =
    if x ≤ s.now then tryStartOf b (guardRelease b (rested b .drifting s)) else s := by
  rw [← ite_not]
  exact if_congr (swing_waits free state deadline) rfl rfl

theorem startTimeout_eq {x : Instant} (free : s.warm.held = none) (state : (s.swing b).state = .starting)
    (motorOn : (s.swing b).motorOn = some x) : startTimeout b s =
    if x + 60000 ≤ s.now then swingFault b .startTimeout s else s := by
  rw [← ite_not]
  exact if_congr (swing_waits free state (by rw [motorOn]; rfl)) rfl rfl

theorem swingLost_eq {x : Instant} (free : s.warm.held = none) (state : (s.swing b).state = .swinging)
    (last : (s.swing b).lastPulse = some x) : swingLost b s =
    if x + 3 * ((s.bell b).config.period * 10) ≤ s.now then swingFault b .swingLost s else s := by
  rw [← ite_not]
  exact if_congr (swing_waits free state (by rw [lossDeadline, last]; rfl)) rfl rfl

theorem stopSettled_early {x : Instant} (free : s.warm.held = none) (state : (s.swing b).state = .stopping)
    (deadline : (s.swing b).settleDeadline = some x) (early : s.now < x) : stopSettled b s = s :=
  if_pos ((swing_waits free state deadline).2 (Nat.not_le.2 early))

/-- A stopping bell that settles: a SERVICE bell leaves its session or is tried for its start. -/
theorem stopSettled_due {x : Instant} (free : s.warm.held = none) (state : (s.swing b).state = .stopping)
    (deadline : (s.swing b).settleDeadline = some x) (due : x ≤ s.now) : stopSettled b s =
    match (s.bell b).holder with
    | .service n => if ((rested b .stopping s).session n).awaits b then tryStart n (rested b .stopping s)
      else leaveSettled n b (rested b .stopping s)
    | _ => guardRelease b (rested b .stopping s) := by
  refine (if_neg fun waits => (swing_waits free state deadline).1 waits due).trans ?_
  have kept : ((rested b .stopping s).bell b).holder = (s.bell b).holder := by
    rw [rested, post_bell]
    rfl
  rw [← kept] <;> rfl

theorem stopSettled_service {x : Instant} {n : Fin 4} (free : s.warm.held = none) (state : (s.swing b).state = .stopping)
    (deadline : (s.swing b).settleDeadline = some x) (due : x ≤ s.now) (service : (s.bell b).holder = .service n) :
    stopSettled b s = if (s.session n).phase = .startingBells ∧ b ∈ (s.session n).unstarted then
      tryStart n (rested b .stopping s) else leaveSettled n b (rested b .stopping s) := by
  rw [stopSettled_due free state deadline due, service]
  have kept : (rested b .stopping s).session n = s.session n := by
    rw [rested, post_session]
    rfl
  refine if_congr ?_ rfl rfl
  rw [kept, Session.awaits, Bool.and_eq_true, beq_iff_eq, List.contains_iff_mem]

theorem leaveSettled_eq {n : Fin 4} (service : (s.bell b).holder = .service n) : leaveSettled n b (rested b .stopping s) =
    guardRelease b (afterLeaving n ((post .claimChanged (b.1 + 1) (claimDetail (.service n) .free)
      ((rested b .stopping s).setBell b { s.bell b with holder := .free })).setSession n ((s.session n).without b))) := by
  have bell : (rested b .stopping s).bell b = s.bell b := by
    rw [rested, post_bell]
    rfl
  unfold leaveSettled changeHolder
  dsimp only
  rw [bell, service, post_session, State.setBell_session, rested, post_session, State.setSwing_session]

/-- Settles O41, by the event. -/
theorem howASwingEnds : Obligations.HowASwingEnds := by
  refine fun b s free => ⟨fun x state deadline => congrArg Host.Outcome.next (driftSettled_eq free state deadline),
    fun x state deadline due => ⟨fun n service => ?_, fun other => ?_⟩,
    fun x state deadline early => congrArg Host.Outcome.next (stopSettled_early free state deadline early),
    fun x state motorOn => congrArg Host.Outcome.next (startTimeout_eq free state motorOn),
    fun x state last => congrArg Host.Outcome.next (swingLost_eq free state last),
    fun state => congrArg Host.Outcome.next (driftSettled_other state),
    fun state => congrArg Host.Outcome.next (stopSettled_other state),
    fun state => congrArg Host.Outcome.next (startTimeout_other state),
    fun state => congrArg Host.Outcome.next (swingLost_other state)⟩
  · exact congrArg Host.Outcome.next ((stopSettled_service free state deadline due service).trans
      (if_congr Iff.rfl rfl (leaveSettled_eq service)))
  · refine congrArg Host.Outcome.next ((stopSettled_due free state deadline due).trans ?_)
    split
    next n service => exact absurd service (other n)
    next => rfl

end Sys2Proof.Machine
end

section
/-! SUPPORT. Ring sessions: their slots, the bells that leave them, their creation and their end (R96 to R106). -/

namespace Sys2Proof.Machine

set_option Elab.async false

variable {s t u : State} {b b' : Fin 16} {n m : Fin 4} {h : Holder}

/-! ### The release of a guard starts no bell (R74, R76) -/

theorem tryStartOf_other (other : ∀ n, (s.bell b).holder ≠ .service n) : tryStartOf b s = s := by
  unfold tryStartOf
  split
  next n service => exact absurd service (other n)
  next => rfl

theorem guardBegin_free (free : (s.bell b).holder = .free) : Frame [.guards, .notices, .ports] s (guardBegin b s) := by
  unfold guardBegin
  dsimp only
  split
  · exact (State.setGuard_frame s b _).mono (by decide)
  · split
    · exact (State.setGuard_frame s b _).mono (by decide)
    · split
      · rw [guardComplete_eq b s rfl, tryStartOf_other fun n => by
          rw [post_bell, State.setGuard_holder, free]
          nofun]
        exact ((State.setGuard_frame s b _).mono (by decide)).trans ((post_frame _ _ _ _).mono (by decide))
      · exact (State.setGuard_frame s b _).mono (by decide)

theorem guardRelease_quiet (b : Fin 16) (s : State) : Frame [.guards, .notices, .ports] s (guardRelease b s) := by
  by_cases acts : (s.bell b).config.guardFitted = false ∨ (s.bell b).holder ≠ .free
  · rw [guardRelease_none acts]
    exact Frame.refl _ s
  · obtain ⟨fitted, free⟩ := not_or.1 acts
    rw [guardRelease_free (Bool.eq_true_of_not_eq_false fitted) (not_not.1 free)]
    split
    · exact ((State.setGuard_frame s b _).mono (by decide)).trans
        (guardBegin_free (by rw [State.setGuard_holder]; exact not_not.1 free))
    · exact (State.setGuard_frame s b _).mono (by decide)

/-- A bell that becomes free, or passes from one holder to another, starts none. -/
theorem setHolder_quiet (b : Fin 16) (s : State) (quiet : h = .free ∨ (s.bell b).holder ≠ .free) :
    Frame [.holders, .guards, .notices, .ports] s (setHolder b h s) := by
  by_cases kept : (s.bell b).holder = h
  · rw [setHolder, if_pos kept]
    exact Frame.refl _ s
  · rw [setHolder_change s kept]
    have changes := changeHolder_frame s b h
    split
    next => exact (changes.mono (by decide)).trans ((guardRelease_quiet b _).mono (by decide))
    next taken =>
      rw [if_neg (quiet.resolve_left taken)]
      exact changes.mono (by decide)

/-! ### The start of a bell (R97) -/

theorem startable_some {x : Instant} (phase : (s.session n).phase = .startingBells) (slot : (s.session n).nextStart = some x)
    (due : x ≤ s.now) (mains : s.supply.state = .mains) (waiting : (s.session n).waiting = some b)
    (engaged : (s.bell b).guard.state = .engaged) (swing : (s.swing b).state = .atRest ∨ (s.swing b).state = .drifting) :
    startable n s = some b := by
  unfold startable
  dsimp only
  rw [if_pos ⟨phase, by rw [slot]; exact reached_some.2 due, onMains_iff.2 mains⟩, waiting]
  exact if_pos ⟨engaged, swing⟩

theorem startable_none (h : (s.session n).phase ≠ .startingBells ∨ (s.session n).nextStart = none ∨
    (∃ x, (s.session n).nextStart = some x ∧ s.now < x) ∨ s.supply.state = .battery ∨
    ∃ b, (s.session n).waiting = some b ∧ (s.bell b).guard.state ≠ .engaged) : startable n s = none := by
  unfold startable
  dsimp only
  split
  next due =>
    obtain ⟨phase, slot, mains⟩ := due
    obtain other | none | ⟨x, later, early⟩ | battery | ⟨b, waiting, away⟩ := h
    · exact absurd phase other
    · rw [none] at slot
      cases slot
    · rw [later] at slot
      exact absurd (reached_some.1 slot) (Nat.not_le.2 early)
    · rw [onMains_iff.1 mains] at battery
      cases battery
    · rw [waiting]
      exact if_neg fun engaged => away engaged.1
  next => rfl

theorem startBell_eq (phase : (s.session n).phase = .startingBells) : startBell n b s =
    (s.setSwing b { s.swing b with
      motor := true, motorOn := some s.now, qualifying := 0, state := .starting, settleDeadline := none }).setSession n
      (if ((s.session n).markStarted b).unstarted = [] then
        { (s.session n).markStarted b with phase := .ringing, nextStart := none }
      else { (s.session n).markStarted b with nextStart := some (s.now + (s.session n).stagger * 1000) }) := by
  unfold startBell Session.ringIfAllStarted
  dsimp only
  rw [State.setSwing_session]
  refine congrArg (State.setSession _ n) ?_
  by_cases all : ((s.session n).markStarted b).unstarted = []
  · rw [if_pos all]
    exact if_pos ⟨phase, all⟩
  · rw [if_neg all]
    exact if_neg fun ring => all ring.2

/-! ### The slots (R97, R98, R100) -/

theorem sessionStartSlot_free (free : s.warm.held = none) : sessionStartSlot n s = tryStart n s :=
  if_neg (by rw [not_isHeld free]; decide)

theorem tryStart_none (none : startable n s = none) : tryStart n s = s := by
  rw [tryStart, none]

theorem tryStart_some (start : startable n s = some b) : tryStart n s = startBell n b s := by
  rw [tryStart, start]

theorem running_iff {r : Session} : r.running = true ↔ r.phase = .startingBells ∨ r.phase = .ringing := by
  rw [Session.running, Bool.or_eq_true, beq_iff_eq, beq_iff_eq]

theorem sessionEndTime_due (free : s.warm.held = none)
    (running : (s.session n).phase = .startingBells ∨ (s.session n).phase = .ringing)
    (due : (s.session n).endTime ≤ s.now) : sessionEndTime n s = enterStopping n .endTime s := by
  refine if_neg ?_
  rw [not_isHeld free, running_iff.2 running, decide_eq_false (Nat.not_lt.2 due)]
  decide

theorem sessionEndTime_keeps (h : (s.session n).phase = .stoppingBells ∨ (s.session n).phase = .ended ∨
    s.now < (s.session n).endTime) : sessionEndTime n s = s := by
  refine if_pos ?_
  obtain stopping | ended | early := h
  · rw [Session.running, stopping]
    simp
  · rw [Session.running, ended]
    simp
  · rw [decide_eq_true early, Bool.or_true]

theorem sessionStopSlot_keeps (h : (s.session n).phase ≠ .stoppingBells ∨ (s.session n).nextStop = none ∨
    ∃ x, (s.session n).nextStop = some x ∧ s.now < x) : sessionStopSlot n s = s := by
  refine if_pos ?_
  obtain other | early := h
  · rw [bne_iff_ne.2 other, Bool.or_true, Bool.true_or]
  · rw [reached_eq_false early, Bool.not_false, Bool.or_true]

/-- At a stop slot the last bell with its motor on is stopped; the next slot stands while another motor is on. -/
theorem sessionStopSlot_due {x : Instant} (free : s.warm.held = none) (phase : (s.session n).phase = .stoppingBells)
    (slot : (s.session n).nextStop = some x) (due : x ≤ s.now) (last : lastRunning n s = some b) : sessionStopSlot n s =
    (motorOff b s).setSession n { s.session n with
      nextStop := if (s.session n).bells.all (fun y => !((motorOff b s).swing y.bell).motor) = true then none
        else some (s.now + (s.session n).stagger * 1000) } := by
  have kept : (motorOff b s).session n = s.session n := by
    rw [State.session, State.session, (motorOff_frame s b).sessions]
  unfold sessionStopSlot
  dsimp only
  rw [if_neg (by rw [not_isHeld free, phase, slot, reached_some.2 due]; decide), last]
  dsimp only
  rw [kept, (motorOff_frame s b).now]
  unfold settleStopSlot
  simp only [State.setSession_session_self, State.setSession_setSession, State.setSession_swing]
  by_cases off : (s.session n).bells.all (fun y => !((motorOff b s).swing y.bell).motor) = true
  · simp [phase, off]
  · simp [off]

/-! ### The end of a session (R101) -/

theorem endSession_eq (running : (s.session n).phase ≠ .ended) {cause : EndCause}
    (same : cause = if (s.session n).phase = .stoppingBells then (s.session n).endCause else .emptied) :
    endSession n s = post .sessionEnded (n.1 + 1) (pair 0 cause.code) (s.setSession n { s.session n with
      phase := .ended, nextStart := none, nextStop := none, endCause := cause }) := by
  have cause_eq : cause = if (s.session n).phase = .startingBells ∨ (s.session n).phase = .ringing then .emptied
      else (s.session n).endCause := by
    rw [same]
    cases phase : (s.session n).phase
    case ended => exact absurd phase running
    all_goals simp
  rw [cause_eq]
  rfl

theorem afterLeaving_empty (running : (s.session n).phase ≠ .ended) (empty : (s.session n).bells = []) :
    afterLeaving n s = endSession n s :=
  (if_neg running).trans (if_pos empty)

theorem motorOff_eq (b : Fin 16) (s : State) : motorOff b s = s.setSwing b (
    if (s.swing b).state = .starting ∨ (s.swing b).state = .swinging then { s.swing b with
      motor := false, motorOn := none, state := .stopping
      settleDeadline := some (max s.now ((s.swing b).lastPulse.getD 0) + (s.bell b).config.settle * 1000) }
    else { s.swing b with motor := false, motorOn := none }) :=
  (apply_ite (s.setSwing b) _ _ _).symm

/-! ### What goes on in a session touches its own members alone -/

/-- The bells of a session. -/
def State.members (s : State) (n : Fin 4) : List (Fin 16) := (s.session n).bells.map (·.bell)

/-- The members of session `n`, its departed and its terms stand, and so do every other session and every swing
but its members'. -/
structure SessionKept (n : Fin 4) (s t : State) : Prop where
  others : ∀ m, m ≠ n → t.session m = s.session m
  members : t.members n = s.members n
  departed : (t.session n).departed = (s.session n).departed
  swings : ∀ b, b ∉ s.members n → t.swing b = s.swing b
  stagger : (t.session n).stagger = (s.session n).stagger
  origin : (t.session n).origin = (s.session n).origin
  endTime : (t.session n).endTime = (s.session n).endTime
  leftOut : (t.session n).leftOut = (s.session n).leftOut

theorem SessionKept.refl (n : Fin 4) (s : State) : SessionKept n s s :=
  ⟨fun _ _ => rfl, rfl, rfl, fun _ _ => rfl, rfl, rfl, rfl, rfl⟩

theorem SessionKept.trans (h : SessionKept n s t) (k : SessionKept n t u) : SessionKept n s u where
  others m other := (k.others m other).trans (h.others m other)
  members := k.members.trans h.members
  departed := k.departed.trans h.departed
  swings b outside := (k.swings b (h.members ▸ outside)).trans (h.swings b outside)
  stagger := k.stagger.trans h.stagger
  origin := k.origin.trans h.origin
  endTime := k.endTime.trans h.endTime
  leftOut := k.leftOut.trans h.leftOut

/-- What leaves the sessions and the swings alone. -/
theorem SessionKept.of_eq (sessions : t.sessions = s.sessions) (swings : t.swings = s.swings) : SessionKept n s t := by
  have session : ∀ m, t.session m = s.session m := fun m => congrArg (fun v => v[m]) sessions
  refine ⟨fun m _ => session m, ?_, ?_, fun b _ => congrArg (fun v => v[b]) swings, ?_, ?_, ?_, ?_⟩
  · rw [State.members, State.members, session n]
  all_goals rw [session n]

/-- A record of the session written with the same members and terms. -/
theorem SessionKept.setSession {r : Session} (members : r.bells.map (·.bell) = s.members n)
    (departed : r.departed = (s.session n).departed := by rfl) (stagger : r.stagger = (s.session n).stagger := by rfl)
    (origin : r.origin = (s.session n).origin := by rfl) (endTime : r.endTime = (s.session n).endTime := by rfl)
    (leftOut : r.leftOut = (s.session n).leftOut := by rfl) : SessionKept n s (s.setSession n r) := by
  refine ⟨fun m other => State.setSession_session_ne s other.symm r, ?_, ?_, fun _ _ => rfl, ?_, ?_, ?_, ?_⟩
  · rw [State.members, State.setSession_session_self, members]
  all_goals rwa [State.setSession_session_self]

theorem Session.ringIfAllStarted_kept (r : Session) : r.ringIfAllStarted.bells = r.bells ∧
    r.ringIfAllStarted.departed = r.departed ∧ r.ringIfAllStarted.stagger = r.stagger ∧
    r.ringIfAllStarted.origin = r.origin ∧ r.ringIfAllStarted.endTime = r.endTime ∧
    r.ringIfAllStarted.leftOut = r.leftOut := by
  unfold Session.ringIfAllStarted
  split <;> exact ⟨rfl, rfl, rfl, rfl, rfl, rfl⟩

theorem Session.markStarted_members (r : Session) (b : Fin 16) :
    (r.markStarted b).bells.map (·.bell) = r.bells.map (·.bell) := by
  unfold Session.markStarted
  rw [List.map_map]
  refine List.map_congr_left fun x _ => ?_
  dsimp only [Function.comp]
  split <;> rfl

theorem waiting_mem {r : Session} (waiting : r.waiting = some b) : b ∈ r.bells.map (·.bell) := by
  unfold Session.waiting at waiting
  obtain ⟨x, found, rfl⟩ := Option.map_eq_some_iff.1 waiting
  exact List.mem_map.2 ⟨x, List.mem_of_find?_eq_some found, rfl⟩

theorem SessionKept.setSwing (member : b ∈ s.members n) (w : Swing) : SessionKept n s (s.setSwing b w) :=
  ⟨fun _ _ => rfl, rfl, rfl, fun _ outside =>
    State.setSwing_swing_ne s (ne_of_mem_of_not_mem member outside) w, rfl, rfl, rfl, rfl⟩

theorem ringIfAllStarted_sessionKept {r : Session} (members : r.bells.map (·.bell) = s.members n)
    (departed : r.departed = (s.session n).departed := by rfl) (stagger : r.stagger = (s.session n).stagger := by rfl)
    (origin : r.origin = (s.session n).origin := by rfl) (endTime : r.endTime = (s.session n).endTime := by rfl)
    (leftOut : r.leftOut = (s.session n).leftOut := by rfl) : SessionKept n s (s.setSession n r.ringIfAllStarted) := by
  obtain ⟨bells', departed', stagger', origin', endTime', leftOut'⟩ := r.ringIfAllStarted_kept
  exact .setSession (by rw [bells', members]) (departed'.trans departed) (stagger'.trans stagger) (origin'.trans origin)
    (endTime'.trans endTime) (leftOut'.trans leftOut)

theorem startable_mem (start : startable n s = some b) : b ∈ s.members n := by
  unfold startable at start
  dsimp only at start
  split at start
  next =>
    split at start
    next waits =>
      split at start
      next => cases start; exact waiting_mem waits
      next => cases start
    next => cases start
  next => cases start

theorem tryStart_kept (n : Fin 4) (s : State) : SessionKept n s (tryStart n s) := by
  cases start : startable n s with
  | none =>
    rw [tryStart_none start]
    exact SessionKept.refl n s
  | some b =>
    rw [tryStart_some start]
    exact (SessionKept.setSwing (startable_mem start) _).trans
      (ringIfAllStarted_sessionKept ((s.session n).markStarted_members b))

theorem settleStopSlot_kept (n : Fin 4) (s : State) : SessionKept n s (settleStopSlot n s) := by
  unfold settleStopSlot
  dsimp only
  split
  · exact .setSession rfl
  · exact .refl n s

theorem post_kept (k : NoticeKind) (i : Nat) (d : BitVec 16) (s : State) : SessionKept n s (post k i d s) :=
  .of_eq (post_frame _ _ _ _).sessions (post_frame _ _ _ _).swings

theorem endSession_kept (n : Fin 4) (s : State) : SessionKept n s (endSession n s) :=
  (SessionKept.setSession (s := s) (r := { s.session n with
    phase := .ended, nextStart := none, nextStop := none, endCause := _ }) rfl).trans (post_kept _ _ _ _)

theorem afterLeaving_kept (n : Fin 4) (s : State) : SessionKept n s (afterLeaving n s) := by
  unfold afterLeaving
  dsimp only
  split
  · exact .refl n s
  · split
    · exact endSession_kept n s
    · exact (ringIfAllStarted_sessionKept rfl).trans ((settleStopSlot_kept n _).trans (tryStart_kept n _))

/-! ### A bell that leaves its session early (R99) -/

theorem without_members (r : Session) (b : Fin 16) : b ∉ (r.without b).bells.map (·.bell) := by
  simp [Session.without]

/-- The state in which a bell has left its session, the session not looked at yet. -/
def departs (b : Fin 16) (h : Holder) (n : Fin 4) (s : State) : State :=
  (setHolder b h (motorOff b s)).setSession n { ((s.session n).without b) with
    departed := (s.session n).departed ||| bellMask [b] }

/-- A SERVICE bell stopped and given another holder leaves the sessions and the swings as its stop did. -/
theorem setHolder_motorOff (h : Holder) (service : (s.bell b).holder = .service n) :
    Frame [.holders, .guards, .notices, .ports] (motorOff b s) (setHolder b h (motorOff b s)) :=
  setHolder_quiet b _ (.inr (by rw [(motorOff_frame s b).holder b, service]; nofun))

theorem quietly_session (service : (s.bell b).holder = .service n) (m : Fin 4) :
    (setHolder b h (motorOff b s)).session m = s.session m := by
  rw [State.session, State.session, (setHolder_motorOff h service).sessions, (motorOff_frame s b).sessions]

theorem bellMask_one (b : Fin 16) : bellMask [b] = 1#16 <<< b.1 := BitVec.zero_or

theorem leaveEarly_service (service : (s.bell b).holder = .service n) : leaveEarly b h s =
    afterLeaving n (post .sessionDegraded (n.1 + 1) (bellMask [b]) (departs b h n s)) := by
  unfold leaveEarly departs
  rw [service]
  dsimp only
  rw [quietly_session service]
  rfl

theorem leaveEarly_other (other : ∀ n, (s.bell b).holder ≠ .service n) : leaveEarly b h s = motorOff b s := by
  unfold leaveEarly
  split
  next n service => exact absurd service (other n)
  next => rfl

theorem departs_swing (service : (s.bell b).holder = .service n) : (departs b h n s).swing b = (motorOff b s).swing b := by
  rw [departs, State.setSession_swing, State.swing, State.swing, (setHolder_motorOff h service).swings]

theorem departs_session (b : Fin 16) (h : Holder) (n : Fin 4) (s : State) : (departs b h n s).session n =
    { ((s.session n).without b) with departed := (s.session n).departed ||| bellMask [b] } :=
  State.setSession_session_self _ n _

/-- Settles O42, from the slots of a session and the ways its bells leave it. -/
theorem theSlotsOfASessionAndItsLeavers : Obligations.TheSlotsOfASessionAndItsLeavers := by
  refine ⟨fun n s free => ⟨fun x b phase slot due mains waiting engaged swing => ?starts, fun h => ?waits,
      fun running due => congrArg Host.Outcome.next (sessionEndTime_due free running due),
      fun h => congrArg Host.Outcome.next (sessionEndTime_keeps h),
      fun x b phase slot due last => congrArg Host.Outcome.next (sessionStopSlot_due free phase slot due last),
      fun h => congrArg Host.Outcome.next (sessionStopSlot_keeps h)⟩,
    fun b h s => leaveEarly_other, fun b h n s service differs => ?leaves,
    fun n s running empty => (afterLeaving_empty running empty).trans (endSession_eq running rfl), motorOff_eq⟩
  case starts =>
    exact congrArg Host.Outcome.next ((sessionStartSlot_free free).trans
      ((tryStart_some (startable_some phase slot due mains waiting engaged swing)).trans (startBell_eq phase)))
  case waits => exact congrArg Host.Outcome.next ((sessionStartSlot_free free).trans (tryStart_none (startable_none h)))
  case leaves =>
    intro t
    have kept : SessionKept n (departs b h n s) t := by
      rw [show t = _ from leaveEarly_service service]
      exact (post_kept _ _ _ _).trans (afterLeaving_kept n _)
    have left : b ∉ (departs b h n s).members n := by
      rw [State.members, departs_session]
      exact without_members _ b
    refine ⟨(leaveEarly_holder service b).trans (if_pos rfl), ?_, fun x member same => ?_, ?_,
      fun b' other => (leaveEarly_holder service b').trans (if_neg other), fun m other => ?_⟩
    · rw [kept.swings b left, departs_swing service, motorOff_motor]
    · exact left (kept.members ▸ same ▸ List.mem_map_of_mem member)
    · rw [kept.departed, departs_session, bellMask_one]
    · rw [kept.others m other, departs, State.setSession_session_ne _ other.symm, quietly_session service]

end Sys2Proof.Machine
end

section
/-! SUPPORT. The creation and the cancelling of ring sessions (R96, R101, R105, R106). -/

namespace Sys2Proof.Machine

set_option Elab.async false

variable {s t u : State} {b b' : Fin 16} {n m : Fin 4} {h : Holder}

/-! ### Many bells at once -/

theorem foldl_setHolder_holder (h : Holder) (bs : List (Fin 16)) (s : State) (b : Fin 16) :
    ((bs.foldl (fun s b => setHolder b h s) s).bell b).holder = if b ∈ bs then h else (s.bell b).holder := by
  induction bs generalizing s with
  | nil => rfl
  | cons x bs ih =>
    rw [List.foldl_cons, ih]
    by_cases later : b ∈ bs
    · rw [if_pos later, if_pos (List.mem_cons_of_mem x later)]
    · rw [if_neg later]
      by_cases same : b = x
      · subst same
        rw [setHolder_holder, if_pos List.mem_cons_self]
      · rw [setHolder_other h s same, if_neg (by simp [same, later])]

theorem foldl_free_quiet (bs : List (Fin 16)) (s : State) :
    Frame [.holders, .guards, .notices, .ports] s (bs.foldl (fun s b => setHolder b .free s) s) :=
  Frame.foldl (fun s b => setHolder_quiet b s (.inl rfl)) bs s

/-! ### A session that stops (R98, R100, R106) -/

/-- The record of a session as it begins to stop. -/
def stopping (n : Fin 4) (c : EndCause) (s : State) : Session :=
  { s.session n with
    phase := .stoppingBells, endCause := c, nextStart := none, nextStop := some s.now
    bells := (s.session n).bells.filter (·.started) }

theorem settleStopSlot_session (n : Fin 4) (s : State) : (settleStopSlot n s).session n =
    { s.session n with nextStop := ((settleStopSlot n s).session n).nextStop } := by
  unfold settleStopSlot
  dsimp only
  split
  · rw [State.setSession_session_self]
  · rfl

/-- The record of a session before its end is tested: its stop begun. -/
def stopBegun (n : Fin 4) (c : EndCause) (s : State) : State :=
  settleStopSlot n ((s.session n).unstarted.foldl (fun s b => setHolder b .free s) (s.setSession n (stopping n c s)))

theorem enterStopping_eq (n : Fin 4) (c : EndCause) (s : State) : enterStopping n c s =
    if ((stopBegun n c s).session n).bells = [] then endSession n (stopBegun n c s) else stopBegun n c s := rfl

theorem stopBegun_session (n : Fin 4) (c : EndCause) (s : State) : (stopBegun n c s).session n =
    { stopping n c s with nextStop := ((stopBegun n c s).session n).nextStop } := by
  have kept : ((s.session n).unstarted.foldl (fun s b => setHolder b .free s) (s.setSession n (stopping n c s))).session n =
      stopping n c s := by
    rw [State.session, (foldl_free_quiet _ _).sessions]
    exact State.setSession_session_self s n _
  have settled := settleStopSlot_session n
    ((s.session n).unstarted.foldl (fun s b => setHolder b .free s) (s.setSession n (stopping n c s)))
  rw [kept] at settled
  exact settled

theorem enterStopping_session (n : Fin 4) (c : EndCause) (s : State) :
    (((enterStopping n c s).session n).phase = .stoppingBells ∨ ((enterStopping n c s).session n).phase = .ended) ∧
    ((enterStopping n c s).session n).endCause = c ∧
    ((enterStopping n c s).session n).bells = (s.session n).bells.filter (·.started) := by
  have begun := stopBegun_session n c s
  have phase : ((stopBegun n c s).session n).phase = .stoppingBells := by rw [begun]; rfl
  have cause : ((stopBegun n c s).session n).endCause = c := by rw [begun]; rfl
  have bells : ((stopBegun n c s).session n).bells = (s.session n).bells.filter (·.started) := by rw [begun]; rfl
  rw [enterStopping_eq]
  split
  · rw [endSession_eq (by rw [phase]; decide) rfl, post_session, State.setSession_session_self]
    exact ⟨.inr rfl, (if_pos phase).trans cause, bells⟩
  · exact ⟨.inl phase, cause, bells⟩

theorem enterStopping_holder (n : Fin 4) (c : EndCause) (s : State) (b : Fin 16) :
    ((enterStopping n c s).bell b).holder = if b ∈ (s.session n).unstarted then .free else (s.bell b).holder := by
  have begun : ((stopBegun n c s).bell b).holder = if b ∈ (s.session n).unstarted then .free else (s.bell b).holder := by
    rw [stopBegun, (settleStopSlot_frame _ n).holder b, foldl_setHolder_holder]
    rfl
  rw [enterStopping_eq]
  split
  · rw [(endSession_frame _ n).holder b, begun]
  · exact begun

theorem actRingCancel_running (running : (s.session n).phase = .startingBells ∨ (s.session n).phase = .ringing) :
    actRingCancel (n.1 + 1) s =
      accept (be1 2 ++ beMask (bellMask (s.session n).unstarted)) (enterStopping n .cancel s) := by
  unfold actRingCancel
  rw [named_succ]
  dsimp only
  rcases running with phase | phase <;> rw [phase] <;> rfl

theorem actRingCancel_stopping (phase : (s.session n).phase = .stoppingBells) :
    actRingCancel (n.1 + 1) s = accept (be1 2) s := by
  unfold actRingCancel
  rw [named_succ]
  dsimp only
  rw [phase]
  rfl

theorem actRingCancel_ended (phase : (s.session n).phase = .ended) : actRingCancel (n.1 + 1) s = refuse .state s := by
  unfold actRingCancel
  rw [named_succ]
  dsimp only
  rw [phase]

/-! ### The creation of a session (R96) -/

theorem leftOutReason_eq (b : Fin 16) (s : State) : leftOutReason b s =
    if (s.bell b).config.drive = false then some .notFitted
    else if (s.bell b).holder ≠ .free then some .busy
    else if (s.swing b).state = .fault then some .state else none :=
  if_congr (by rw [Bool.not_eq_true']) rfl rfl

/-- The bells of a mask that a session takes (R96). -/
def takenOf (mask : BitVec 16) (s : State) : List (Fin 16) := (maskBells mask).filter (fun b => (leftOutReason b s).isNone)

/-- No bell of the mask is eligible. -/
theorem takenOf_nil {mask : BitVec 16} :
    takenOf mask s = [] ↔ (maskBells mask).all (fun b => (leftOutReason b s).isSome) = true := by
  rw [takenOf, List.filter_eq_nil_iff, List.all_eq_true]
  simp [Option.isSome_iff_ne_none]

section Creation
variable {origin : SessionOrigin} {mask : BitVec 16} {stagger duration : Nat}

theorem createSession_battery (battery : s.supply.state = .battery) :
    createSession origin mask stagger duration s = (s, .supply) :=
  if_pos (by rw [battery_of_not_onMains.2 battery]; rfl)

theorem createSession_full (mains : s.supply.state = .mains) (full : ∀ n, (s.session n).phase ≠ .ended) :
    createSession origin mask stagger duration s = (s, .sessionsFull) := by
  unfold createSession
  rw [if_neg (by rw [onMains_iff.2 mains]; decide), allFour_none fun n => beq_eq_false_iff_ne.2 (full n)]

theorem createSession_noBells (mains : s.supply.state = .mains) (ended : (s.session n).phase = .ended)
    (none : takenOf mask s = []) : createSession origin mask stagger duration s = (s, .noBells) := by
  unfold createSession
  rw [if_neg (by rw [onMains_iff.2 mains]; decide)]
  split
  next none =>
    exact absurd (List.find?_eq_none.1 none n (List.mem_finRange n)) (by simp [ended])
  next => exact if_pos (takenOf_nil.1 none)

theorem createSession_created (mains : s.supply.state = .mains) (ended : (s.session n).phase = .ended)
    (lowest : ∀ k, k < n → (s.session k).phase ≠ .ended) (some : takenOf mask s ≠ []) :
    createSession origin mask stagger duration s = (createIn n origin mask stagger duration s, .created n) := by
  unfold createSession
  rw [if_neg (by rw [onMains_iff.2 mains]; decide),
    allFour_lowest (q := fun n => (s.session n).phase == .ended) (beq_iff_eq.2 ended) fun k before => beq_eq_false_iff_ne.2 (lowest k before)]
  exact if_neg fun all => some (takenOf_nil.2 all)

/-- The record a session begins with. -/
def newSession (origin : SessionOrigin) (mask : BitVec 16) (stagger duration : Nat) (s : State) : Session where
  phase := .startingBells
  origin := origin
  bells := (takenOf mask s).map (fun b => { bell := b, started := false })
  leftOut := leftOutOf (maskBells mask) s
  departed := 0
  stagger := stagger
  creation := s.now
  endTime := s.now + duration
  nextStart := some s.now
  nextStop := none
  endCause := .none

/-- The session recorded and its bells taken. -/
def bellsTaken (n : Fin 4) (origin : SessionOrigin) (mask : BitVec 16) (stagger duration : Nat) (s : State) : State :=
  (takenOf mask s).foldl (fun s b => setHolder b (.service n) s)
    (s.setSession n (newSession origin mask stagger duration s))

/-- The notices of a creation. -/
def creationPosted (n : Fin 4) (taken out : List (Fin 16)) (s : State) : State :=
  if out = [] then post .sessionStarted (n.1 + 1) (bellMask taken) s
  else post .sessionDegraded (n.1 + 1) (bellMask out) (post .sessionStarted (n.1 + 1) (bellMask taken) s)

theorem createIn_eq : createIn n origin mask stagger duration s =
    tryStart n ((takenOf mask s).foldl (fun s b => handFault b s)
      (creationPosted n (takenOf mask s) ((leftOutOf (maskBells mask) s).map (·.bell))
        (bellsTaken n origin mask stagger duration s))) := by
  unfold createIn bellsTaken creationPosted
  refine congrArg (fun t => tryStart n ((takenOf mask s).foldl (fun s b => handFault b s) t)) ?_
  exact if_congr List.map_eq_nil_iff.symm rfl rfl

/-! ### The guards of the bells a session takes -/

/-- The guard of a bell is not in GUARD_FAULT. -/
def NoFault (b : Fin 16) (s : State) : Prop := (s.bell b).guard.state ≠ .fault

theorem NoFault.frame {ps : List Part} (f : Frame ps s t) (ok : NoFault b s) (hq : Part.guards ∉ ps := by decide) :
    NoFault b t := by
  rwa [NoFault, f.guard b hq]

theorem NoFault.setGuard {g : Guard} (ok : NoFault b s) (fine : (s.bell b').guard.state ≠ .fault → g.state ≠ .fault) :
    NoFault b (s.setGuard b' g) := by
  unfold NoFault
  by_cases same : b' = b
  · subst same
    rw [State.setGuard_guard]
    exact fine ok
  · rwa [State.setGuard, State.setBell_bell_ne s same]

theorem NoFault.guardComplete (b' : Fin 16) (ok : NoFault b s) : NoFault b (guardComplete b' s) := by
  rw [guardComplete_eq b' s rfl]
  refine ((ok.setGuard fun _ => ?_).frame (post_frame _ _ _ _)).frame (tryStartOf_frame _ b')
  dsimp only
  split <;> decide

theorem NoFault.guardBegin (b' : Fin 16) (ok : NoFault b s) : NoFault b (guardBegin b' s) := by
  unfold Machine.guardBegin
  dsimp only
  split
  · exact ok.setGuard id
  · split
    · exact ok.setGuard id
    · split
      · exact ok.guardComplete b'
      · exact ok.setGuard id

theorem NoFault.guardEngage (b' : Fin 16) (ok : NoFault b s) : NoFault b (guardEngage b' s) := by
  unfold Machine.guardEngage
  dsimp only
  split
  · exact ok
  · split
    · exact (ok.setGuard fun _ => (nofun : GuardState.engaging ≠ .fault)).guardBegin b'
    · exact (ok.setGuard fun _ => (nofun : GuardState.engaging ≠ .fault)).guardBegin b'
    all_goals exact ok.setGuard id

theorem NoFault.guardRelease (b' : Fin 16) (ok : NoFault b s) : NoFault b (guardRelease b' s) := by
  unfold Machine.guardRelease
  dsimp only
  split
  · exact ok
  · split
    · split
      · exact (ok.setGuard fun _ => (nofun : GuardState.releasing ≠ .fault)).guardBegin b'
      · exact ok.setGuard id
    · split
      · exact (ok.setGuard fun _ => (nofun : GuardState.releasing ≠ .fault)).guardBegin b'
      · exact ok.setGuard id
    all_goals exact ok.setGuard id

theorem NoFault.setHolder (b' : Fin 16) (h : Holder) (ok : NoFault b s) : NoFault b (setHolder b' h s) := by
  by_cases kept : (s.bell b').holder = h
  · rwa [Machine.setHolder, if_pos kept]
  · rw [setHolder_change s kept]
    have changed : NoFault b (changeHolder b' h s) := ok.frame (changeHolder_frame s b' h)
    split
    · exact changed.guardRelease b'
    · split
      · exact changed.guardEngage b'
      · exact changed

theorem NoFault.leaveEarly (b' : Fin 16) (h : Holder) (ok : NoFault b s) : NoFault b (leaveEarly b' h s) := by
  have off : NoFault b (motorOff b' s) := ok.frame (motorOff_frame s b')
  unfold Machine.leaveEarly
  split
  · exact (((off.setHolder b' h).frame (State.setSession_frame _ _ _)).frame (post_frame _ _ _ _)).frame
      (afterLeaving_frame _ _)
  · exact off

/-- Faults handed over take no bell whose guard is sound, and none of another list (R79). -/
theorem foldl_handFault_holder (bs : List (Fin 16)) (s : State) (h : b ∉ bs ∨ NoFault b s) :
    ((bs.foldl (fun s b => handFault b s) s).bell b).holder = (s.bell b).holder := by
  induction bs generalizing s with
  | nil => rfl
  | cons x bs ih =>
    rw [List.foldl_cons]
    have next : b ∉ bs ∨ NoFault b (handFault x s) := by
      refine h.imp (fun outside inside => outside (List.mem_cons_of_mem x inside)) fun ok => ?_
      unfold handFault
      split
      · exact ok.leaveEarly x .free
      · exact ok
    refine (ih _ next).trans ?_
    unfold handFault
    split
    next fault =>
      have other : b ≠ x := by
        rintro rfl
        exact h.elim (fun outside => outside List.mem_cons_self) (fun ok => ok fault)
      by_cases service : ∃ m, (s.bell x).holder = .service m
      · obtain ⟨m, service⟩ := service
        exact (leaveEarly_holder service b).trans (if_neg other)
      · rw [leaveEarly_other (not_exists.1 service), (motorOff_frame s x).holder b]
    next => rfl

theorem creationPosted_frame (taken out : List (Fin 16)) (s : State) :
    Frame [.notices, .ports] s (creationPosted n taken out s) := by
  unfold creationPosted
  split
  · exact (post_frame _ _ _ _).mono (by decide)
  · exact ((post_frame _ _ _ _).trans (post_frame _ _ _ _)).mono (by decide)

/-- A creation gives the session its bells, but those whose guard is in fault, and no others. -/
theorem createIn_holder (b : Fin 16) (h : b ∉ takenOf mask s ∨ NoFault b s) :
    ((createIn n origin mask stagger duration s).bell b).holder =
      if b ∈ takenOf mask s then .service n else (s.bell b).holder := by
  have taken : NoFault b s → NoFault b (bellsTaken n origin mask stagger duration s) := fun ok =>
    foldl_keeps (P := NoFault b) (fun _ x ok => ok.setHolder x (.service n)) _ ok
  have posted := creationPosted_frame (n := n) (takenOf mask s) ((leftOutOf (maskBells mask) s).map (·.bell))
    (bellsTaken n origin mask stagger duration s)
  rw [createIn_eq, (tryStart_frame _ n).holder b, foldl_handFault_holder _ _ (h.imp_right fun ok => (taken ok).frame posted),
    posted.holder b, bellsTaken, foldl_setHolder_holder]
  rfl

/-! ### The terms of a session stand (R96) -/

/-- The terms a session was created with. -/
structure TermsKept (n : Fin 4) (s t : State) : Prop where
  stagger : (t.session n).stagger = (s.session n).stagger
  origin : (t.session n).origin = (s.session n).origin
  endTime : (t.session n).endTime = (s.session n).endTime
  leftOut : (t.session n).leftOut = (s.session n).leftOut

theorem TermsKept.trans (h : TermsKept n s t) (k : TermsKept n t u) : TermsKept n s u :=
  ⟨k.stagger.trans h.stagger, k.origin.trans h.origin, k.endTime.trans h.endTime, k.leftOut.trans h.leftOut⟩

theorem TermsKept.of_session (h : t.session n = s.session n) : TermsKept n s t := by
  constructor <;> rw [h]

theorem TermsKept.refl (n : Fin 4) (s : State) : TermsKept n s s := .of_session rfl

theorem TermsKept.frame {ps : List Part} (f : Frame ps s t) (hq : Part.sessions ∉ ps := by decide) : TermsKept n s t :=
  .of_session (by rw [State.session, State.session, f.sessions hq])

theorem SessionKept.terms (k : SessionKept m s t) (n : Fin 4) : TermsKept n s t := by
  by_cases same : n = m
  · subst same
    exact ⟨k.stagger, k.origin, k.endTime, k.leftOut⟩
  · exact .of_session (k.others n same)

theorem TermsKept.guardBegin (n : Fin 4) (b : Fin 16) (s : State) : TermsKept n s (guardBegin b s) := by
  unfold Machine.guardBegin
  dsimp only
  split
  · exact .of_session (State.setGuard_session ..)
  · split
    · exact .of_session (State.setGuard_session ..)
    · split
      · rw [guardComplete_eq b s rfl, tryStartOf]
        have ready : ∀ st, TermsKept n s (post .guardReady (b.1 + 1) (pair 0 (GuardState.code st)) (s.setGuard b
            { (s.bell b).guard with state := st, motion := .idle, deadline := none })) := fun st =>
          .of_session (by rw [post_session, State.setGuard_session])
        split
        · exact (ready _).trans ((tryStart_kept _ _).terms n)
        · exact ready _
      · exact .of_session (State.setGuard_session ..)

theorem TermsKept.guardEngage (n : Fin 4) (b : Fin 16) (s : State) : TermsKept n s (guardEngage b s) := by
  unfold Machine.guardEngage
  dsimp only
  split
  · exact .refl n s
  · have set : ∀ g, TermsKept n s (s.setGuard b g) := fun g => .of_session (State.setGuard_session ..)
    split
    · exact (set _).trans (.guardBegin n b _)
    · exact (set _).trans (.guardBegin n b _)
    all_goals exact set _

theorem TermsKept.setHolder (n : Fin 4) (b : Fin 16) (h : Holder) (s : State) : TermsKept n s (setHolder b h s) := by
  by_cases quiet : h = .free ∨ (s.bell b).holder ≠ .free
  · exact .frame (setHolder_quiet b s quiet)
  · obtain ⟨taken, free⟩ := not_or.1 quiet
    rw [setHolder_change s fun same => taken (same.symm.trans (not_not.1 free)), if_neg taken, if_pos (not_not.1 free)]
    exact (TermsKept.frame (changeHolder_frame s b h)).trans (.guardEngage n b _)

theorem TermsKept.leaveEarly (n : Fin 4) (b : Fin 16) (h : Holder) (s : State) : TermsKept n s (leaveEarly b h s) := by
  by_cases service : ∃ m, (s.bell b).holder = .service m
  · obtain ⟨m, service⟩ := service
    rw [leaveEarly_service service]
    refine TermsKept.trans ?_ (((post_kept (n := m) _ _ _ _).trans (afterLeaving_kept m _)).terms n)
    by_cases same : n = m
    · subst same
      constructor <;> rw [departs_session] <;> rfl
    · exact .of_session (by rw [departs, State.setSession_session_ne _ (Ne.symm same), quietly_session service])
  · rw [leaveEarly_other (not_exists.1 service)]
    exact .frame (motorOff_frame s b)

/-- A session is created with the terms asked for. -/
theorem createIn_terms : TermsKept n (s.setSession n (newSession origin mask stagger duration s))
    (createIn n origin mask stagger duration s) := by
  rw [createIn_eq]
  refine TermsKept.trans ?_ ((tryStart_kept n _).terms n)
  have folds : ∀ (f : State → Fin 16 → State), (∀ u b, TermsKept n u (f u b)) → ∀ (bs : List (Fin 16)) (u : State), TermsKept n u (bs.foldl f u) :=
    fun f each bs u => foldl_keeps (P := TermsKept n u) (fun t b kept => kept.trans (each t b)) bs (.refl n u)
  refine (folds _ (fun u b => .setHolder n b _ u) _ _).trans
    ((TermsKept.frame (creationPosted_frame _ _ _)).trans (folds _ (fun u b => ?_) _ _))
  unfold handFault
  split
  · exact .leaveEarly n b .free u
  · exact .refl n u

end Creation

/-! ### The request (R105) -/

theorem actRingStart_eq {mask stagger duration : Nat} (named : mask % 65536 ≠ 0) : actRingStart mask stagger duration s =
    match createSession .manual (BitVec.ofNat 16 mask) (clamp 2 30 stagger) (clamp 1 60 duration * 60000) s with
    | (_, .supply) => refuseWith .state (beLeftOut (leftOutOf (maskBells (BitVec.ofNat 16 mask)) s)) s
    | (_, .sessionsFull) => refuseWith .full (beLeftOut (leftOutOf (maskBells (BitVec.ofNat 16 mask)) s)) s
    | (_, .noBells) =>
      refuseWith (if (leftOutOf (maskBells (BitVec.ofNat 16 mask)) s).all (fun x => x.reason == .notFitted) then
        .notFitted else .busy) (beLeftOut (leftOutOf (maskBells (BitVec.ofNat 16 mask)) s)) s
    | (t, .created n) => accept (be1 (n.1 + 1) ++ beMask (bellMask (takenOf (BitVec.ofNat 16 mask) s)) ++
        beLeftOut (leftOutOf (maskBells (BitVec.ofNat 16 mask)) s) ++ be1 (clamp 2 30 stagger) ++
        be1 (clamp 1 60 duration) ++ beTime (s.now + clamp 1 60 duration * 60000)) t :=
  if_neg named

/-- Settles O43, by the outcome of a creation and by the phase of the session cancelled. -/
theorem startingAndCancellingASession : Obligations.StartingAndCancellingASession := by
  refine ⟨fun p tag mask stagger duration s reaches named => ⟨fun battery => ?battery, fun mains full => ?full,
      fun n mains ended none => ?noBells, fun n mains ended lowest some => ?created⟩, leftOutReason_eq,
    fun p tag n s reaches running => ?running,
    fun p tag n s reaches phase => answers reaches.1 (actRingCancel_stopping phase) reaches.2,
    fun p tag n s reaches phase => answers reaches.1 (actRingCancel_ended phase) reaches.2⟩
  case battery =>
    refine answers reaches.1 ((actRingStart_eq named).trans ?_) reaches.2
    rw [createSession_battery battery]
    rfl
  case full =>
    refine answers reaches.1 ((actRingStart_eq named).trans ?_) reaches.2
    rw [createSession_full mains full]
    rfl
  case noBells =>
    refine answers reaches.1 ((actRingStart_eq named).trans ?_) reaches.2
    rw [createSession_noBells mains ended none]
    rfl
  case created =>
    intro t
    have terms := createIn_terms (s := s) (n := n) (origin := .manual) (mask := BitVec.ofNat 16 mask)
      (stagger := clamp 2 30 stagger) (duration := clamp 1 60 duration * 60000)
    have begun := State.setSession_session_self s n (newSession .manual (BitVec.ofNat 16 mask) (clamp 2 30 stagger)
      (clamp 1 60 duration * 60000) s)
    refine ⟨answers reaches.1 ((actRingStart_eq named).trans ?_) reaches.2, fun b outside => ?_, fun b inside sound => ?_,
      ?_, ?_, ?_, ?_⟩
    · rw [createSession_created mains ended lowest some]
      rfl
    · exact (createIn_holder b (.inl outside)).trans (if_neg outside)
    · exact (createIn_holder b (.inr sound)).trans (if_pos inside)
    · exact terms.stagger.trans (congrArg Session.stagger begun)
    · exact terms.origin.trans (congrArg Session.origin begun)
    · exact terms.endTime.trans (congrArg Session.endTime begun)
    · exact terms.leftOut.trans (congrArg Session.leftOut begun)
  case running =>
    obtain ⟨phase, cause, bells⟩ := enterStopping_session n .cancel s
    exact ⟨answers reaches.1 (actRingCancel_running running) reaches.2, phase, cause, bells,
      fun b inside => (enterStopping_holder n .cancel s b).trans (if_pos inside)⟩

end Sys2Proof.Machine
end

section
/-! SUPPORT. The edit of tunes and the writing of plans (R109 to R118, R120, R123). -/

namespace Sys2Proof.Machine

set_option Elab.async false

variable {s : State} {k : Fin 24} {xs ns : List (Option Note)} {x : Instant}

/-! ### The edit timer and the replies (R110, R115) -/

theorem restartEdit_editing (editing : (s.tune k).content = .editing xs x) :
    restartEdit k s = s.setTune k { s.tune k with content := .editing xs s.now } := by
  rw [restartEdit, editing]

theorem restartEdit_other (other : ∀ xs x, (s.tune k).content ≠ .editing xs x) : restartEdit k s = s := by
  unfold restartEdit
  split
  next xs x editing => exact absurd editing (other xs x)
  next => rfl

theorem restartEdit_freeCount (k : Fin 24) (s : State) : (restartEdit k s).freeCount = s.freeCount := by
  have lengths : ∀ j, ((restartEdit k s).tune j).length = (s.tune j).length := fun j => by
    unfold restartEdit
    split
    next xs x editing =>
      by_cases same : k = j
      · subst same
        rw [State.setTune_tune_self, Tune.length, Tune.length, editing]
      · rw [State.setTune_tune_ne s same]
    next => rfl
  rw [State.freeCount, State.freeCount]
  simp only [lengths]

/-- A request refused restarts the timer of the tune it names, and reports the free count as before. -/
theorem editReply_restart (st : Status) (pl : List Byte) : editReply st pl (restartEdit k s) =
    ⟨restartEdit k s, st, pl ++ be2 s.freeCount⟩ := by
  rw [editReply, restartEdit_freeCount]

theorem editReply_editing (st : Status) (pl : List Byte) (editing : (s.tune k).content = .editing xs x) :
    editReply st pl (restartEdit k s) =
      ⟨s.setTune k { s.tune k with content := .editing xs s.now }, st, pl ++ be2 s.freeCount⟩ := by
  rw [editReply_restart, restartEdit_editing editing]

/-! ### TUNE_OPEN (R111) -/

theorem actTuneOpen_eq (k : Fin 24) (n revision : Nat) (s : State) : actTuneOpen (k.1 + 1) n revision s =
    if n < 1 ∨ 128 < n then editReply .range [] (restartEdit k s)
    else if ¬ (revision = 255 ∨ revision = (s.tune k).revision) then
      editReply .stale (be1 (s.tune k).revision) (restartEdit k s)
    else if (s.tune k).isEditing = true then editReply .busy [] (restartEdit k s)
    else if s.freeCount + (s.tune k).length < n then editReply .noRoom (be1 (s.freeCount + (s.tune k).length)) s
    else editReply .ok (be1 (k.1 + 1) ++ be1 n ++ be1 (s.tune k).revision)
      (tuneHandoff k (s.setTune k { s.tune k with content := .editing (List.replicate n none) s.now })) := by
  unfold actTuneOpen
  rw [named_succ]
  exact if_congr Iff.rfl rfl (if_congr (by rw [← revisionOk_iff]; simp) rfl rfl)

theorem actTuneOpen_inRange {n revision : Nat} (least : 1 ≤ n) (most : n ≤ 128)
    (known : revision = 255 ∨ revision = (s.tune k).revision) : actTuneOpen (k.1 + 1) n revision s =
    if (s.tune k).isEditing = true then editReply .busy [] (restartEdit k s)
    else if s.freeCount + (s.tune k).length < n then editReply .noRoom (be1 (s.freeCount + (s.tune k).length)) s
    else editReply .ok (be1 (k.1 + 1) ++ be1 n ++ be1 (s.tune k).revision)
      (tuneHandoff k (s.setTune k { s.tune k with content := .editing (List.replicate n none) s.now })) :=
  (actTuneOpen_eq k n revision s).trans ((if_neg (by omega)).trans (if_neg (not_not.2 known)))

/-! ### TUNE_WRITE (R109, R112) -/

theorem actTuneWrite_other (first : Nat) (notes : List RawNote) (other : ∀ xs x, (s.tune k).content ≠ .editing xs x) :
    actTuneWrite (k.1 + 1) first notes s = editReply .state [] s := by
  unfold actTuneWrite
  rw [named_succ]
  dsimp only
  split
  next xs x editing => exact absurd editing (other xs x)
  next => rfl

theorem actTuneWrite_editing (first : Nat) (notes : List RawNote) (editing : (s.tune k).content = .editing xs x) :
    actTuneWrite (k.1 + 1) first notes s = match storedNotes first notes with
      | none => editReply .range [] (restartEdit k s)
      | some ns =>
        if notes = [] ∨ 64 < notes.length ∨ first < 1 ∨ xs.length < first - 1 + notes.length then
          editReply .range [] (restartEdit k s)
        else accept (be1 first ++ be1 notes.length ++ be1 (notes.filter (fun n => decide (500 < n.offset))).length ++
            be1 (unwritten (writeSlots first ns xs)) ++ be1 (firstUnwritten (writeSlots first ns xs)))
          (s.setTune k { s.tune k with content := .editing (writeSlots first ns xs) s.now }) := by
  unfold actTuneWrite
  rw [named_succ]
  dsimp only
  rw [editing] <;> rfl

theorem getElem?_writeSlots {first : Nat} (i : Nat) (fits : first - 1 + ns.length ≤ xs.length) :
    (writeSlots first ns xs)[i]? = if first - 1 ≤ i ∧ i < first - 1 + ns.length then ns[i - (first - 1)]? else xs[i]? := by
  have prefixed : (xs.take (first - 1)).length = first - 1 := by
    rw [List.length_take]
    omega
  unfold writeSlots
  by_cases before : i < first - 1
  · rw [if_neg (by omega), List.append_assoc, List.getElem?_append_left (by omega), List.getElem?_take_of_lt before]
  · rw [List.append_assoc, List.getElem?_append_right (by omega), prefixed]
    by_cases within : i < first - 1 + ns.length
    · rw [if_pos ⟨by omega, within⟩, List.getElem?_append_left (by omega)]
    · rw [if_neg (by omega), List.getElem?_append_right (by omega), List.getElem?_drop]
      congr 1
      omega

/-! ### TUNE_CLOSE (R113) -/

theorem unwritten_eq_zero (written : ∀ y ∈ xs, y ≠ none) : unwritten xs = 0 := by
  rw [unwritten, List.length_eq_zero_iff, List.filter_eq_nil_iff]
  exact fun y inside none => written y inside (Option.isNone_iff_eq_none.1 none)

theorem unwritten_pos (gap : none ∈ xs) : 0 < unwritten xs :=
  List.length_pos_of_mem (List.mem_filter.2 ⟨gap, rfl⟩)

theorem written_length (written : ∀ y ∈ xs, y ≠ none) : (xs.filterMap id).length = xs.length := by
  rw [List.filterMap_length_eq_length]
  exact fun y inside => Option.isSome_iff_ne_none.2 (written y inside)

theorem actTuneClose_editing (editing : (s.tune k).content = .editing xs x) : actTuneClose (k.1 + 1) s =
    if 0 < unwritten xs then editReply .state (be1 (firstUnwritten xs) ++ be1 (unwritten xs)) (restartEdit k s)
    else editReply .ok (be1 (k.1 + 1) ++ be1 (xs.filterMap id).length ++ be1 (nextRevision (s.tune k).revision) ++
        be2 (tuneUnits (xs.filterMap id)))
      (changeTune k { content := .valid (xs.filterMap id), revision := nextRevision (s.tune k).revision } s) := by
  unfold actTuneClose
  rw [named_succ]
  dsimp only
  rw [editing]

theorem actTuneClose_other (other : ∀ xs x, (s.tune k).content ≠ .editing xs x) :
    actTuneClose (k.1 + 1) s = editReply .state (be1 (s.tune k).content.code) s := by
  unfold actTuneClose
  rw [named_succ]
  dsimp only
  split
  next xs x editing => exact absurd editing (other xs x)
  next => rfl

/-! ### TUNE_DELETE and the edit timeout (R115, R118) -/

theorem actTuneDelete_eq (k : Fin 24) (revision : Nat) (s : State) : actTuneDelete (k.1 + 1) revision s =
    if ¬ (revision = 255 ∨ revision = (s.tune k).revision) then
      editReply .stale (be1 (s.tune k).revision) (restartEdit k s)
    else if (s.tune k).isEditing = true then editReply .busy [] (restartEdit k s)
    else if (s.tune k).isValid = false then editReply .state [] s
    else editReply .ok (be1 (nextRevision (s.tune k).revision))
      (changeTune k { content := .empty, revision := nextRevision (s.tune k).revision } s) := by
  unfold actTuneDelete
  rw [named_succ]
  exact if_congr (by rw [← revisionOk_iff]; simp) rfl (if_congr Iff.rfl rfl (if_congr (by rw [Bool.not_eq_true']) rfl rfl))

theorem tuneEditTimeout_editing (editing : (s.tune k).content = .editing xs x) : tuneEditTimeout k s =
    if s.isHeld = true ∨ s.now < x + 300000 then s else abortEdit k s := by
  unfold tuneEditTimeout
  rw [editing]
  exact if_congr (by rw [Bool.or_eq_true, decide_eq_true_iff]) rfl rfl

theorem tuneEditTimeout_other (other : ∀ xs x, (s.tune k).content ≠ .editing xs x) : tuneEditTimeout k s = s := by
  unfold tuneEditTimeout
  split
  next x editing => exact absurd editing (other _ x)
  next => rfl

/-! ### PLAN_WRITE (R120, R123) -/

theorem planOf_code (n : PlanName) : planOf n.code = some n := by
  cases n <;> rfl

/-- The plan a PLAN_WRITE asks for, clamped. -/
def planWritten (a : PlanArgs) (n : PlanName) (s : State) : Plan where
  first := a.first
  second := a.second
  third := a.third
  hour := a.hour
  hourBell := a.bell
  gap := min 10000 a.gap
  pace := clamp 1000 10000 a.pace
  revision := nextRevision (s.plan n).revision

theorem actPlanWrite_eq {a : PlanArgs} {n : PlanName} (plan : a.plan = n.code) : actPlanWrite a s =
    if 24 < a.first ∨ 24 < a.second ∨ 24 < a.third ∨ 24 < a.hour ∨ 16 < a.bell then refuse .range s
    else if ¬ (a.revision = 255 ∨ a.revision = (s.plan n).revision) then refuseStale (s.plan n).revision s
    else accept (planWritten a n s).bytes (s.setPlan n (planWritten a n s)) := by
  unfold actPlanWrite
  rw [plan, planOf_code, show clamp 0 10000 a.gap = min 10000 a.gap by unfold clamp; omega]
  exact if_congr Iff.rfl rfl (if_congr (by rw [← revisionOk_iff]; simp) rfl rfl)

theorem actPlanWrite_range {a : PlanArgs}
    (outside : 1 < a.plan ∨ 24 < a.first ∨ 24 < a.second ∨ 24 < a.third ∨ 24 < a.hour ∨ 16 < a.bell) :
    actPlanWrite a s = refuse .range s := by
  unfold actPlanWrite
  split
  next => rfl
  next n plan =>
    refine if_pos (outside.resolve_left fun beyond => ?_)
    unfold planOf at plan
    rw [if_neg (by omega), if_neg (by omega)] at plan
    cases plan

/-- Settles O44, from the replies of each request of the edit protocol. -/
theorem editingTunesAndWritingPlans : Obligations.EditingTunesAndWritingPlans := by
  refine ⟨fun k tag s free => ⟨?opens, ?noRoom, ?busy, ⟨fun xs x => restartEdit_editing, restartEdit_other⟩, ?openRange,
      ?openStale, ?writes, fun first b offset => rfl, fun first notes other => ?writeState, ?writeRange, ?closes,
      ?closeState, fun other => answers free (actTuneClose_other other) rfl⟩,
    ?deletes, ?deleteState, ?deleteStale, ?deleteBusy, ?timesOut, ?timeoutKeeps, ?plans, ?planRange⟩
  case opens =>
    intro n revision least most known other room
    exact answers free ((actTuneOpen_inRange least most known).trans
      ((if_neg (by rw [Tune.isEditing_eq_false other]; decide)).trans (if_neg (Nat.not_lt.2 room)))) rfl
  case noRoom =>
    intro n revision least most known other full
    exact answers free ((actTuneOpen_inRange least most known).trans
      ((if_neg (by rw [Tune.isEditing_eq_false other]; decide)).trans (if_pos full))) rfl
  case busy =>
    intro n revision xs x least most known editing
    exact answers free ((actTuneOpen_inRange least most known).trans
      ((if_pos (Tune.isEditing_of_editing editing)).trans (editReply_editing _ _ editing))) rfl
  case openRange =>
    intro n revision outside
    exact answers free ((actTuneOpen_eq k n revision s).trans ((if_pos outside).trans (editReply_restart _ _))) rfl
  case openStale =>
    intro n revision least most fixed stale
    exact answers free ((actTuneOpen_eq k n revision s).trans ((if_neg (by omega)).trans
      ((if_pos (not_or.2 ⟨fixed, stale⟩)).trans (editReply_restart _ _)))) rfl
  case writes =>
    intro xs x first notes ns editing stored some most least fits
    have length := storedNotes_length stored
    have acts := actTuneWrite_editing first notes editing
    rw [stored] at acts
    refine ⟨writeSlots first ns xs, answers free (acts.trans (if_neg ?_)) rfl, writeSlots_length (by omega), fun i inside => ?_⟩
    · simp only [some, false_or]
      omega
    · rw [← length]
      exact getElem?_writeSlots i (by omega)
  case writeState => exact answers free (actTuneWrite_other first notes other) rfl
  case writeRange =>
    intro xs x first notes editing outside
    have acts := actTuneWrite_editing first notes editing
    refine answers free (acts.trans ?_) rfl
    cases stored : storedNotes first notes with
    | none => exact editReply_editing _ _ editing
    | some ns => exact (if_pos (outside.resolve_left (by rw [stored]; nofun))).trans (editReply_editing _ _ editing)
  case closes =>
    intro xs x editing written
    have acts := (actTuneClose_editing editing).trans (if_neg (by rw [unwritten_eq_zero written]; decide))
    rw [written_length written] at acts
    exact answers free acts rfl
  case closeState =>
    intro xs x editing gap
    exact answers free ((actTuneClose_editing editing).trans ((if_pos (unwritten_pos gap)).trans
      (editReply_editing _ _ editing))) rfl
  case deletes =>
    intro k tag revision ns s free valid known
    refine answers free ((actTuneDelete_eq k revision s).trans ((if_neg (not_not.2 known)).trans
      ((if_neg ?_).trans (if_neg ?_)))) rfl
    · rw [Tune.isEditing, valid]
      exact Bool.false_ne_true
    · rw [Tune.isValid, valid]
      exact Bool.true_eq_false_eq_False
  case deleteState =>
    intro k tag revision s free empty known
    refine answers free ((actTuneDelete_eq k revision s).trans ((if_neg (not_not.2 known)).trans
      ((if_neg ?_).trans (if_pos ?_)))) rfl
    · rw [Tune.isEditing, empty]
      decide
    · rw [Tune.isValid, empty]
  case deleteStale =>
    intro k tag revision s free fixed stale
    exact answers free ((actTuneDelete_eq k revision s).trans ((if_pos (not_or.2 ⟨fixed, stale⟩)).trans
      (editReply_restart _ _))) rfl
  case deleteBusy =>
    intro k tag revision xs x s free editing known
    exact answers free ((actTuneDelete_eq k revision s).trans ((if_neg (not_not.2 known)).trans
      ((if_pos (Tune.isEditing_of_editing editing)).trans (editReply_editing _ _ editing)))) rfl
  case timesOut =>
    intro k xs x s free editing due
    refine congrArg Host.Outcome.next ((tuneEditTimeout_editing editing).trans ((if_neg ?_).trans (abortEdit_editing editing)))
    rw [not_isHeld free]
    exact not_or.2 ⟨Bool.false_ne_true, Nat.not_lt.2 due⟩
  case timeoutKeeps =>
    rintro k s (other | ⟨xs, x, editing, early⟩)
    · exact congrArg Host.Outcome.next (tuneEditTimeout_other other)
    · exact congrArg Host.Outcome.next ((tuneEditTimeout_editing editing).trans (if_pos (.inr early)))
  case plans =>
    intro tag a n s free plan first second third hour bell known r
    exact ⟨answers free ((actPlanWrite_eq plan).trans ((if_neg (by omega)).trans (if_neg (not_not.2 known)))) rfl,
      by cases n <;> rfl, by cases n <;> rfl⟩
  case planRange =>
    intro tag a s free outside
    exact answers free (actPlanWrite_range outside) rfl

end Sys2Proof.Machine
end

section
/-! SUPPORT. The entries of the strike queue that come up, and the ends of pulses and recoveries (R133 to R136). -/

namespace Sys2Proof.Machine

set_option Elab.async false

variable {s t u : State} {e e' : Entry} {b : Fin 16}

/-! ### What taking up an entry leaves of the others -/

/-- The queue holds nothing but entries it held, those of one insertion sequence and those inserted since. -/
structure QueueFrom (seq : Nat) (s t : State) : Prop where
  next : s.strike.nextSeq ≤ t.strike.nextSeq
  entries : ∀ x ∈ t.strike.queue, x ∈ s.strike.queue ∨ x.seq = seq ∨ s.strike.nextSeq ≤ x.seq

namespace QueueFrom

variable {seq : Nat}

theorem refl (seq : Nat) (s : State) : QueueFrom seq s s := ⟨Nat.le_refl _, fun _ => .inl⟩

theorem trans (h : QueueFrom seq s t) (k : QueueFrom seq t u) : QueueFrom seq s u := by
  refine ⟨Nat.le_trans h.next k.next, fun x inside => ?_⟩
  obtain stood | named | new := k.entries x inside
  · exact h.entries x stood
  · exact .inr (.inl named)
  · exact .inr (.inr (Nat.le_trans h.next new))

theorem frame {ps : List Part} (f : Frame ps s t) (hq : Part.queue ∉ ps := by decide) : QueueFrom seq s t :=
  ⟨Nat.le_of_eq (f.nextSeq hq).symm, fun _ inside => .inl (f.queue hq ▸ inside)⟩

theorem filter (keep : Entry → Bool) : QueueFrom seq s (s.setQueue (s.strike.queue.filter keep)) :=
  ⟨Nat.le_refl _, fun _ inside => .inl (List.mem_filter.1 inside).1⟩

theorem enqueue (due : Instant) (b : Fin 16) (o : Origin) (number : Nat) : QueueFrom seq s (enqueue due b o number s) := by
  refine ⟨Nat.le_succ _, fun x inside => ?_⟩
  obtain rfl | stood := mem_insertEntry.1 inside
  · exact .inr (.inr (Nat.le_refl _))
  · exact .inl stood

theorem replaceEntry (r : Entry) : QueueFrom r.seq s (replaceEntry r s) := by
  refine ⟨Nat.le_refl _, fun x inside => ?_⟩
  obtain ⟨y, stood, rfl⟩ := List.mem_map.1 inside
  split
  · exact .inr (.inl rfl)
  · exact .inl stood

theorem endToll (n : Fin 4) (c : TollCause) (s : State) : QueueFrom seq s (endToll n c s) := by
  unfold Machine.endToll
  split
  · exact refl seq s
  · exact (filter _).trans ((frame (post_frame _ _ _ _)).trans (frame (State.setToll_frame _ n _)))

theorem tollServed (n : Fin 4) (begun : Bool) (due : Instant) (s : State) : QueueFrom seq s (tollServed n begun due s) := by
  unfold Machine.tollServed
  split
  · exact refl seq s
  · dsimp only
    have set : ∀ x, QueueFrom seq s (s.setToll n x) := fun x => frame (State.setToll_frame s n x)
    split
    · exact (set _).trans (endToll n .count _)
    · exact (set _).trans (enqueue ..)

theorem entryLeft (e : Entry) (begun : Bool) (s : State) : QueueFrom seq s (entryLeft e begun s) := by
  unfold Machine.entryLeft
  split
  · exact tollServed ..
  · exact refl seq s

theorem skipEntry (e : Entry) (f : StrikeFail) (s : State) : QueueFrom seq s (skipEntry e f s) :=
  (filter _).trans ((frame (post_frame _ _ _ _)).trans (entryLeft e false _))

theorem beginPulse (e : Entry) (s : State) : QueueFrom seq s (beginPulse e s) :=
  (frame (State.setPulse_frame s e.bell _ _)).trans ((filter _).trans (entryLeft e true _))

theorem serveEntry (e : Entry) (s : State) : QueueFrom e.seq s (serveEntry e s) := by
  unfold Machine.serveEntry
  split
  · exact replaceEntry { e with wait := .recovery }
  · split
    · exact beginPulse e s
    · exact replaceEntry { e with wait := .share }

theorem takeUp (e : Entry) (s : State) : QueueFrom e.seq s (takeUp e s) := by
  unfold Machine.takeUp
  split
  · exact serveEntry e s
  · split
    · exact skipEntry e _ s
    · split
      next => exact skipEntry e _ s
      next b _ =>
        have rebound : ∀ k i d x, QueueFrom e.seq s
            (post k i d (Machine.replaceEntry { e with bell := x, substituted := true } s)) := fun k i d x =>
          (replaceEntry { e with bell := x, substituted := true }).trans (frame (post_frame _ _ _ _))
        dsimp only
        split
        · exact (rebound ..).trans (serveEntry { e with bell := b, substituted := true } _)
        · exact (rebound ..).trans (skipEntry _ _ _)

end QueueFrom

/-! ### The entries that come up (R133 to R136) -/

theorem comesUp_iff (e : Entry) (s : State) : comesUp e s = true ↔ (e.wait = .pending ∧ e.due ≤ s.now) ∨
    (e.wait = .recovery ∧ recovered e.bell s = true) ∨ (e.wait = .share ∧ s.energised < s.strike.share) := by
  unfold comesUp
  cases wait : e.wait <;> simp

theorem serveQueue_eq_foldl (s : State) : serveQueue s = s.strike.queue.foldl (entryTurn comesUp) s := rfl

theorem serveQueue_idle (idle : ∀ x ∈ s.strike.queue, comesUp x s = false) : serveQueue s = s := by
  refine foldl_entryTurn_eq_self fun e _ => ?_
  unfold entryTurn
  split
  next x found => rw [idle x (List.mem_of_find?_eq_some found), if_neg Bool.false_ne_true]
  next => rfl

/-- An entry that waits for an instant still to come. -/
def Resting (s : State) (x : Entry) : Prop := x.wait = .pending ∧ s.now < x.due

theorem comesUp_resting {x : Entry} (rests : Resting s x) : comesUp x s = false := by
  obtain ⟨pending, early⟩ := rests
  rw [Bool.eq_false_iff, Ne, comesUp_iff, pending]
  rintro (⟨-, due⟩ | ⟨recovery, -⟩ | ⟨share, -⟩)
  · exact Nat.not_lt.2 due early
  · cases recovery
  · cases share

/-- The turns of resting entries do nothing in a state whose queue holds none but them under their sequences. -/
theorem foldl_resting {es : List Entry} (rest : ∀ x ∈ es, Resting s x)
    (own : ∀ x ∈ es, ∀ y ∈ s.strike.queue, y.seq = x.seq → y = x) : es.foldl (entryTurn comesUp) s = s := by
  refine foldl_entryTurn_eq_self fun e inside => ?_
  unfold entryTurn
  split
  next y found =>
    have same : y.seq = e.seq := beq_iff_eq.1 (List.find?_some (p := fun x : Entry => x.seq == e.seq) found)
    rw [own e inside y (List.mem_of_find?_eq_some found) same, comesUp_resting (rest e inside), if_neg Bool.false_ne_true]
  next => rfl

theorem Resting.takeUp {x : Entry} (rests : Resting s x) (e : Entry) : Resting (takeUp e s) x :=
  ⟨rests.1, by rw [(takeUp_frame s e).now]; exact rests.2⟩

theorem QueueFrom.mem {seq : Nat} (kept : QueueFrom seq s t) {y : Entry} (stands : y ∈ t.strike.queue)
    (old : y.seq < s.strike.nextSeq) (other : y.seq ≠ seq) : y ∈ s.strike.queue := by
  obtain stood | named | new := kept.entries y stands
  · exact stood
  · exact absurd named other
  · exact absurd old (Nat.not_lt.2 new)

theorem QueueOk.inj (ok : QueueOk s) {x y : Entry} (hx : x ∈ s.strike.queue) (hy : y ∈ s.strike.queue) (same : y.seq = x.seq) :
    y = x := by
  obtain ⟨-, -, once, -⟩ := ok
  exact List.inj_on_of_nodup_map once hy hx same

theorem QueueOk.old (ok : QueueOk s) {x : Entry} (inside : x ∈ s.strike.queue) : x.seq < s.strike.nextSeq := by
  obtain ⟨-, -, -, old⟩ := ok
  exact old x inside

/-- The other entries of a queue have other sequences. -/
theorem QueueOk.seq_ne (ok : QueueOk s) {pre rest : List Entry} (split : s.strike.queue = pre ++ e :: rest) {x : Entry}
    (inside : x ∈ pre ++ rest) : x.seq ≠ e.seq := by
  obtain ⟨-, -, once, -⟩ := ok
  rw [split, (List.perm_middle.map _).nodup_iff, List.map_cons, List.nodup_cons] at once
  exact fun same => once.1 (same ▸ List.mem_map_of_mem inside)

/-- The turn of an entry of the old queue, after another has been taken up. -/
theorem entryTurn_after (ok : QueueOk s) (inside : e' ∈ s.strike.queue) (other : e'.seq ≠ e.seq) :
    entryTurn comesUp (takeUp e s) e' = if e' ∈ (takeUp e s).strike.queue ∧ comesUp e' (takeUp e s) = true then
      takeUp e' (takeUp e s) else takeUp e s := by
  unfold entryTurn
  split
  next y found =>
    have stands := List.mem_of_find?_eq_some found
    have same : y.seq = e'.seq := beq_iff_eq.1 (List.find?_some (p := fun x : Entry => x.seq == e'.seq) found)
    obtain rfl := ok.inj inside ((QueueFrom.takeUp e s).mem stands (same ▸ ok.old inside) (same ▸ other)) same
    exact if_congr (and_iff_right stands).symm rfl rfl
  next none =>
    refine (if_neg fun h => ?_).symm
    exact List.find?_eq_none.1 none e' h.1 (beq_self_eq_true _)

/-- One entry comes up, and the others rest. -/
theorem serveQueue_one {pre rest : List Entry} (ok : QueueOk s) (split : s.strike.queue = pre ++ e :: rest)
    (up : comesUp e s = true) (rests : ∀ x ∈ pre ++ rest, Resting s x) : serveQueue s = takeUp e s := by
  have mem : ∀ x ∈ pre ++ rest, x ∈ s.strike.queue := fun x inside => by
    rw [split, List.perm_middle.mem_iff]
    exact List.mem_cons_of_mem e inside
  have self : e ∈ s.strike.queue := by simp [split]
  have before : pre.foldl (entryTurn comesUp) s = s :=
    foldl_resting (fun x inside => rests x (List.mem_append_left rest inside)) fun x inside y stands same =>
      ok.inj (mem x (List.mem_append_left rest inside)) stands same
  obtain ⟨-, -, once, -⟩ := id ok
  rw [serveQueue_eq_foldl, split, List.foldl_append, before, List.foldl_cons, entryTurn_of_mem once self, if_pos up]
  refine foldl_resting (fun x inside => (rests x (List.mem_append_right pre inside)).takeUp e) fun x inside y stands same => ?_
  have inside := List.mem_append_right pre inside
  have stood := (QueueFrom.takeUp e s).mem stands (same ▸ ok.old (mem x inside)) (same ▸ ok.seq_ne split inside)
  exact ok.inj (mem x inside) stood same

/-- Two entries come up, and the others rest. -/
theorem serveQueue_two {pre mid rest : List Entry} (ok : QueueOk s)
    (split : s.strike.queue = pre ++ e :: mid ++ e' :: rest) (up : comesUp e s = true)
    (rests : ∀ x ∈ pre ++ mid ++ rest, Resting s x) : serveQueue s =
      if e' ∈ (takeUp e s).strike.queue ∧ comesUp e' (takeUp e s) = true then takeUp e' (takeUp e s) else takeUp e s := by
  have splitFirst : s.strike.queue = pre ++ e :: (mid ++ e' :: rest) := by simp [split]
  have mem : ∀ x ∈ pre ++ mid ++ rest, x ∈ s.strike.queue := fun x inside => by
    rw [split]
    simp only [List.mem_append, List.mem_cons] at inside ⊢
    tauto
  have notFirst : ∀ x ∈ pre ++ mid ++ rest, x.seq ≠ e.seq := fun x inside => ok.seq_ne splitFirst <| by
    simp only [List.mem_append, List.mem_cons] at inside ⊢
    tauto
  have notSecond : ∀ x ∈ pre ++ mid ++ rest, x.seq ≠ e'.seq := fun x inside => ok.seq_ne split <| by
    simp only [List.mem_append, List.mem_cons] at inside ⊢
    tauto
  have self : e ∈ s.strike.queue := by simp [splitFirst]
  have second : e' ∈ s.strike.queue := by simp [split]
  have inPre : ∀ x ∈ pre, x ∈ pre ++ mid ++ rest := fun x inside => by simp [inside]
  have inMid : ∀ x ∈ mid, x ∈ pre ++ mid ++ rest := fun x inside => by simp [inside]
  have inRest : ∀ x ∈ rest, x ∈ pre ++ mid ++ rest := fun x inside => by simp [inside]
  have before : pre.foldl (entryTurn comesUp) s = s :=
    foldl_resting (fun x inside => rests x (inPre x inside)) fun x inside y stands same =>
      ok.inj (mem x (inPre x inside)) stands same
  have stood : ∀ x ∈ pre ++ mid ++ rest, ∀ y ∈ (takeUp e s).strike.queue, y.seq = x.seq → y = x :=
    fun x inside y stands same => ok.inj (mem x inside) ((QueueFrom.takeUp e s).mem stands
      (same ▸ ok.old (mem x inside)) (same ▸ notFirst x inside)) same
  have between : mid.foldl (entryTurn comesUp) (takeUp e s) = takeUp e s :=
    foldl_resting (fun x inside => (rests x (inMid x inside)).takeUp e) fun x inside => stood x (inMid x inside)
  obtain ⟨-, -, once, -⟩ := id ok
  rw [serveQueue_eq_foldl, split, List.foldl_append, List.foldl_append, before, List.foldl_cons, List.foldl_cons, entryTurn_of_mem once self,
    if_pos up, between, entryTurn_after ok second (ok.seq_ne splitFirst (by simp))]
  by_cases comes : e' ∈ (takeUp e s).strike.queue ∧ comesUp e' (takeUp e s) = true
  · rw [if_pos comes]
    refine foldl_resting (fun x inside => ((rests x (inRest x inside)).takeUp e).takeUp e') fun x inside y stands same => ?_
    have old : y.seq < (takeUp e s).strike.nextSeq :=
      Nat.lt_of_lt_of_le (same ▸ ok.old (mem x (inRest x inside))) (QueueFrom.takeUp e s).next
    exact stood x (inRest x inside) y ((QueueFrom.takeUp e' _).mem stands old (same ▸ notSecond x (inRest x inside))) same
  · rw [if_neg comes]
    exact foldl_resting (fun x inside => (rests x (inRest x inside)).takeUp e) fun x inside => stood x (inRest x inside)

/-! ### Taking up an entry (R133, R134) -/

theorem takeUp_skips {f : StrikeFail} (fails : strikeFail e.bell s = some f)
    (stays : e.substituted = true ∨ (s.bell e.bell).config.policy = .skip) : takeUp e s = skipEntry e f s := by
  unfold takeUp
  rw [fails]
  dsimp only
  split
  next => rfl
  next fresh => rw [stays.resolve_left fresh]

theorem takeUp_substituted {f : StrikeFail} (fails : strikeFail e.bell s = some f) (fresh : e.substituted = false)
    (policy : (s.bell e.bell).config.policy = .substitute b) : takeUp e s =
    takeUp { e with bell := b, substituted := true } (post .strikeSubstituted (e.bell.1 + 1)
      (pair (b.1 + 1) e.origin.code) (replaceEntry { e with bell := b, substituted := true } s)) := by
  generalize rebound : post .strikeSubstituted (e.bell.1 + 1) (pair (b.1 + 1) e.origin.code)
    (replaceEntry { e with bell := b, substituted := true } s) = t
  have first : takeUp e s = match strikeFail b t with
      | none => serveEntry { e with bell := b, substituted := true } t
      | some f => skipEntry { e with bell := b, substituted := true } f t := by
    subst rebound
    unfold takeUp
    rw [fails]
    dsimp only
    rw [if_neg (by rw [fresh]; exact Bool.false_ne_true), policy] <;> rfl
  rw [first]
  cases again : strikeFail b t with
  | none => exact (takeUp_strikeable again).symm
  | some f => exact (takeUp_skips again (.inl rfl)).symm

theorem strikeFail_eq (b : Fin 16) (s : State) : strikeFail b s =
    if (s.bell b).config.hammer = false then some .notFitted
    else if (s.bell b).holder ≠ .free then some .holder
    else if (s.swing b).state ≠ .atRest then some .swing
    else if (s.bell b).config.guardFitted = true ∧ (s.bell b).guard.state ≠ .disengaged then some .guard
    else if s.supply.state = .battery then some .supply else none := by
  unfold strikeFail
  exact if_congr (by rw [Bool.not_eq_true']) rfl (if_congr Iff.rfl rfl (if_congr Iff.rfl rfl (if_congr Iff.rfl rfl
    (if_congr (by rw [Bool.not_eq_true', battery_of_not_onMains]) rfl rfl))))

theorem recovered_iff (b : Fin 16) (s : State) : recovered b s = true ↔
    (s.bell b).pulseEnd = none ∧ ∀ x, (s.bell b).lastStrike = some x → x + (s.bell b).config.recovery ≤ s.now := by
  rw [recovered, Bool.and_eq_true, Option.isNone_iff_eq_none]
  cases last : (s.bell b).lastStrike <;> simp

theorem serveEntry_recovers (ready : recovered e.bell s = false) :
    serveEntry e s = replaceEntry { e with wait := .recovery } s :=
  if_pos (by rw [ready]; rfl)

/-! ### The events (R133, R135, R136) -/

theorem strikeEntryDue_due (free : s.warm.held = none) (inside : e ∈ s.strike.queue) (wait : e.wait = .pending)
    (due : e.due ≤ s.now) : strikeEntryDue s = serveQueue s := by
  refine if_neg ?_
  have found : (dueEntry s).isSome = true := List.find?_isSome.2 ⟨e, inside, by simp [wait, due]⟩
  rw [not_isHeld free, ← Option.not_isSome, found]
  decide

theorem strikeEntryDue_keeps (h : s.warm.held ≠ none ∨ ∀ x ∈ s.strike.queue, x.wait ≠ .pending ∨ s.now < x.due) :
    strikeEntryDue s = s := by
  refine if_pos ?_
  obtain held | rest := h
  · rw [isHeld_of_ne held, Bool.true_or]
  · have none : dueEntry s = none := List.find?_eq_none.2 fun x inside => by
      rcases rest x inside with wait | early
      · simp [wait]
      · simp [Nat.not_le.2 early]
    rw [none, Option.isNone_none, Bool.or_true]

theorem hammerPulseEnd_due {x : Instant} (free : s.warm.held = none) (runs : (s.bell b).pulseEnd = some x)
    (due : x ≤ s.now) : hammerPulseEnd b s = serveQueue
      (if (s.bell b).guard.motion = .waitingPulse then guardBegin b (s.setBell b { s.bell b with pulseEnd := none })
      else s.setBell b { s.bell b with pulseEnd := none }) := by
  unfold hammerPulseEnd
  rw [if_neg (by rw [not_isHeld free, runs, reached_some.2 due]; decide)]
  exact congrArg serveQueue (if_neg (by rw [runs]; exact Bool.false_ne_true))

theorem hammerPulseEnd_keeps (h : s.warm.held ≠ none ∨ (s.bell b).pulseEnd = none ∨
    ∃ x, (s.bell b).pulseEnd = some x ∧ s.now < x) : hammerPulseEnd b s = s := by
  refine if_pos ?_
  obtain held | early := h
  · rw [isHeld_of_ne held, Bool.true_or]
  · rw [reached_eq_false early, Bool.not_false, Bool.or_true]

theorem hammerRecoveryEnd_over (free : s.warm.held = none) (inside : e ∈ s.strike.queue) (wait : e.wait = .recovery)
    (bell : e.bell = b) (ready : recovered b s = true) : hammerRecoveryEnd b s = serveQueue s := by
  refine if_neg ?_
  have isOver : recoveryOver b s = true := by
    rw [recoveryOver, ready, Bool.and_true, List.any_eq_true]
    exact ⟨e, inside, by simp [wait, bell]⟩
  rw [not_isHeld free, isOver]
  decide

theorem hammerRecoveryEnd_keeps (h : s.warm.held ≠ none ∨ (∀ e ∈ s.strike.queue, e.wait ≠ .recovery ∨ e.bell ≠ b) ∨
    recovered b s = false) : hammerRecoveryEnd b s = s := by
  refine if_pos ?_
  obtain held | none | busy := h
  · rw [isHeld_of_ne held, Bool.true_or]
  · have isOver : s.strike.queue.any (fun e => e.wait == .recovery && e.bell == b) = false :=
      List.any_eq_false.2 fun e inside => by simpa [← not_and_or] using none e inside
    rw [recoveryOver, isOver, Bool.false_and, Bool.not_false, Bool.or_true]
  · rw [recoveryOver, busy, Bool.and_false, Bool.not_false, Bool.or_true]

/-- Settles O46, from the turns of a walk of the queue and the ways an entry is taken up. -/
theorem takingUpEntriesAndEndingPulses : Obligations.TakingUpEntriesAndEndingPulses := by
  refine ⟨⟨fun s e free inside wait due => congrArg Host.Outcome.next (strikeEntryDue_due free inside wait due),
      fun s h => congrArg Host.Outcome.next (strikeEntryDue_keeps h), comesUp_iff, fun s => serveQueue_idle,
      fun s e pre rest ok split up rests => serveQueue_one ok split up rests,
      fun s e e' pre mid rest ok split up rests => serveQueue_two ok split up rests,
      fun e s strikeable => ⟨fun ready below => ?begins, fun ready full => ?waits, fun busy => ?recovers⟩,
      fun e f s fails => ⟨takeUp_skips fails, fun b fresh policy => takeUp_substituted fails fresh policy⟩,
      strikeFail_eq, recovered_iff⟩,
    fun b s => ⟨fun x free runs due => congrArg Host.Outcome.next (hammerPulseEnd_due free runs due),
      fun h => congrArg Host.Outcome.next (hammerPulseEnd_keeps h),
      fun e free inside wait bell ready => congrArg Host.Outcome.next (hammerRecoveryEnd_over free inside wait bell ready),
      fun h => congrArg Host.Outcome.next (hammerRecoveryEnd_keeps h)⟩⟩
  case begins => exact (takeUp_strikeable strikeable).trans (serveEntry_begins ready below)
  case waits => exact (takeUp_strikeable strikeable).trans (serveEntry_waits ready full)
  case recovers => exact (takeUp_strikeable strikeable).trans (serveEntry_recovers busy)

end Sys2Proof.Machine
end

section
/-! SUPPORT. How a quarter is decided and how its notes and strokes join the queue (R121, R122, R126 to R131). -/

namespace Sys2Proof.Machine

set_option Elab.async false

variable {s : State} {i : Nat}

/-! ### Many strokes at once (R129, R140) -/

section Many
variable {α : Type} (due : α → Instant) (bell : α → Fin 16) (o : Origin) (number : α → Nat)

/-- Strokes that join the queue one by one. -/
def enqueueAll (xs : List α) (s : State) : State := xs.foldl (fun s x => enqueue (due x) (bell x) o (number x) s) s

/-- The entry of a stroke. -/
def strokeEntry (x : α) (seq : Nat) : Entry where
  due := due x
  bell := bell x
  origin := o
  number := number x
  substituted := false
  seq := seq
  wait := .pending

theorem enqueueAll_nextSeq (xs : List α) (s : State) :
    (enqueueAll due bell o number xs s).strike.nextSeq = s.strike.nextSeq + xs.length := by
  induction xs generalizing s with
  | nil => rfl
  | cons x xs ih => rw [enqueueAll, List.foldl_cons, ← enqueueAll, ih, enqueue_nextSeq, List.length_cons, Nat.add_right_comm,
      Nat.add_assoc]

theorem enqueueAll_length (xs : List α) (s : State) :
    (enqueueAll due bell o number xs s).strike.queue.length = s.strike.queue.length + xs.length := by
  induction xs generalizing s with
  | nil => rfl
  | cons x xs ih => rw [enqueueAll, List.foldl_cons, ← enqueueAll, ih, enqueue_queue, length_insertEntry, List.length_cons,
      Nat.add_right_comm, Nat.add_assoc]

theorem enqueueAll_keeps (xs : List α) {e : Entry} (inside : e ∈ s.strike.queue) :
    e ∈ (enqueueAll due bell o number xs s).strike.queue :=
  foldl_keeps (P := fun t => e ∈ t.strike.queue) (fun t x inside => by
    rw [enqueue_queue]
    exact mem_insertEntry.2 (.inr inside)) xs inside

theorem enqueueAll_mem {xs : List α} {j : Nat} {x : α} (at_ : xs[j]? = some x) (s : State) :
    strokeEntry due bell o number x (s.strike.nextSeq + j) ∈ (enqueueAll due bell o number xs s).strike.queue := by
  induction xs generalizing s j with
  | nil => cases at_
  | cons y xs ih =>
    rw [enqueueAll, List.foldl_cons, ← enqueueAll]
    cases j with
    | zero =>
      cases at_
      refine enqueueAll_keeps due bell o number xs ?_
      rw [enqueue_queue]
      exact mem_insertEntry.2 (.inl rfl)
    | succ j =>
      have later := ih at_ (enqueue (due y) (bell y) o (number y) s)
      rwa [enqueue_nextSeq, Nat.add_assoc, Nat.add_comm 1 j] at later

end Many

theorem enqueueNotes_eq (base : Instant) (o : Origin) (number : Nat) (ns : List (Fin 16 × Nat)) (s : State) :
    enqueueNotes base o number ns s = enqueueAll (fun n => base + n.2) (·.1) o (fun _ => number) ns s := rfl

theorem enqueueStrokes_eq (start : Instant) (pace : Nat) (b : Fin 16) (count : Nat) (s : State) :
    enqueueStrokes start pace b count s =
      enqueueAll (fun k => start + k * pace) (fun _ => b) .hour (fun k => k + 1) (List.range count) s := rfl

/-! ### The entries of a chime (R129) -/

section Chimes
variable {x : Chime} {base : Instant} {done : QuarterOutcome}

/-- The queue with a quarter's notes joined. -/
def noted (x : Chime) (base : Instant) (s : State) : State :=
  match x.tune with
  | some t => enqueueNotes base .quarter (t.1 + 1) (noteTimes (x.notes s)) s
  | none => s

theorem struck_none (bell : named 16 x.hourBell = none) : struck x base s = noted x base s := by
  unfold struck
  rw [bell]
  rfl

theorem struck_some {b : Fin 16} (bell : named 16 x.hourBell = some b) : struck x base s =
    enqueueStrokes (base + 10 * tuneUnits (x.notes s) + x.gap) x.pace b x.strokes (noted x base s) := by
  unfold struck
  rw [bell]
  rfl

theorem noted_length (x : Chime) (base : Instant) (s : State) :
    (noted x base s).strike.queue.length = s.strike.queue.length + (x.notes s).length := by
  unfold noted
  cases tune : x.tune with
  | none =>
    rw [Chime.notes, tune]
    rfl
  | some t =>
    dsimp only
    rw [enqueueNotes_eq, enqueueAll_length, noteTimes_length]

theorem named_of_range {n k : Nat} (least : 1 ≤ k) (most : k ≤ n) : ∃ i : Fin n, named n k = some i :=
  ⟨_, dif_pos ⟨least, most⟩⟩

theorem struck_length (bell : (x.hourBell = 0 ∧ x.strokes = 0) ∨ (1 ≤ x.hourBell ∧ x.hourBell ≤ 16)) :
    (struck x base s).strike.queue.length = s.strike.queue.length + (x.notes s).length + x.strokes := by
  obtain ⟨none, still⟩ | ⟨least, most⟩ := bell
  · rw [struck_none (named_none (.inl none)), noted_length, still, Nat.add_zero]
  · obtain ⟨b, bell⟩ := named_of_range least most
    rw [struck_some bell, enqueueStrokes_eq, enqueueAll_length, noted_length, List.length_range]

theorem struck_keeps {e : Entry} (inside : e ∈ (noted x base s).strike.queue) : e ∈ (struck x base s).strike.queue := by
  cases bell : named 16 x.hourBell with
  | none => rwa [struck_none bell]
  | some b =>
    rw [struck_some bell]
    exact enqueueAll_keeps _ _ _ _ _ inside

/-- Each note of the tune joins the queue at its time. -/
theorem struck_note {t : Fin 24} (tune : x.tune = some t) {n : Fin 16 × Nat} (inside : n ∈ noteTimes (x.notes s)) :
    ∃ e ∈ (struck x base s).strike.queue, e.due = base + n.2 ∧ e.bell = n.1 ∧ e.origin = .quarter ∧ e.number = t.1 + 1 ∧
      e.wait = .pending := by
  obtain ⟨j, at_⟩ := List.mem_iff_getElem?.1 inside
  have joins := enqueueAll_mem (fun n : Fin 16 × Nat => base + n.2) (·.1) .quarter (fun _ => t.1 + 1) at_ s
  refine ⟨strokeEntry (fun n : Fin 16 × Nat => base + n.2) (·.1) .quarter (fun _ => t.1 + 1) n (s.strike.nextSeq + j),
    struck_keeps ?_, rfl, rfl, rfl, rfl, rfl⟩
  unfold noted
  rw [tune]
  exact joins

/-- Each stroke of the hour joins the queue at its time. -/
theorem struck_stroke {b : Fin 16} {j : Nat} (few : j < x.strokes) (bell : x.hourBell = b.1 + 1) :
    ∃ e ∈ (struck x base s).strike.queue, e.due = base + 10 * tuneUnits (x.notes s) + x.gap + j * x.pace ∧ e.bell = b ∧
      e.origin = .hour ∧ e.number = j + 1 ∧ e.wait = .pending ∧ e.substituted = false := by
  rw [struck_some (by rw [bell, named_succ]), enqueueStrokes_eq]
  exact ⟨_, enqueueAll_mem _ _ _ _ (List.getElem?_range few) _, rfl, rfl, rfl, rfl, rfl, rfl⟩

theorem insertChime_full (full : 64 - s.strike.queue.length < (x.notes s).length + x.strokes) : insertChime x base done s =
    post .quarterSkipped 0 (pair 1 ((x.notes s).length + x.strokes)) (setOutcome .queueFull x.index s) :=
  (insertChime_eq x base done s).trans (if_pos full)

theorem insertChime_room (room : (x.notes s).length + x.strokes + s.strike.queue.length ≤ 64) : insertChime x base done s =
    setOutcome done x.index (struck x base s) :=
  (insertChime_eq x base done s).trans (if_neg (by rw [State.room]; omega))

end Chimes

/-! ### The decision of a quarter (R121, R122, R128, R129) -/

theorem decideQuarter_battery (battery : s.supply.state = .battery) :
    decideQuarter i s = post .quarterSkipped 0 (pair 0 0) (setOutcome .supply i s) :=
  if_pos (by rw [battery_of_not_onMains.2 battery]; rfl)

theorem decideQuarter_penitential (mains : s.supply.state = .mains)
    (penitential : s.classOf (s.quarterStart i).day = .penitential) : decideQuarter i s = setOutcome .penitential i s := by
  unfold decideQuarter
  dsimp only
  rw [if_neg (by rw [onMains_iff.2 mains]; decide), penitential]
  rfl

/-- A quarter on mains on a day with a plan is silenced or built. -/
theorem decideQuarter_planned {plan : PlanName} (mains : s.supply.state = .mains)
    (planned : planFor (s.classOf (s.quarterStart i).day) = some plan) : decideQuarter i s =
    if s.strike.silence = true ∨ silenceActive .clock (s.quarterStart i).day (s.quarterStart i).minute s = true then
      setOutcome .silenced i s
    else buildQuarter i (s.quarterStart i) plan s := by
  unfold decideQuarter
  dsimp only
  rw [if_neg (by rw [onMains_iff.2 mains]; decide), planned]
  exact if_congr (by rw [Bool.or_eq_true]) rfl rfl

theorem planFor_some {cls : DayClass} (other : cls ≠ .penitential) : ∃ plan, planFor cls = some plan := by
  cases cls
  case penitential => exact absurd rfl other
  all_goals exact ⟨_, rfl⟩

theorem planFor_eq {cls : DayClass} {plan : PlanName}
    (h : (cls = .ordinary ∧ plan = .ordinary) ∨ ((cls = .feast ∨ cls = .solemn) ∧ plan = .festal)) :
    planFor cls = some plan := by
  obtain ⟨rfl, rfl⟩ | ⟨rfl | rfl, rfl⟩ := h <;> rfl

theorem slotOf_eq (c : Label) : slotOf c = if c.minute % 60 < 15 then 4 else c.minute % 60 / 15 := by
  unfold slotOf
  exact if_congr (by omega) rfl rfl

theorem strokesOf_eq (hour : Nat) : strokesOf hour = (hour + 11) % 12 + 1 := by
  unfold strokesOf
  split <;> omega

/-- The strokes of a quarter (R129). -/
def quarterStrokes (c : Label) (p : Plan) : Nat :=
  if slotOf c = 4 ∧ p.hourBell ≠ 0 then strokesOf (c.minute / 60) else 0

/-- What a quarter strikes with a tune or none. -/
def quarterChime (i : Nat) (c : Label) (p : Plan) (t : Option (Fin 24)) : Chime :=
  { index := i, tune := t, strokes := quarterStrokes c p, hourBell := p.hourBell, gap := p.gap, pace := p.pace }

/-- A quarter without a tune. -/
def bareQuarter (i : Nat) (c : Label) (p : Plan) (s : State) : State :=
  if quarterStrokes c p = 0 then setOutcome .nothingToStrike i s else insertChime (quarterChime i c p none) s.now .chimed s

/-- The hold of a quarter. -/
def quarterHold (i : Nat) (c : Label) (plan : PlanName) (t : Fin 24) (s : State) : Held where
  index := i
  slot := slotOf c
  plan := plan
  tune := t
  strokes := quarterStrokes c (s.plan plan)
  hourBell := (s.plan plan).hourBell
  gap := (s.plan plan).gap
  pace := (s.plan plan).pace
  start := s.now
  expiry := s.now + 60000

section Choice
variable {c : Label} {plan : PlanName} {t : Fin 24}

theorem buildQuarter_hold (chosen : chooseTune plan (slotOf c) (silenceActive .quarters c.day c.minute s) s = .hold t) :
    buildQuarter i c plan s = holdQuarter (quarterHold i c plan t s) s := by
  unfold buildQuarter
  dsimp only
  rw [chosen]
  rfl

theorem buildQuarter_play (chosen : chooseTune plan (slotOf c) (silenceActive .quarters c.day c.minute s) s = .play t) :
    buildQuarter i c plan s = insertChime (quarterChime i c (s.plan plan) (some t)) s.now .chimed s := by
  unfold buildQuarter
  dsimp only
  rw [chosen]
  rfl

theorem buildQuarter_bare (chosen : chooseTune plan (slotOf c) (silenceActive .quarters c.day c.minute s) s = .none) :
    buildQuarter i c plan s = bareQuarter i c (s.plan plan) s := by
  unfold buildQuarter
  dsimp only
  rw [chosen]
  rfl

variable {slot : Nat}

theorem chooseTune_silenced : chooseTune plan slot true s = .none := rfl

theorem chooseTune_unnamed (none : (s.plan plan).field slot = 0) (silenced : Bool) : chooseTune plan slot silenced s = .none := by
  unfold chooseTune
  rw [none, named_none (.inl rfl)]
  exact ite_self _

/-- A tune the plan names is played when VALID. -/
theorem chooseTune_valid (field : (s.plan plan).field slot = t.1 + 1) (valid : (s.tune t).isValid = true) :
    chooseTune plan slot false s = .play t := by
  unfold chooseTune
  rw [if_neg Bool.false_ne_true, field, named_succ]
  dsimp only
  unfold Tune.isValid at valid
  split at valid
  next ns content => rw [content]
  next => cases valid

/-- A tune the plan names holds the quarter while EDITING. -/
theorem chooseTune_editing (field : (s.plan plan).field slot = t.1 + 1) (editing : (s.tune t).isEditing = true) :
    chooseTune plan slot false s = .hold t := by
  unfold chooseTune
  rw [if_neg Bool.false_ne_true, field, named_succ]
  dsimp only
  unfold Tune.isEditing at editing
  split at editing
  next xs x content => rw [content]
  next => cases editing

/-- For an EMPTY tune the festal plan falls back on the ordinary one. -/
theorem chooseTune_empty (field : (s.plan plan).field slot = t.1 + 1) (empty : (s.tune t).content = .empty) :
    chooseTune plan slot false s =
      if plan = .ordinary then .none else ((validField s.ordinary slot s).map TuneChoice.play).getD .none := by
  unfold chooseTune
  rw [if_neg Bool.false_ne_true, field, named_succ]
  dsimp only
  rw [empty]
  cases plan
  · rfl
  · show (match validField s.ordinary slot s with
      | some t' => TuneChoice.play t'
      | none => TuneChoice.none) = _
    cases validField s.ordinary slot s <;> rfl

end Choice

/-- Settles O47, by the supply, the day's class, the silence and the tune of the quarter. -/
theorem howAQuarterIsDecided : Obligations.HowAQuarterIsDecided := by
  refine fun i s => ⟨decideQuarter_battery, decideQuarter_penitential, fun mains other silenced => ?silenced,
    fun plan mains loud clock planned => ?built, fun x base done bell => ⟨insertChime_full, fun room => ?joined⟩⟩
  case silenced =>
    obtain ⟨plan, planned⟩ := planFor_some other
    exact (decideQuarter_planned mains planned).trans (if_pos silenced)
  case joined =>
    rw [insertChime_room room]
    exact ⟨rfl, struck_length bell, fun t tune n inside => struck_note tune inside, fun j b few bell => struck_stroke few bell⟩
  case built =>
    intro p slot strokes bare
    have built := (decideQuarter_planned mains (planFor_eq planned)).trans
      (if_neg (not_or.2 ⟨by rw [loud]; exact Bool.false_ne_true, fun silent => Bool.false_ne_true (clock.symm.trans silent)⟩))
    have slot_eq : slotOf (s.quarterStart i) = slot := slotOf_eq _
    have strokes_eq : quarterStrokes (s.quarterStart i) p = strokes := by
      unfold quarterStrokes
      rw [slot_eq, strokesOf_eq]
      rfl
    have bare_eq : bareQuarter i (s.quarterStart i) p s = bare := by
      unfold bareQuarter quarterChime
      rw [strokes_eq]
    have chime_eq : ∀ t, quarterChime i (s.quarterStart i) p (some t) = {
        index := i, tune := some t, strokes := strokes, hourBell := p.hourBell, gap := p.gap, pace := p.pace } := fun t => by
      unfold quarterChime
      rw [strokes_eq]
    have chosen : ∀ {choice}, silenceActive .quarters (s.quarterStart i).day (s.quarterStart i).minute s = false →
        chooseTune plan slot false s = choice → chooseTune plan (slotOf (s.quarterStart i))
          (silenceActive .quarters (s.quarterStart i).day (s.quarterStart i).minute s) s = choice := by
      rintro _ quiet rfl
      rw [slot_eq, quiet]
    refine ⟨fun t quiet field editing => ?holds, fun t quiet field valid => ?plays, fun plain => ?plain,
      fun t quiet field empty => ?empty⟩
    case holds =>
      refine built.trans ((buildQuarter_hold (chosen quiet (chooseTune_editing field editing))).trans ?_)
      unfold quarterHold
      rw [slot_eq, strokes_eq]
    case plays =>
      rw [built, buildQuarter_play (chosen quiet (chooseTune_valid field valid)), chime_eq]
    case plain =>
      refine built.trans ((buildQuarter_bare ?_).trans bare_eq)
      obtain silent | unnamed := plain
      · rw [show silenceActive .quarters (s.quarterStart i).day (s.quarterStart i).minute s = true from silent]
        rfl
      · rw [slot_eq]
        exact chooseTune_unnamed unnamed _
    case empty =>
      have choice := chosen quiet (chooseTune_empty field empty)
      split
      next ordinary =>
        rw [if_pos ordinary] at choice
        exact built.trans ((buildQuarter_bare choice).trans bare_eq)
      next festal =>
        rw [if_neg festal] at choice
        cases fallback : validField s.ordinary slot s with
        | none =>
          rw [fallback] at choice
          exact built.trans ((buildQuarter_bare choice).trans bare_eq)
        | some t' =>
          rw [fallback] at choice
          exact built.trans ((buildQuarter_play choice).trans (by rw [chime_eq]))

end Sys2Proof.Machine
end

section
/-! SUPPORT. The quarter marker moves only on to a newer quarter (R126, R127). -/

namespace Sys2Proof.Machine

set_option Elab.async false

variable {s t : State} {m : Option Nat}

theorem newerQuarter_self (i : Nat) : newerQuarter i (some i) = false := by
  have still : circleDiff quarterCircle i i = 0 := by
    have whole : (i % quarterCircle + (quarterCircle - i % quarterCircle)) % quarterCircle = 0 := by
      rw [Nat.add_sub_of_le (Nat.le_of_lt (Nat.mod_lt i (by decide))), Nat.mod_self]
    unfold circleDiff
    rw [whole]
    rfl
  rw [newerQuarter, still]
  rfl

/-! ### What leaves the marker alone -/

theorem insertChime_marker (c : Chime) (base : Instant) (done : QuarterOutcome) (s : State) :
    (insertChime c base done s).strike.marker = s.strike.marker := by
  rw [insertChime_eq]
  split
  · exact (post_frame _ _ _ _).marker
  · exact (struck_frame c base s).marker

theorem endHeldFallback_marker (base : Instant) (s : State) : (endHeldFallback base s).strike.marker = s.strike.marker := by
  unfold endHeldFallback
  split
  · rfl
  · exact insertChime_marker ..

theorem endHeldTune_marker (base : Instant) (s : State) : (endHeldTune base s).strike.marker = s.strike.marker := by
  unfold endHeldTune
  split
  · rfl
  · exact insertChime_marker ..

theorem tuneHandoff_marker (t : Fin 24) (s : State) : (tuneHandoff t s).strike.marker = s.strike.marker := by
  unfold tuneHandoff
  split
  · rfl
  · split
    · split
      · exact endHeldTune_marker ..
      · exact endHeldFallback_marker ..
      · rfl
    · rfl

theorem changeTune_marker (t : Fin 24) (r : Tune) (s : State) : (changeTune t r s).strike.marker = s.strike.marker :=
  tuneHandoff_marker t (s.setTune t r)

theorem abortEdit_marker (t : Fin 24) (s : State) : (abortEdit t s).strike.marker = s.strike.marker := by
  unfold abortEdit
  split
  · exact changeTune_marker ..
  · rfl

theorem abortEdits_marker (s : State) : (abortEdits s).strike.marker = s.strike.marker := by
  unfold abortEdits
  generalize allTunes = ts
  exact foldl_keeps (P := fun u => u.strike.marker = s.strike.marker) (fun u t kept => (abortEdit_marker t u).trans kept) ts rfl

theorem restartEdit_marker (t : Fin 24) (s : State) : (restartEdit t s).strike.marker = s.strike.marker :=
  (restartEdit_frame s t).marker

theorem holdQuarter_marker (h : Held) (s : State) : (holdQuarter h s).strike.marker = s.strike.marker :=
  (post_frame _ _ _ _).marker.trans (endHeldFallback_marker s.now s)

theorem buildQuarter_marker (index : Nat) (c : Label) (plan : PlanName) (s : State) :
    (buildQuarter index c plan s).strike.marker = s.strike.marker := by
  cases chosen : chooseTune plan (slotOf c) (silenceActive .quarters c.day c.minute s) s with
  | hold t =>
    rw [buildQuarter_hold chosen]
    exact holdQuarter_marker ..
  | play t =>
    rw [buildQuarter_play chosen]
    exact insertChime_marker ..
  | none =>
    rw [buildQuarter_bare chosen, bareQuarter]
    split
    · rfl
    · exact insertChime_marker ..

theorem decideQuarter_marker (index : Nat) (s : State) : (decideQuarter index s).strike.marker = s.strike.marker := by
  unfold decideQuarter
  dsimp only
  split
  · exact (post_frame _ _ _ _).marker
  · split
    · rfl
    · split
      · rfl
      · exact buildQuarter_marker ..

theorem dropHeld_marker (s : State) : (dropHeld s).strike.marker = s.strike.marker := by
  unfold dropHeld
  split
  · rfl
  · exact (post_frame _ _ _ _).marker

theorem strikeSupplyLost_marker (s : State) : (strikeSupplyLost s).strike.marker = s.strike.marker := by
  unfold strikeSupplyLost
  rw [(takeUpEach_frame _ _).marker, dropHeld_marker]
  exact ((Frame.foldl (fun u b => releaseHammer_frame u b) _ _).mono (by decide) |>.trans
    ((Frame.foldl (fun u n => endToll_frame u n .supply) _ _).mono (by decide)) :
      Frame [.guards, .hammers, .swings, .sessions, .queue, .tolls, .notices, .ports] _ _).marker

theorem mainsLost_marker (s : State) : (mainsLost s).strike.marker = s.strike.marker := by
  unfold mainsLost
  split
  · rfl
  · have told := ((post_frame { s with supply := { s.supply with
        state := .battery, debounce := none, since := s.now, reported := false } } .mainsLost 0 (supplySeconds s)).mono
        (by decide)).trans ((reportLow_frame _).mono (by decide)) (ps := [.supply, .notices, .ports])
    dsimp only
    split
    · exact told.marker
    · unfold blocksLost
      rw [(lightsSupplyLost_frame _).marker, strikeSupplyLost_marker, (swingsSupplyLost_frame _).marker,
        (Frame.foldl (fun u b => guardHalt_frame u b) _ _).marker, (dialsSupplyLost_frame _).marker]
      exact told.marker

theorem warmResetEntry_marker (s : State) : (warmResetEntry s).strike.marker = s.strike.marker := by
  unfold warmResetEntry
  split
  · rfl
  · unfold enterWarmReset
    dsimp only
    rw [abortEdits_marker]
    rfl

theorem heldQuarterExpiry_marker (s : State) : (heldQuarterExpiry s).strike.marker = s.strike.marker := by
  unfold heldQuarterExpiry
  split
  · rfl
  · split
    · rfl
    · exact endHeldFallback_marker ..

theorem tuneEditTimeout_marker (t : Fin 24) (s : State) : (tuneEditTimeout t s).strike.marker = s.strike.marker := by
  unfold tuneEditTimeout
  split
  · split
    · rfl
    · exact abortEdit_marker ..
  · rfl

/-! ### The requests -/

theorem actPortReset_marker (p : Port) (s : State) : (actPortReset p s).state.strike.marker = s.strike.marker := by
  simp only [actPortReset, accept_state]
  split
  · exact abortEdits_marker _
  · rfl

theorem actTuneOpen_marker (tune length revision : Nat) (s : State) :
    (actTuneOpen tune length revision s).state.strike.marker = s.strike.marker := by
  unfold actTuneOpen
  split
  · rfl
  next t _ =>
    dsimp only
    split
    · exact restartEdit_marker t s
    · split
      · exact restartEdit_marker t s
      · split
        · exact restartEdit_marker t s
        · split
          · rfl
          · exact changeTune_marker t _ s

theorem actTuneClose_marker (tune : Nat) (s : State) : (actTuneClose tune s).state.strike.marker = s.strike.marker := by
  unfold actTuneClose
  split
  · rfl
  next t _ =>
    dsimp only
    split
    · split
      · exact restartEdit_marker t s
      · exact changeTune_marker t _ s
    · rfl

theorem actTuneAbort_marker (tune : Nat) (s : State) : (actTuneAbort tune s).state.strike.marker = s.strike.marker := by
  unfold actTuneAbort
  split
  · rfl
  · split
    · exact abortEdit_marker ..
    · rfl

theorem actTuneDelete_marker (tune revision : Nat) (s : State) :
    (actTuneDelete tune revision s).state.strike.marker = s.strike.marker := by
  unfold actTuneDelete
  split
  · rfl
  next t _ =>
    dsimp only
    split
    · exact restartEdit_marker t s
    · split
      · exact restartEdit_marker t s
      · split
        · rfl
        · exact changeTune_marker t _ s

/-- No request moves the marker. -/
theorem after_request_marker {i : Instr} {x : Req × Port × Byte} (spelled : i.request = some x)
    (ok : s.strike.marker = m) : (after i s).strike.marker = m := by
  have port (p : Port) (r : LinkPort) (u : State) (kept : u.strike.marker = m) : (u.setPort p r).strike.marker = m := kept
  have kept {p : Port} {tag : Byte} {r : Req} {act : State → Reply} (acts : (act s).state.strike.marker = s.strike.marker) :
      (request r p tag act s).strike.marker = m :=
    request_keeps (P := fun u => u.strike.marker = m) (port p) (fun ok => acts.trans ok) ok
  by_cases writer : Part.quarters ∈ writes i
  · cases i with
    | portReset p tag => exact kept (actPortReset_marker p s)
    | tuneOpen p tag tune length revision => exact kept (actTuneOpen_marker tune length revision s)
    | tuneClose p tag tune => exact kept (actTuneClose_marker tune s)
    | tuneAbort p tag tune => exact kept (actTuneAbort_marker tune s)
    | tuneDelete p tag tune revision => exact kept (actTuneDelete_marker tune revision s)
    | _ => first | (simp [writes] at writer; done) | cases spelled
  · exact ((after_frame i s).marker writer).trans ok

/-! ### A move of the marker (R126, R127) -/

/-- The marker is the one given, or has moved on to a newer quarter, `i` where it is named. -/
def Marked (m : Option Nat) (at_ : Nat → Prop) (t : State) : Prop :=
  t.strike.marker = m ∨ ∃ i, at_ i ∧ t.strike.marker = some i ∧ newerQuarter i m = true

/-- It may have moved to any newer quarter. -/
abbrev MarkedOn (m : Option Nat) (t : State) : Prop := Marked m (fun _ => True) t

theorem Marked.of_marker {at_ : Nat → Prop} (ok : Marked m at_ s) (same : t.strike.marker = s.strike.marker) : Marked m at_ t := by
  rwa [Marked, same]

theorem Marked.frame {at_ : Nat → Prop} {ps : List Part} (ok : Marked m at_ s) (f : Frame ps s t)
    (hq : Part.quarters ∉ ps := by decide) : Marked m at_ t := ok.of_marker (f.marker hq)

theorem quarterBoundary_marked {l : Label} (ok : Marked m (· = quarterIndex l) s) :
    Marked m (· = quarterIndex l) (quarterBoundary l s) := by
  unfold quarterBoundary
  split
  next moves =>
    obtain kept | ⟨i, rfl, moved, newer⟩ := ok
    · exact .inr ⟨_, rfl, decideQuarter_marker _ _, kept ▸ moves.2⟩
    · rw [moved, newerQuarter_self] at moves
      exact absurd moves.2 Bool.false_ne_true
  next => exact ok

theorem quarterStep_marked (delta : Int) {l : Label} (ok : Marked m (· = quarterIndex l) s) :
    Marked m (· = quarterIndex l) (quarterStep delta l s) := by
  unfold quarterStep
  dsimp only
  split
  next => exact ok
  next moves =>
    have newer : newerQuarter (quarterIndex l) s.strike.marker = true := by
      simpa using (not_or.1 moves).2
    obtain kept | ⟨i, rfl, moved, -⟩ := ok
    · have on : newerQuarter (quarterIndex l) m = true := kept ▸ newer
      split
      · exact .inr ⟨_, rfl, decideQuarter_marker _ _, on⟩
      · exact .inr ⟨_, rfl, (post_frame _ _ _ _).marker, on⟩
    · rw [moved, newerQuarter_self] at newer
      exact absurd newer Bool.false_ne_true

theorem strikeBoundary_marked (delta : Option Int) (l : Label) (kept : s.strike.marker = m) : MarkedOn m (strikeBoundary delta l s) := by
  have ends : Marked m (· = quarterIndex l) (strikeBoundary delta l s) := by
    unfold strikeBoundary
    split
    · exact quarterBoundary_marked (.inl kept)
    · split
      · exact quarterStep_marked _ (quarterBoundary_marked (.inl kept))
      · exact quarterBoundary_marked (quarterStep_marked _ (.inl kept))
  exact ends.imp_right fun ⟨i, _, moved⟩ => ⟨i, trivial, moved⟩

/-! ### Boundaries, relabels and pulses move it once -/

theorem blocksBoundary_marked (old : Option Label) (delta : Option Int) (applied valid : Bool) (kept : s.strike.marker = m) :
    MarkedOn m (blocksBoundary old delta applied valid s) := by
  have dials := (dialsBoundary_frame s (delta.isSome || applied || valid)).marker.trans kept
  unfold blocksBoundary
  dsimp only
  refine Marked.frame ?_ (lightsBoundary_frame _ _)
  refine Marked.frame ?_ (calendarCompare_frame _ _ _)
  split
  · exact strikeBoundary_marked _ _ dials
  · exact .inl dials

theorem newSecondTail_marked (old : Option Label) (delta : Option Int) (kept : s.strike.marker = m) :
    MarkedOn m (newSecondTail old delta s) := by
  have applied : (if changeDue s then applyOffset s else s).strike.marker = m := by
    split
    · exact (applyOffset_frame s).marker.trans kept
    · exact kept
  unfold newSecondTail
  dsimp only
  generalize (if changeDue s then applyOffset s else s) = u at *
  have dated (valid : Bool) : (dateChange old valid u).strike.marker = m := (dateChange_frame u old valid).marker.trans applied
  split
  · exact .inl (dated _)
  · exact blocksBoundary_marked _ _ _ _ (dated _)

theorem finishSecond_marked (old cmp : Option Label) (kept : s.strike.marker = m) : MarkedOn m (finishSecond old cmp s) :=
  newSecondTail_marked _ _ ((postStep_frame s _).marker.trans kept)

theorem boundary_marked (kept : s.strike.marker = m) : MarkedOn m (boundary s) :=
  finishSecond_marked _ _ ((beginSecond_frame s _).marker.trans kept)

theorem localSecondBoundary_marked (kept : s.strike.marker = m) : MarkedOn m (localSecondBoundary s) := by
  unfold localSecondBoundary
  split
  · exact .inl kept
  · exact boundary_marked kept

theorem offsetChangeApplied_marked (kept : s.strike.marker = m) : MarkedOn m (offsetChangeApplied s) := by
  unfold offsetChangeApplied
  split
  · exact boundary_marked kept
  · exact .inl kept

theorem relabel_marked (delta : Int) (l : Label) (kept : s.strike.marker = m) : MarkedOn m (relabel delta l s) := by
  have before : (dialsFull (dateChange s.civilNow false (postStep (some delta)
      (s.setTb { s.tb with label := some l })))).strike.marker = m :=
    (dialsFull_frame _).marker.trans ((dateChange_frame _ _ _).marker.trans ((postStep_frame _ _).marker.trans kept))
  have stepped : MarkedOn m _ :=
    (quarterStep_marked delta (l := l) (.inl before)).imp_right fun ⟨i, _, moved⟩ => ⟨i, trivial, moved⟩
  exact Marked.frame (Marked.frame stepped (calendarCompare_frame _ _ _)) (relabelWindows_frame _)

theorem TimePasses.marker (h : TimePasses s t) (kept : s.strike.marker = m) : t.strike.marker = m := h.frame.marker.trans kept

theorem labelCheck_marked (msg implied : Label) (kept : s.strike.marker = m) : MarkedOn m (labelCheck msg implied s) := by
  unfold labelCheck
  dsimp only
  split
  · exact .inl ((TimePasses.matchLabels s).marker kept)
  · have counted := (TimePasses.countMismatch s (msg.diff implied)).marker kept
    split
    · split
      · exact relabel_marked _ _ ((TimePasses.matchLabels _).marker counted)
      · exact .inl counted
    · exact .inl ((TimePasses.setRef _ _).marker counted)

theorem checkPulse_marked (e : Int) (msg : Option Label) (kept : s.strike.marker = m) : MarkedOn m (checkPulse e msg s) := by
  unfold checkPulse
  split
  · exact labelCheck_marked _ _ kept
  · exact .inl kept

theorem phaseStep_marked (e : Int) (msg : Option Label) (kept : s.strike.marker = m) : MarkedOn m (phaseStep e msg s) := by
  have begun (l : Option Label) : (beginSecond l (s.setTb { s.tb with slew := 0, good := 0 })).strike.marker = m :=
    (beginSecond_frame _ l).marker.trans kept
  cases msg with
  | none => exact Marked.frame (finishSecond_marked _ _ (begun _)) (stepRelabel_frame _ _ _)
  | some l =>
    exact Marked.frame (finishSecond_marked _ _ ((TimePasses.stepCheck _ l).marker (begun _))) (stepRelabel_frame _ _ _)

theorem acquirePulse_marked (e : Int) (msg : Option Label) (kept : s.strike.marker = m) : MarkedOn m (acquirePulse e msg s) := by
  have locks (good : Nat) {u : State} (kept : u.strike.marker = m) :
      (if 3 ≤ good then setDisc .locked (u.setTb { u.tb with outlier := 0 }) else u).strike.marker = m := by
    split
    · exact (setDisc_frame _ _).marker.trans kept
    · exact kept
  simp only [acquirePulse]
  split
  · exact phaseStep_marked e msg kept
  · exact checkPulse_marked e msg (locks _ kept)

theorem lockedPulse_marked (e : Int) (msg : Option Label) (kept : s.strike.marker = m) : MarkedOn m (lockedPulse e msg s) := by
  simp only [lockedPulse]
  split
  · split
    · exact .inl ((setDisc_frame _ _).marker.trans kept)
    · exact .inl kept
  · exact checkPulse_marked e msg kept

theorem unsetPulse_marked (e : Int) (msg : Option Label) (kept : s.strike.marker = m) : MarkedOn m (unsetPulse e msg s) := by
  simp only [unsetPulse]
  split
  · split
    · exact .inl kept
    · exact phaseStep_marked e none kept
  · split
    · exact .inl ((TimePasses.firstLabel _ _ e).marker kept)
    · exact finishSecond_marked _ _ (((TimePasses.beginSecond _ none).trans (.firstLabel _ _ e)).marker kept)

theorem takenPulse_marked (msg : Option Label) (kept : s.strike.marker = m) : MarkedOn m (takenPulse msg s) := by
  unfold takenPulse
  dsimp only
  split
  · exact unsetPulse_marked _ msg kept
  · exact acquirePulse_marked _ msg ((setDisc_frame _ _).marker.trans kept)
  · exact acquirePulse_marked _ msg ((setDisc_frame _ _).marker.trans kept)
  · exact acquirePulse_marked _ msg kept
  · exact lockedPulse_marked _ msg kept

theorem refPulse_marked (kept : s.strike.marker = m) : MarkedOn m (refPulse s) := by
  rcases refPulse_cases s with ignored | alone | ⟨msg, -, paired⟩
  · rw [ignored]
    exact .inl kept
  · rw [alone]
    exact takenPulse_marked none kept
  · rw [paired]
    exact takenPulse_marked _ ((consumeMessage_frame s msg).marker.trans kept)

/-- Every command but a cold start leaves the marker or moves it on to a newer quarter. -/
theorem after_marked {c : Instr} (warm : c ≠ .coldStart) (kept : s.strike.marker = m) : MarkedOn m (after c s) := by
  by_cases writer : Part.quarters ∈ writes c
  · cases c with
    | coldStart => exact absurd rfl warm
    | localSecondBoundary => exact localSecondBoundary_marked kept
    | offsetChangeApplied => exact offsetChangeApplied_marked kept
    | refPulse => exact refPulse_marked kept
    | heldQuarterExpiry => exact .inl ((heldQuarterExpiry_marker s).trans kept)
    | tuneEditTimeout t => exact .inl ((tuneEditTimeout_marker t s).trans kept)
    | mainsLost => exact .inl ((mainsLost_marker s).trans kept)
    | warmResetEntry => exact .inl ((warmResetEntry_marker s).trans kept)
    | frameComplete p bytes =>
      exact .inl (frameComplete_keeps (P := fun u => u.strike.marker = m) (fun _ _ => id)
        (fun _ _ _ _ spelled ok => after_request_marker spelled ok) bytes s kept)
    | _ => first | (simp [writes] at writer; done) | exact .inl (after_request_marker rfl kept)
  · exact .inl (((after_frame c s).marker writer).trans kept)

/-! ### The held quarter (R130, R131) -/

theorem heldQuarterExpiry_due {h : Held} (free : s.warm.held = none) (held : s.strike.held = some h)
    (due : h.expiry ≤ s.now) : heldQuarterExpiry s = endHeldFallback h.expiry s := by
  unfold heldQuarterExpiry
  rw [held]
  exact if_neg (by rw [not_isHeld free, decide_eq_false (Nat.not_lt.2 due)]; decide)

theorem heldQuarterExpiry_keeps (k : s.warm.held ≠ none ∨ s.strike.held = none ∨
    ∃ h, s.strike.held = some h ∧ s.now < h.expiry) : heldQuarterExpiry s = s := by
  unfold heldQuarterExpiry
  split
  next => rfl
  next h held =>
    refine if_pos ?_
    obtain inReset | none | ⟨x, same, early⟩ := k
    · rw [isHeld_of_ne inReset, Bool.true_or]
    · cases held.symm.trans none
    · cases held.symm.trans same
      rw [decide_eq_true early, Bool.or_true]

theorem endHeldFallback_held {h : Held} (base : Instant) (held : s.strike.held = some h) : endHeldFallback base s =
    setHeld none (insertChime (h.chime (validField (s.plan h.plan.other) h.slot s)) base .fallback s) := by
  unfold endHeldFallback
  rw [held]

theorem endHeldTune_held {h : Held} (base : Instant) (held : s.strike.held = some h) :
    endHeldTune base s = setHeld none (insertChime (h.chime (some h.tune)) base .chimed s) := by
  unfold endHeldTune
  rw [held]

theorem tuneHandoff_valid {h : Held} {k : Fin 24} {ns : List Note} (held : s.strike.held = some h) (tune : h.tune = k)
    (valid : (s.tune k).content = .valid ns) :
    tuneHandoff k s = setHeld none (insertChime (h.chime (some k)) s.now .chimed s) := by
  unfold tuneHandoff
  rw [held]
  dsimp only
  rw [if_pos tune, valid]
  dsimp only
  rw [endHeldTune_held _ held, tune]

theorem holdQuarter_free (h : Held) (none : s.strike.held = none) : holdQuarter h s =
    post .quarterHeld (h.tune.1 + 1) (pair 0 h.slot) (setOutcome .held h.index (setHeld (some h) s)) := by
  have kept : endHeldFallback s.now s = s := by
    unfold endHeldFallback
    rw [none]
  rw [holdQuarter, kept]

/-! ### Steps and boundaries (R126, R127) -/

theorem quarterStep_keeps {delta : Int} {l : Label} (h : delta ≤ 0 ∨ newerQuarter (quarterIndex l) s.strike.marker = false) :
    quarterStep delta l s = s :=
  if_pos (h.imp_right fun old => by rw [old]; rfl)

theorem quarterStep_newer {delta : Int} {l : Label} (onward : 1 ≤ delta)
    (newer : newerQuarter (quarterIndex l) s.strike.marker = true) : quarterStep delta l s =
    if delta ≤ 120 then decideQuarter (quarterIndex l) (setMarker (quarterIndex l) s)
    else quarterSkipped .step 0 (setOutcome .stepPassed (quarterIndex l) (setMarker (quarterIndex l) s)) := by
  refine if_neg (not_or.2 ⟨by omega, ?_⟩)
  rw [newer]
  exact Bool.false_ne_true

theorem quarterBoundary_keeps {l : Label} (h : l.sec % 900 ≠ 0 ∨ newerQuarter (quarterIndex l) s.strike.marker = false) :
    quarterBoundary l s = s := by
  refine if_neg fun moves => ?_
  obtain start | old := h
  · exact start moves.1
  · exact Bool.false_ne_true (old.symm.trans moves.2)

theorem strikeBoundary_some (delta : Int) (l : Label) (s : State) :
    strikeBoundary (some delta) l s = quarterBoundary l (quarterStep delta l s) ∨
    strikeBoundary (some delta) l s = quarterStep delta l (quarterBoundary l s) := by
  unfold strikeBoundary
  dsimp only
  split
  · exact .inr rfl
  · exact .inl rfl

theorem strikeBoundary_short {delta : Int} {l : Label} (h : delta ≤ 120 ∨ l.sec % 900 ≠ 0) :
    strikeBoundary (some delta) l s = quarterBoundary l (quarterStep delta l s) := by
  refine if_neg fun long => ?_
  obtain ⟨far, start, -⟩ := long
  exact h.elim (fun near => by omega) fun other => other start

/-- Settles O48, from the ways a hold ends and the moves of the marker. -/
theorem heldQuartersAndTheQuarterMarker : Obligations.HeldQuartersAndTheQuarterMarker := by
  refine ⟨fun s h free held due => ?expires, fun s h => congrArg Host.Outcome.next (heldQuarterExpiry_keeps h),
    fun k s h ns => tuneHandoff_valid, fun h s => holdQuarter_free h, fun l s start newer => if_pos ⟨start, newer⟩,
    fun delta l s => ⟨quarterStep_keeps, fun onward near newer => ?near, fun far newer => ?far⟩,
    fun l s => ⟨rfl, quarterBoundary_keeps, fun delta => strikeBoundary_short, fun delta => strikeBoundary_some delta l s⟩,
    fun c s t warm ran => ?marker⟩
  case expires => exact congrArg Host.Outcome.next ((heldQuarterExpiry_due free held due).trans (endHeldFallback_held _ held))
  case near => exact (quarterStep_newer onward newer).trans (if_pos near)
  case far => exact (quarterStep_newer (by omega) newer).trans (if_neg (by omega))
  case marker =>
    rw [← after_eq_of_exec ran]
    exact (after_marked warm rfl).imp_right fun ⟨i, _, moved⟩ => ⟨i, moved⟩

end Sys2Proof.Machine
end

section
/-! SUPPORT. Tolls and panel strikes (R138 to R140). -/

namespace Sys2Proof.Machine

set_option Elab.async false

variable {s : State} {b : Fin 16} {n : Fin 4} {p : Port}

/-! ### Panel strikes (R140) -/

theorem enqueuePanel_eq (b : Fin 16) (count interval : Nat) (s : State) : enqueuePanel b count interval s =
    enqueueAll (fun k => s.now + k * interval) (fun _ => b) .panel (fun k => k + 1) (List.range count) s := by
  have steady : ∀ (ks : List Nat) (u : State), u.now = s.now →
      ks.foldl (fun u k => enqueue (u.now + k * interval) b .panel (k + 1) u) u =
        enqueueAll (fun k => s.now + k * interval) (fun _ => b) .panel (fun k => k + 1) ks u := by
    intro ks
    induction ks with
    | nil => exact fun _ _ => rfl
    | cons k ks ih =>
      intro u now
      rw [List.foldl_cons, now]
      exact ih _ now
  exact steady _ s rfl

theorem enqueueAll_frame {α : Type} (due : α → Instant) (bell : α → Fin 16) (o : Origin) (number : α → Nat) (xs : List α)
    (s : State) : Frame [.queue] s (enqueueAll due bell o number xs s) :=
  Frame.foldl (fun s x => enqueue_frame s (due x) (bell x) o (number x)) xs s

theorem actStrike_eq (b : Fin 16) (count interval : Nat) (s : State) : actStrike (b.1 + 1) count interval s =
    if count < 1 ∨ 12 < count then refuse .range s
    else if (s.bell b).config.hammer = false then refuse .notFitted s
    else if s.supply.state = .battery then refuse .state s
    else if 64 - s.strike.queue.length < count then refuse .full s
    else accept (be2 (clamp 500 10000 interval) ++ beTime s.now) (enqueuePanel b count (clamp 500 10000 interval) s) := by
  unfold actStrike
  rw [named_succ]
  exact if_congr Iff.rfl rfl (if_congr (by rw [Bool.not_eq_true']) rfl
    (if_congr (by rw [Bool.not_eq_true', battery_of_not_onMains]) rfl rfl))

theorem actStrike_inRange {count interval : Nat} (least : 1 ≤ count) (most : count ≤ 12) :
    actStrike (b.1 + 1) count interval s =
    if (s.bell b).config.hammer = false then refuse .notFitted s
    else if s.supply.state = .battery then refuse .state s
    else if 64 - s.strike.queue.length < count then refuse .full s
    else accept (be2 (clamp 500 10000 interval) ++ beTime s.now) (enqueuePanel b count (clamp 500 10000 interval) s) :=
  (actStrike_eq b count interval s).trans (if_neg (by omega))

theorem actStrike_ready {count interval : Nat} (least : 1 ≤ count) (most : count ≤ 12)
    (hammer : (s.bell b).config.hammer = true) (mains : s.supply.state = .mains) : actStrike (b.1 + 1) count interval s =
    if 64 - s.strike.queue.length < count then refuse .full s
    else accept (be2 (clamp 500 10000 interval) ++ beTime s.now) (enqueuePanel b count (clamp 500 10000 interval) s) :=
  (actStrike_inRange least most).trans ((if_neg (by rw [hammer]; decide)).trans (if_neg (by rw [mains]; decide)))

/-! ### The toll of a bell (R138, R139) -/

/-- The first toll of a bell. -/
def tollOf (b : Fin 16) (s : State) : Option (Fin 4) := allFour.find? (fun n => (s.toll n).any (fun t => t.bell == b))

theorem tollOf_none (none : ∀ k x, s.toll k = some x → x.bell ≠ b) : tollOf b s = .none := by
  refine allFour_none fun k => ?_
  cases toll : s.toll k with
  | none => rfl
  | some x => exact beq_eq_false_iff_ne.2 (none k x toll)

theorem tollOf_some {x : Toll} (toll : s.toll n = some x) (bell : x.bell = b)
    (only : ∀ k y, s.toll k = some y → y.bell = b → k = n) : tollOf b s = some n := by
  refine allFour_lowest (q := fun n => (s.toll n).any (fun t => t.bell == b)) ?_ fun k before => ?_
  · rw [toll]
    exact beq_iff_eq.2 bell
  · cases lower : s.toll k with
    | none => rfl
    | some y => exact beq_eq_false_iff_ne.2 fun same => absurd (only k y lower same) (ne_of_lt before)

section Start
variable {interval count minutes : Nat} {o : TollOrigin}

/-- The count a toll begins with; 0 stands for none. -/
def tollCount (count : Nat) : Option Nat := if count = 0 then none else some count
/-- The end of a toll; 0 minutes stand for none. -/
def tollEnd (minutes : Nat) (s : State) : Option Instant := if minutes = 0 then none else some (s.now + minutes * 60000)

theorem startToll_supply (battery : s.supply.state = .battery) : startToll b interval count minutes o s = (s, .supply) :=
  if_pos (by rw [battery_of_not_onMains.2 battery]; rfl)

theorem startToll_noHammer (mains : s.supply.state = .mains) (none : (s.bell b).config.hammer = false) :
    startToll b interval count minutes o s = (s, .noHammer) :=
  (if_neg (by rw [onMains_iff.2 mains]; decide)).trans (if_pos (by rw [none]; rfl))

theorem startToll_replaces {x : Toll} (mains : s.supply.state = .mains) (hammer : (s.bell b).config.hammer = true)
    (own : tollOf b s = some n) (toll : s.toll n = some x) : startToll b interval count minutes o s =
    (s.setToll n (some { x with
      interval := interval, remaining := tollCount count, endTime := tollEnd minutes s, origin := o }), .started n) := by
  refine (if_neg (by rw [onMains_iff.2 mains]; decide)).trans ((if_neg (by rw [hammer]; decide)).trans ?_)
  rw [show allFour.find? (fun n => (s.toll n).any (fun t => t.bell == b)) = some n from own]
  dsimp only
  rw [toll]
  rfl

theorem startToll_full (mains : s.supply.state = .mains) (hammer : (s.bell b).config.hammer = true)
    (fresh : tollOf b s = none) (full : (∀ k, s.toll k ≠ none) ∨ 64 ≤ s.strike.queue.length) :
    startToll b interval count minutes o s = (s, .full) := by
  refine (if_neg (by rw [onMains_iff.2 mains]; decide)).trans ((if_neg (by rw [hammer]; decide)).trans ?_)
  rw [show allFour.find? (fun n => (s.toll n).any (fun t => t.bell == b)) = none from fresh]
  dsimp only
  split
  next => rfl
  next k free =>
    refine if_pos (Nat.sub_eq_zero_of_le (full.resolve_left fun all => all k ?_))
    exact Option.isNone_iff_eq_none.1 (List.find?_some (p := fun n : Fin 4 => (s.toll n).isNone) free)

theorem startToll_starts (mains : s.supply.state = .mains) (hammer : (s.bell b).config.hammer = true)
    (fresh : tollOf b s = none) (free : s.toll n = none) (lowest : ∀ k, k < n → s.toll k ≠ none)
    (room : s.strike.queue.length < 64) : startToll b interval count minutes o s =
    (enqueue s.now b .toll (n.1 + 1) (s.setToll n (some {
      bell := b, interval := interval, remaining := tollCount count, endTime := tollEnd minutes s, origin := o, begun := 0 })),
      .started n) := by
  refine (if_neg (by rw [onMains_iff.2 mains]; decide)).trans ((if_neg (by rw [hammer]; decide)).trans ?_)
  rw [show allFour.find? (fun n => (s.toll n).any (fun t => t.bell == b)) = none from fresh,
    allFour_lowest (q := fun n => (s.toll n).isNone) (by rw [free]; rfl) fun k before => by
      rw [← Option.not_isSome, Option.isSome_iff_ne_none.2 (lowest k before)]
      rfl]
  exact if_neg (Nat.sub_ne_zero_of_lt room)

/-- The reply of TOLL_START by the outcome of the start. -/
theorem actTollStart_eq (few : count ≤ 999) : actTollStart p (b.1 + 1) interval count minutes s =
    match startToll b (clamp 4 60 interval) count (min 240 minutes) (.port p) s with
    | (_, .supply) => refuse .state s
    | (_, .noHammer) => refuse .notFitted s
    | (_, .full) => refuse .full s
    | (t, .started n) => accept (be1 (n.1 + 1) ++ be1 (b.1 + 1) ++ be1 (clamp 4 60 interval) ++ be2 count ++
        be1 (min 240 minutes)) t := by
  unfold actTollStart
  rw [named_succ]
  exact if_neg (Nat.not_lt.2 few)

theorem actTollStart_range {bell : Nat} (outside : bell = 0 ∨ 16 < bell ∨ 999 < count) :
    actTollStart p bell interval count minutes s = refuse .range s := by
  unfold actTollStart
  split
  next => rfl
  next b known =>
    have inside := named_eq_some known
    exact if_pos (by omega)

/-- A toll given no minutes has no end, and no other has. -/
theorem tollEnd_min (minutes : Nat) (s : State) : tollEnd (min 240 minutes) s =
    if minutes = 0 then none else some (s.now + min 240 minutes * 60000) :=
  if_congr (by omega) rfl rfl

end Start

/-! ### A toll that goes on or ends (R139) -/

theorem actTollStop_some {x : Toll} (toll : s.toll n = some x) (own : tollOf b s = some n) :
    actTollStop (b.1 + 1) s = accept (beSpan x.begun) (endToll n .stop s) := by
  unfold actTollStop
  rw [named_succ]
  dsimp only
  rw [show allFour.find? (fun n => (s.toll n).any (fun t => t.bell == b)) = some n from own]
  dsimp only
  rw [toll]
  rfl

theorem actTollStop_none (none : tollOf b s = none) : actTollStop (b.1 + 1) s = refuse .state s := by
  unfold actTollStop
  rw [named_succ]
  dsimp only
  rw [show allFour.find? (fun n => (s.toll n).any (fun t => t.bell == b)) = .none from none]

theorem endToll_some {x : Toll} (c : TollCause) (toll : s.toll n = some x) : endToll n c s =
    (post .tollEnded (x.bell.1 + 1) (tollDetail c x.begun)
      (s.setQueue (s.strike.queue.filter (fun e => !(e.origin == .toll && e.number == n.1 + 1))))).setToll n none := by
  unfold endToll
  rw [toll]

theorem tollEndTime_eq {x : Toll} {y : Instant} (free : s.warm.held = none) (toll : s.toll n = some x)
    (ends : x.endTime = some y) : tollEndTime n s = if y ≤ s.now then endToll n .endTime s else s := by
  unfold tollEndTime
  rw [toll, not_isHeld free, Option.bind_some, ends, ← ite_not]
  refine if_congr ?_ rfl rfl
  rw [Bool.false_or, Bool.not_eq_true', Bool.not_eq_false, reached_some]

theorem tollEndTime_none (h : s.toll n = none ∨ ∃ x, s.toll n = some x ∧ x.endTime = none) : tollEndTime n s = s := by
  refine if_pos ?_
  have never : (s.toll n).bind (·.endTime) = none := by
    obtain none | ⟨x, toll, none⟩ := h
    · rw [none]
      rfl
    · rw [toll]
      exact none
  rw [never]
  exact Bool.or_true _

/-- A toll after one of its entries has left the queue. -/
def tollAfter (x : Toll) (begun : Bool) : Toll :=
  { x with remaining := x.remaining.map (· - 1), begun := x.begun + (if begun = true then 1 else 0) }

theorem entryLeft_toll {e : Entry} {x : Toll} (begun : Bool) (origin : e.origin = .toll) (number : e.number = n.1 + 1)
    (toll : s.toll n = some x) : entryLeft e begun s =
    if (tollAfter x begun).remaining = some 0 then endToll n .count (s.setToll n (some (tollAfter x begun)))
    else enqueue ((if begun = true then s.now else e.due) + x.interval * 1000) x.bell .toll (n.1 + 1)
      (s.setToll n (some (tollAfter x begun))) := by
  have served : entryLeft e begun s = tollServed n begun e.due s := by
    unfold entryLeft
    rw [origin, number, named_succ]
  rw [served, tollServed, toll]
  rfl

/-- Settles O49, by the request and by the event of a toll. -/
theorem tollsAndPanelStrikes : Obligations.TollsAndPanelStrikes := by
  refine ⟨fun b tag count interval s free least most hammer mains room => ?strikes,
    fun b p tag interval count minutes n s reaches few mains hammer fresh none lowest room => ?starts,
    fun b p tag interval count minutes n x s reaches few mains hammer toll bell only => ?replaces,
    fun b p tag interval count minutes s reaches few mains hammer fresh full => ?full,
    fun b p tag interval count minutes s reaches few mains none => ?unfitted,
    fun p tag interval count minutes b s reaches few battery => ?battery,
    fun p tag interval count minutes n s reaches outside => answers reaches.1 (actTollStart_range outside) reaches.2,
    fun b tag count interval s free => ⟨fun outside => ?range, fun least most none => ?noHammer,
      fun least most hammer battery => ?noSupply, fun least most hammer mains full => ?noRoom⟩,
    fun p tag b n x s reaches toll bell only => answers reaches.1 (actTollStop_some toll (tollOf_some toll bell only)) reaches.2,
    fun p tag b s reaches none => answers reaches.1 (actTollStop_none (tollOf_none none)) reaches.2,
    fun n x c s => endToll_some c, fun n x y s free toll ends => congrArg Host.Outcome.next (tollEndTime_eq free toll ends),
    fun n s h => congrArg Host.Outcome.next (tollEndTime_none h),
    fun e begun n x s origin number toll => entryLeft_toll begun origin number toll⟩
  case strikes =>
    intro i
    refine ⟨enqueuePanel b count i s, answers free ((actStrike_ready least most hammer mains).trans (if_neg (by omega))) rfl, ?_⟩
    rw [enqueuePanel_eq]
    refine ⟨enqueueAll_frame _ _ _ _ _ s, ?_, ?_, fun e inside => enqueueAll_keeps _ _ _ _ _ inside, fun j before => ?_⟩
    · rw [enqueueAll_length, List.length_range]
    · rw [enqueueAll_nextSeq, List.length_range]
    · exact enqueueAll_mem _ _ _ _ (List.getElem?_range before) s
  case starts =>
    refine answers reaches.1 ((actTollStart_eq few).trans ?_) reaches.2
    rw [startToll_starts mains hammer (tollOf_none fresh) none lowest room, tollEnd_min]
    rfl
  case replaces =>
    refine answers reaches.1 ((actTollStart_eq few).trans ?_) reaches.2
    rw [startToll_replaces mains hammer (tollOf_some toll bell only) toll, tollEnd_min]
    rfl
  case full =>
    refine answers reaches.1 ((actTollStart_eq few).trans ?_) reaches.2
    rw [startToll_full mains hammer (tollOf_none fresh) full]
    rfl
  case unfitted =>
    refine answers reaches.1 ((actTollStart_eq few).trans ?_) reaches.2
    rw [startToll_noHammer mains none]
    rfl
  case battery =>
    refine answers reaches.1 ((actTollStart_eq few).trans ?_) reaches.2
    rw [startToll_supply battery]
    rfl
  case range => exact answers free ((actStrike_eq b count interval s).trans (if_pos (by omega))) rfl
  case noHammer => exact answers free ((actStrike_inRange least most).trans (if_pos none)) rfl
  case noSupply =>
    exact answers free ((actStrike_inRange least most).trans ((if_neg (by rw [hammer]; decide)).trans (if_pos battery))) rfl
  case noRoom =>
    exact answers free ((actStrike_ready least most hammer mains).trans (if_pos (by omega))) rfl

end Sys2Proof.Machine
end

section
/-! SUPPORT. The writing and the deleting of events (R156, R158 to R160). -/

namespace Sys2Proof.Machine

set_option Elab.async false

variable {s : State} {n : Fin 96}

theorem recomputeWindows_event (old : List (Fin 96)) (s : State) (m : Fin 96) :
    (recomputeWindows old s).event m = s.event m := by
  unfold recomputeWindows
  dsimp only
  split
  · rfl
  · rw [State.event, (deriveLights_frame _).cal]
    rfl

theorem writeEvent_self (n : Fin 96) (e : Event) (s : State) : (writeEvent n e s).event n = e := by
  rw [writeEvent, recomputeWindows_event, State.setEvent_event_self]

theorem writeEvent_other {m : Fin 96} (other : m ≠ n) (e : Event) (s : State) : (writeEvent n e s).event m = s.event m := by
  rw [writeEvent, recomputeWindows_event, State.setEvent_event_ne _ other.symm]

theorem writeEvent_active (n : Fin 96) (e : Event) (s : State) : (writeEvent n e s).cal.active = activeNow (writeEvent n e s) := by
  obtain ⟨active, now⟩ := recomputeWindows_active s.activeScenes (s.setEvent n e)
  exact active.trans now.symm

theorem writeEvent_cursor (n : Fin 96) (e : Event) (s : State) : (writeEvent n e s).cal.cursor = s.cal.cursor :=
  recomputeWindows_cursor _ _

theorem mem_activeNow : n ∈ activeNow s ↔ ∃ l, s.tb.label = some l ∧ (s.event n).kind.isWindow = true ∧
    windowTest (civilOf s.civil.offset l).day (civilOf s.civil.offset l).minute (s.event n) s = true := by
  unfold activeNow State.civilNow
  cases label : s.tb.label with
  | none => exact ⟨nofun, fun ⟨_, found, _⟩ => nomatch found⟩
  | some l =>
    refine List.mem_filter.trans ((and_iff_right (List.mem_finRange n)).trans (Bool.and_eq_true_iff.trans ⟨fun h => ⟨l, rfl, h⟩, ?_⟩))
    rintro ⟨_, ⟨⟩, h⟩
    exact h

theorem isScene_eq (n : Fin 96) (s : State) : isScene n s = ((s.event n).kind.code == 3) := by
  unfold isScene
  cases (s.event n).kind <;> rfl

theorem recomputeWindows_eq (old : List (Fin 96)) (s : State) : recomputeWindows old s =
    if (activeNow s).filter (fun n => (s.event n).kind.code == 3) = old then
      { s with cal := { s.cal with active := activeNow s } }
    else (List.finRange 8).foldl (fun u c => deriveLight c u) { s with cal := { s.cal with active := activeNow s } } := by
  have scenes : ({ s with cal := { s.cal with active := activeNow s } } : State).activeScenes =
      (activeNow s).filter (fun n => (s.event n).kind.code == 3) :=
    List.filter_congr fun n _ => isScene_eq n _
  rw [← scenes]
  rfl

/-- A well-formed EVENT_WRITE of a known revision writes the event. -/
theorem actEventWrite_writes {a : EventArgs} {k : EventKind} {sel : DaySelector} {an : Anchor} (event : a.event = n.1 + 1)
    (kind : kindOf a = some k) (selector : selectorOf a s = some sel) (anchor : anchorOf a = some an)
    (known : a.revision = 255 ∨ a.revision = (s.event n).revision) {e : Event}
    (writes : e = {
      valid := true, kind := k, selector := sel, anchor := an, duration := durationOf k a.duration
      lastFired := (s.event n).lastFired, revision := nextRevision (s.event n).revision }) :
    actEventWrite a s = accept (e.bytes ++ beMarked 2 be2 (startToday e s)) (writeEvent n e s) := by
  subst writes
  unfold actEventWrite
  rw [event, named_succ]
  dsimp only
  rw [kind, selector, anchor]
  exact if_neg (by rw [(revisionOk_iff _ _).2 known]; decide)

theorem actEventWrite_range {a : EventArgs} (event : a.event = n.1 + 1)
    (bad : kindOf a = none ∨ selectorOf a s = none ∨ anchorOf a = none) : actEventWrite a s = refuse .range s := by
  unfold actEventWrite
  rw [event, named_succ]
  dsimp only
  split
  next k sel an kind selector anchor =>
    obtain none | none | none := bad
    · cases none.symm.trans kind
    · cases none.symm.trans selector
    · cases none.symm.trans anchor
  next => rfl

theorem actEventDelete_eq {revision : Nat} (known : revision = 255 ∨ revision = (s.event n).revision) :
    actEventDelete (n.1 + 1) revision s =
      if (s.event n).valid = false then refuse .state s
      else accept (be1 (nextRevision (s.event n).revision))
        (writeEvent n { lastFired := (s.event n).lastFired, revision := nextRevision (s.event n).revision } s) := by
  unfold actEventDelete
  rw [named_succ]
  refine (if_neg (by rw [(revisionOk_iff _ _).2 known]; decide)).trans (if_congr (by rw [Bool.not_eq_true']) rfl rfl)

/-- Settles O52, from the writing of a record and the windows recomputed. -/
theorem writingAndDeletingEvents : Obligations.WritingAndDeletingEvents := by
  refine ⟨fun tag a n k sel an s free event kind selector anchor known => ?writes,
    fun tag n revision s free valid known => ?deletes, fun tag n revision s free cold known => ?refused,
    fun tag a n s free event bad => answers free (actEventWrite_range event bad) rfl, fun s n => mem_activeNow,
    recomputeWindows_eq⟩
  case writes =>
    intro e
    exact ⟨writeEvent n e s, answers free (actEventWrite_writes event kind selector anchor known rfl) rfl,
      writeEvent_self n e s, fun m other => writeEvent_other other e s, writeEvent_active n e s, writeEvent_cursor n e s,
      writeEvent_frame s n e⟩
  case deletes =>
    exact ⟨_, answers free ((actEventDelete_eq known).trans (if_neg (by rw [valid]; decide))) rfl,
      writeEvent_self n _ s, fun m other => writeEvent_other other _ s, writeEvent_active n _ s, writeEvent_cursor n _ s,
      writeEvent_frame s n _⟩
  case refused => exact answers free ((actEventDelete_eq known).trans (if_pos cold)) rfl

end Sys2Proof.Machine
end

section
/-! SUPPORT. The firing of events once on a date, the minutes taken and the minutes missed (R150 to R154, R156). -/

namespace Sys2Proof.Machine

set_option Elab.async false

variable {s t : State} {n : Fin 96} {today date : Nat}

/-! ### Events that match a date (R147, R151) -/

/-- A RING, TOLL or TUNE event matches a date. -/
def Matching (today date : Nat) (n : Fin 96) (s : State) : Prop :=
  eventMatches today date (s.event n) s = true ∧ (s.event n).kind.isWindow = false

/-- An event has fired, or is marked so, on a date. -/
def FiredOn (date : Nat) (n : Fin 96) (s : State) : Prop := (s.event n).lastFired = some date

theorem Matching.of (valid : (s.event n).valid = true) (plain : (s.event n).kind.isWindow = false)
    (admits : (s.event n).selector.admits date (s.calendarClass today date) = true) : Matching today date n s :=
  ⟨Bool.and_eq_true_iff.2 ⟨valid, admits⟩, plain⟩

theorem firable_iff : firable today date n s = true ↔ Matching today date n s ∧ ¬ FiredOn date n s := by
  unfold firable Matching FiredOn
  dsimp only
  rw [Bool.and_eq_true, Bool.and_eq_true, Bool.not_eq_true', bne_iff_ne, and_comm (a := _ = false)]

theorem firable_fired (fired : FiredOn date n s) : firable today date n s = false := by
  rw [Bool.eq_false_iff, Ne, firable_iff]
  exact fun h => h.2 fired

namespace CalendarKept

theorem matching (k : CalendarKept s t) (h : Matching today date n s) : Matching today date n t := by
  obtain ⟨d, event⟩ := k.record n
  unfold Matching
  rw [event, k.tables.eventMatches]
  exact h

theorem startMinute (k : CalendarKept s t) : startMinute date (t.event n) t = startMinute date (s.event n) s := by
  obtain ⟨d, event⟩ := k.record n
  rw [event, k.tables.startMinute]
  rfl

end CalendarKept

theorem FiredOn.frame {ps : List Part} (fired : FiredOn date n s) (f : Frame ps s t) (cal : Part.cal ∉ ps := by decide) :
    FiredOn date n t := by
  rw [FiredOn, State.event, f.cal cal]
  exact fired

theorem firedOn_markFired (n : Fin 96) (date : Nat) (s : State) : FiredOn date n (markFired n date s) := by
  rw [FiredOn, markFired, State.setEvent_event_self]

/-! ### One event (R151, R152, R156) -/

theorem fireTest_fired {m : DayMinute} {late : Bool} (fired : FiredOn m.day n s) : fireTest today m late n s = s :=
  if_neg (by rw [firable_fired fired]; exact Bool.false_ne_true)

theorem sunTest_fired {late : Bool} (fired : FiredOn date n s) : sunTest today date late n s = s :=
  if_neg (by rw [firable_fired fired]; exact Bool.false_ne_true)

theorem missedEventTest_fired {k : DayMinute} {j : Nat} (fired : FiredOn date n s) :
    missedEventTest today k j n date s = s :=
  if_neg (by rw [firable_fired fired]; exact Bool.false_ne_true)

theorem fireTest_fires {m : DayMinute} (late : Bool) (matching : Matching today m.day n s) (fresh : ¬ FiredOn m.day n s)
    (start : startMinute m.day (s.event n) s = some m.minute) : fireTest today m late n s =
    eventNotice n late (handEvent n (markFired n m.day s)).2.1 (handEvent n (markFired n m.day s)).2.2
      (handEvent n (markFired n m.day s)).1 :=
  if_pos (by rw [firable_iff.2 ⟨matching, fresh⟩, start, beq_self_eq_true]; rfl)

theorem firedOn_fires (late : Bool) (n : Fin 96) (date : Nat) (s : State) : FiredOn date n
    (eventNotice n late (handEvent n (markFired n date s)).2.1 (handEvent n (markFired n date s)).2.2
      (handEvent n (markFired n date s)).1) :=
  ((firedOn_markFired n date s).frame (handEvent_frame _ n)).frame (eventNotice_frame _ _ _ _ _)

theorem isSun_of_startMinute_none (none : startMinute date (s.event n) s = .none) : (s.event n).anchor.isSun = true := by
  unfold startMinute at none
  split at none
  next => cases none
  next anchor => rw [anchor]; rfl
  next anchor => rw [anchor]; rfl

theorem sunTest_unset (late : Bool) (matching : Matching today date n s) (fresh : ¬ FiredOn date n s)
    (unset : startMinute date (s.event n) s = none) :
    sunTest today date late n s = eventNotice n late 0 .sunUnset (markFired n date s) :=
  if_pos (by rw [firable_iff.2 ⟨matching, fresh⟩, isSun_of_startMinute_none unset, unset]; rfl)

theorem sunTest_set {m : Nat} (late : Bool) (set : startMinute date (s.event n) s = some m) : sunTest today date late n s = s :=
  if_neg (by rw [set, Option.isNone_some, Bool.and_false]; exact Bool.false_ne_true)

theorem windowSunTest_eq (today date : Nat) (late : Bool) (n : Fin 96) (s : State) : windowSunTest today date late n s =
    if (s.event n).valid = true ∧ (s.event n).kind.isWindow = true ∧
      (s.event n).selector.admits date (s.calendarClass today date) = true ∧ startMinute date (s.event n) s = none then
      eventNotice n late 0 .sunUnset s else s := by
  refine if_congr ?_ rfl rfl
  unfold eventMatches
  rw [Bool.and_eq_true, Bool.and_eq_true, Bool.and_eq_true, Option.isNone_iff_eq_none]
  tauto

/-! ### A minute taken (R151, R152, R156) -/

theorem sunTest_datesTaken (today date : Nat) (late : Bool) (n : Fin 96) (s : State) :
    (sunTest today date late n s).cal.datesTaken = s.cal.datesTaken := by
  unfold sunTest
  split
  · rw [(eventNotice_frame (markFired n date s) n late 0 .sunUnset).cal]
    rfl
  · rfl

/-- The state of a minute before the firing: the sun tests, and the windows' report at the first minute of a date. -/
def sunTaken (today : Nat) (m : DayMinute) (late : Bool) (s : State) : State :=
  let sun := allEvents.foldl (fun s n => sunTest today m.day late n s) s
  let windows := allEvents.foldl (fun s n => windowSunTest today m.day late n s) sun
  if m.day ∈ s.cal.datesTaken then sun
  else { windows with cal := { windows.cal with datesTaken := m.day :: s.cal.datesTaken } }

theorem takeMinute_eq (today : Nat) (m : DayMinute) (late : Bool) (s : State) : takeMinute today m late s =
    allEvents.foldl (fun s n => fireTest today m late n s) (sunTaken today m late s) := by
  have sunDates : (allEvents.foldl (fun s n => sunTest today m.day late n s) s).cal.datesTaken = s.cal.datesTaken :=
    foldl_keeps (P := fun u => u.cal.datesTaken = s.cal.datesTaken)
      (fun u n kept => (sunTest_datesTaken today m.day late n u).trans kept) allEvents rfl
  unfold takeMinute sunTaken
  dsimp only
  generalize allEvents.foldl (fun s n => sunTest today m.day late n s) s = sun at sunDates ⊢
  have windowDates : (allEvents.foldl (fun s n => windowSunTest today m.day late n s) sun).cal.datesTaken = s.cal.datesTaken :=
    foldl_keeps (P := fun u => u.cal.datesTaken = s.cal.datesTaken)
      (fun u n kept => (congrArg Calendar.datesTaken (windowSunTest_frame u today m.day late n).cal).trans kept) allEvents sunDates
  generalize allEvents.foldl (fun s n => windowSunTest today m.day late n s) sun = windows at windowDates ⊢
  rw [windowDates, sunDates]
  exact congrArg (List.foldl _ · allEvents) (if_congr List.contains_iff_mem rfl rfl)

theorem sunTaken_kept (today : Nat) (m : DayMinute) (late : Bool) (s : State) : CalendarKept s (sunTaken today m late s) := by
  have sun := CalendarKept.foldl (fun u n => CalendarKept.sunTest today m.day late n u) allEvents s
  unfold sunTaken
  dsimp only
  split
  · exact sun
  · have windows := sun.trans (CalendarKept.foldl (fun u n => CalendarKept.windowSunTest today m.day late n u) allEvents _)
    generalize allEvents.foldl (fun u n => windowSunTest today m.day late n u) _ = u at windows ⊢
    exact windows.trans (CalendarKept.of_cal u _)

theorem mem_allEvents (n : Fin 96) : n ∈ allEvents := List.mem_finRange n

/-- A firing on a date leaves every event marked on that date so. -/
theorem FiredOn.fireTest {m : DayMinute} (fired : FiredOn m.day n s) (late : Bool) (x : Fin 96) :
    FiredOn m.day n (fireTest today m late x s) := by
  by_cases same : x = n
  · subst same
    rwa [fireTest_fired fired]
  · unfold Machine.fireTest
    split
    · have marked : FiredOn m.day n (markFired x m.day s) := by
        rw [FiredOn, markFired, State.setEvent_event_ne s same]
        exact fired
      exact (marked.frame (handEvent_frame _ x)).frame (eventNotice_frame _ _ _ _ _)
    · exact fired

/-- Taking a minute fires every event due at it. -/
theorem takeMinute_fires {m : DayMinute} (late : Bool) (matching : Matching today m.day n s)
    (start : startMinute m.day (s.event n) s = some m.minute) : FiredOn m.day n (takeMinute today m late s) := by
  obtain ⟨pre, post, split⟩ := List.append_of_mem (mem_allEvents n)
  rw [takeMinute_eq, split, List.foldl_append, List.foldl_cons]
  refine foldl_keeps (P := FiredOn m.day n) (fun u x fired => fired.fireTest late x) post ?_
  have kept : CalendarKept s (pre.foldl (fun s n => fireTest today m late n s) (sunTaken today m late s)) :=
    (sunTaken_kept today m late s).trans (CalendarKept.foldl (fun u n => CalendarKept.fireTest today m late n u) pre _)
  generalize pre.foldl (fun s n => fireTest today m late n s) (sunTaken today m late s) = u at kept ⊢
  by_cases fired : FiredOn m.day n u
  · rwa [fireTest_fired fired]
  · rw [fireTest_fires late (kept.matching matching) fired (kept.startMinute.trans start)]
    exact firedOn_fires late n m.day u

/-! ### Minutes missed (R153) -/

theorem missedEventTest_set {k : DayMinute} {j m : Nat} (matching : Matching today date n s) (fresh : ¬ FiredOn date n s)
    (start : startMinute date (s.event n) s = some m) : missedEventTest today k j n date s =
    if 1 ≤ minutesAfter k { day := date, minute := m } ∧ minutesAfter k { day := date, minute := m } ≤ j then
      post .eventMissed (n.1 + 1) (BitVec.ofNat 16 m) (markFired n date s) else s := by
  refine (if_pos (firable_iff.2 ⟨matching, fresh⟩)).trans ?_
  rw [start]

theorem missedEventTest_unset {k : DayMinute} {j : Nat} (matching : Matching today date n s) (fresh : ¬ FiredOn date n s)
    (unset : startMinute date (s.event n) s = none) : missedEventTest today k j n date s =
    if dateCrossed k j date = true then eventNotice n false 0 .sunUnset (markFired n date s) else s := by
  refine (if_pos (firable_iff.2 ⟨matching, fresh⟩)).trans ?_
  rw [unset]

theorem missedEventTest_none (today : Nat) (k : DayMinute) (n : Fin 96) (date : Nat) (s : State) :
    missedEventTest today k 0 n date s = s := by
  unfold missedEventTest
  split
  · split
    · exact if_neg fun h => absurd (Nat.le_trans h.1 h.2) (by decide)
    · refine if_neg ?_
      rw [dateCrossed, decide_eq_true_iff]
      exact fun h => absurd h.1 (by decide)
  · rfl

theorem missedEvents_none (today : Nat) (k : DayMinute) (s : State) : missedEvents today k 0 s = s := by
  unfold missedEvents
  generalize allEvents = es
  induction es with
  | nil => rfl
  | cons e es ih => rw [List.foldl_cons, missedEventTest_none, missedEventTest_none, ih]

/-- Tests of another event leave an event's mark. -/
theorem FiredOn.missedEventTest {k : DayMinute} {j : Nat} {x : Fin 96} (fired : FiredOn date n s) (other : x ≠ n)
    (today' date' : Nat) : FiredOn date n (missedEventTest today' k j x date' s) := by
  have marked : FiredOn date n (markFired x date' s) := by
    rw [FiredOn, markFired, State.setEvent_event_ne s other]
    exact fired
  unfold Machine.missedEventTest
  split
  · split
    · dsimp only
      split
      · exact marked.frame (post_frame _ _ _ _)
      · exact fired
    · split
      · exact marked.frame (eventNotice_frame _ _ _ _ _)
      · exact fired
  · exact fired

/-- A jump over an event's start on today's date marks it. -/
theorem missedEvents_marks {k : DayMinute} {j m : Nat} (matching : Matching today today n s)
    (start : startMinute today (s.event n) s = some m) (after : 1 ≤ minutesAfter k { day := today, minute := m })
    (within : minutesAfter k { day := today, minute := m } ≤ j) : FiredOn today n (missedEvents today k j s) := by
  obtain ⟨pre, post, split⟩ := List.append_of_mem (mem_allEvents n)
  have once : n ∉ post := by
    have nodup : (pre ++ n :: post).Nodup := split ▸ List.nodup_finRange 96
    exact (List.nodup_cons.1 (List.nodup_append.1 nodup).2.1).1
  unfold missedEvents
  rw [split, List.foldl_append, List.foldl_cons]
  have kept := CalendarKept.foldl (fun u e => (CalendarKept.missedEventTest today k j e (dayBeforeOf today) u).trans
    (CalendarKept.missedEventTest today k j e today _)) pre s
  generalize pre.foldl _ s = u at kept ⊢
  have keptBoth := kept.trans (CalendarKept.missedEventTest today k j n (dayBeforeOf today) u)
  generalize missedEventTest today k j n (dayBeforeOf today) u = v at keptBoth ⊢
  have marked : FiredOn today n (missedEventTest today k j n today v) := by
    by_cases fired : FiredOn today n v
    · rwa [missedEventTest_fired fired]
    · rw [missedEventTest_set (keptBoth.matching matching) fired (keptBoth.startMinute.trans start), if_pos ⟨after, within⟩]
      exact (firedOn_markFired n today v).frame (post_frame _ _ _ _)
  clear keptBoth kept split
  generalize missedEventTest today k j n today v = w at marked ⊢
  induction post generalizing w with
  | nil => exact marked
  | cons x post ih =>
    obtain ⟨other, once⟩ := not_or.1 (List.mem_cons.not.1 once)
    exact ih once _ ((marked.missedEventTest (Ne.symm other) _ _).missedEventTest (Ne.symm other) _ _)

end Sys2Proof.Machine
end

section
/-! SUPPORT. The handing over of events, and the cursor's comparison (R150, R151, R153, R154). -/

namespace Sys2Proof.Machine

set_option Elab.async false

variable {s : State} {n : Fin 96}

/-! ### The handing over of an event (R151) -/

section Hand
variable {mask : BitVec 16} {stagger : Nat}

theorem handEvent_ring (kind : (s.event n).kind = .ring mask stagger) : handEvent n s =
    match createSession (.event n) mask stagger ((s.event n).duration * 60000) s with
    | (t, .created k) => (t, k.1 + 1, .none)
    | (t, .supply) => (t, 0, .supply)
    | (t, .sessionsFull) => (t, 0, .sessionsFull)
    | (t, .noBells) => (t, 0, .noBells) := by
  unfold handEvent
  dsimp only
  rw [kind] <;> rfl

theorem takenOf_nil_of_leftOut (out : ∀ b ∈ maskBells mask, leftOutReason b s ≠ none) : takenOf mask s = [] :=
  List.filter_eq_nil_iff.2 fun b inside eligible => out b inside (Option.isNone_iff_eq_none.1 eligible)

theorem takenOf_ne_nil {b : Fin 16} (inside : b ∈ maskBells mask) (eligible : leftOutReason b s = none) :
    takenOf mask s ≠ [] :=
  List.ne_nil_of_mem (List.mem_filter.2 ⟨inside, Option.isNone_iff_eq_none.2 eligible⟩)

variable {b : Fin 16} {interval count : Nat}

theorem handEvent_toll (kind : (s.event n).kind = .toll b interval count) : handEvent n s =
    match startToll b interval count (min 240 (s.event n).duration) (.event n) s with
    | (t, .started _) => (t, 0, .none)
    | (t, .supply) => (t, 0, .supply)
    | (t, .noHammer) => (t, 0, .noBells)
    | (t, .full) => (t, 0, .queueFull) := by
  unfold handEvent
  dsimp only
  rw [kind] <;> rfl

theorem handEvent_toll_started {j : Fin 4} (kind : (s.event n).kind = .toll b interval count)
    (started : (startToll b interval count (min 240 (s.event n).duration) (.event n) s).2 = .started j) :
    handEvent n s = ((startToll b interval count (min 240 (s.event n).duration) (.event n) s).1, 0, .none) := by
  rw [handEvent_toll kind]
  generalize startToll b interval count (min 240 (s.event n).duration) (.event n) s = start at started ⊢
  obtain ⟨t, outcome⟩ := start
  obtain rfl : outcome = .started j := started
  rfl

theorem handEvent_tune {k : Nat} (kind : (s.event n).kind = .tune k) :
    handEvent n s = ((playTune n k s).1, 0, (playTune n k s).2) := by
  unfold handEvent
  dsimp only
  rw [kind]

theorem playTune_valid {k : Fin 24} {c : Label} {ns : List Note} (mains : s.supply.state = .mains) (now : s.civilNow = some c)
    (plain : s.classOf c.day ≠ .penitential) (loud : s.strike.silence = false)
    (quiet : silenceActive .clock c.day c.minute s = false) (valid : (s.tune k).content = .valid ns) :
    playTune n (k.1 + 1) s = if ns.length ≤ 64 - s.strike.queue.length then
      (enqueueNotes s.now .tuneEvent (n.1 + 1) (noteTimes ns) s, .none) else (s, .queueFull) := by
  have notes : (s.tune k).notes = ns := by rw [Tune.notes, valid]
  unfold playTune
  rw [now, named_succ]
  dsimp only
  rw [if_neg (by rw [onMains_iff.2 mains]; decide),
    if_neg (by rw [beq_eq_false_iff_ne.2 plain, loud, quiet]; decide),
    if_neg (by rw [Tune.isValid, valid]; exact Bool.false_ne_true), notes, ← ite_not]
  exact if_congr Nat.not_lt rfl rfl

end Hand

/-! ### The cursor (R150, R153, R154) -/

section Cursor
variable {c : Label} {k : DayMinute} {boundary small : Bool}

/-- The comparison with a cursor, which takes the mark of a warm reset's end. -/
theorem calendarCompare_eq (now : s.civilNow = some c) (cursor : s.cal.cursor = some k) : calendarCompare boundary small s =
    let begins := boundary && c.sec % 60 == 0
    let u : State := { s with cal := { s.cal with heldUntil := none } }
    let d := c.dayMinute.diff k
    setCursor (some c.dayMinute) (
      if d ≤ 0 then u
      else if d = 1 ∧ begins = true then takeMinute c.day c.dayMinute false u
      else
        let n := if begins = true then d.toNat - 1 else d.toNat
        let jumped := forwardJump c.day k n (heldMinutes k n s.cal.heldUntil) small u
        if begins = true then takeMinute c.day c.dayMinute false jumped else jumped) := by
  unfold calendarCompare
  rw [now]
  dsimp only
  unfold compareCursor
  dsimp only
  rw [cursor]

theorem calendarCompare_back (now : s.civilNow = some c) (cursor : s.cal.cursor = some k) (back : c.dayMinute.diff k ≤ 0) :
    calendarCompare boundary small s = { s with cal := { s.cal with cursor := some c.dayMinute, heldUntil := none } } := by
  rw [calendarCompare_eq now cursor]
  dsimp only
  rw [if_pos back]
  rfl

theorem calendarCompare_next (now : s.civilNow = some c) (start : c.sec % 60 = 0) (cursor : s.cal.cursor = some k)
    (next : c.dayMinute.diff k = 1) : calendarCompare true small s = setCursor (some c.dayMinute)
      (takeMinute c.day c.dayMinute false { s with cal := { s.cal with heldUntil := none } }) := by
  rw [calendarCompare_eq now cursor]
  dsimp only
  rw [if_neg (by omega), if_pos ⟨next, by rw [start]; rfl⟩]

theorem calendarCompare_jumpOn (now : s.civilNow = some c) (start : c.sec % 60 = 0) (cursor : s.cal.cursor = some k)
    (far : 2 ≤ c.dayMinute.diff k) : calendarCompare true small s = setCursor (some c.dayMinute)
      (takeMinute c.day c.dayMinute false (forwardJump c.day k ((c.dayMinute.diff k).toNat - 1)
        (heldMinutes k ((c.dayMinute.diff k).toNat - 1) s.cal.heldUntil) small
        { s with cal := { s.cal with heldUntil := none } })) := by
  have begins : (true && c.sec % 60 == 0) = true := by rw [start]; rfl
  rw [calendarCompare_eq now cursor]
  dsimp only
  rw [if_neg (by omega), if_neg (by omega), if_pos begins, if_pos begins]

theorem calendarCompare_jumpWithin (now : s.civilNow = some c) (inside : boundary = false ∨ c.sec % 60 ≠ 0)
    (cursor : s.cal.cursor = some k) (far : 1 ≤ c.dayMinute.diff k) :
    calendarCompare boundary small s = setCursor (some c.dayMinute)
      (forwardJump c.day k (c.dayMinute.diff k).toNat (heldMinutes k (c.dayMinute.diff k).toNat s.cal.heldUntil) small
        { s with cal := { s.cal with heldUntil := none } }) := by
  have begins : ¬ (boundary && c.sec % 60 == 0) = true := by
    rw [Bool.and_eq_true, beq_iff_eq]
    exact fun h => inside.elim (fun off => Bool.false_ne_true (off.symm.trans h.1)) fun later => later h.2
  rw [calendarCompare_eq now cursor]
  dsimp only
  rw [if_neg (by omega), if_neg fun h => begins h.2, if_neg begins, if_neg begins]

theorem lateMinutes_none {today m n : Nat} (done : n ≤ m) : lateMinutes today k m n s = s := by
  unfold lateMinutes
  rw [Nat.sub_eq_zero_of_le done]
  rfl

/-- One more minute is taken late, after the others. -/
theorem lateMinutes_succ {today m n : Nat} (open_ : m ≤ n) : lateMinutes today k m (n + 1) s =
    takeMinute today (dayMinuteOf (k.number + n + 1)) true (lateMinutes today k m n s) := by
  unfold lateMinutes
  rw [Nat.succ_sub open_, List.range_succ, List.foldl_append, List.foldl_cons, List.foldl_nil, Nat.add_assoc k.number,
    Nat.add_sub_of_le open_]

end Cursor

/-- Settles O53, from the tests of one event, the handing over, and the comparison of the cursor. -/
theorem anEventFiresOnceOnADate : Obligations.AnEventFiresOnceOnADate := by
  refine ⟨⟨fun today m late n s fired => ⟨fireTest_fired fired, sunTest_fired fired⟩,
      fun today k j n date s fired => missedEventTest_fired fired,
      fun today m late n s valid plain admits fresh start => ?fires, fun n late session r s => rfl,
      fun today date late n s valid plain admits fresh unset => sunTest_unset late (.of valid plain admits) fresh unset,
      fun today date late n s m => sunTest_set late, windowSunTest_eq, fun today m late s => ?takes,
      fun today m late n s valid plain admits start => takeMinute_fires late (.of valid plain admits) start⟩,
    ⟨fun n mask stagger s kind => ⟨fun battery => ?ringBattery, fun mains full => ?ringFull,
        fun k mains ended lowest => ⟨fun out => ?ringNone, fun b inside eligible => ?rings⟩⟩,
      fun n b interval count s kind => ⟨fun battery => ?tollBattery, fun mains none => ?tollNone,
        fun mains hammer fresh full => ?tollFull, fun j => handEvent_toll_started kind⟩,
      fun n k s => handEvent_tune, fun n k c ns s => playTune_valid⟩,
    ⟨fun boundary small c k s => calendarCompare_back, fun small c k s => calendarCompare_next,
      fun small c k s => calendarCompare_jumpOn, fun boundary small c k s => calendarCompare_jumpWithin,
      fun k n h => ⟨rfl, rfl⟩, fun today k n h s => ⟨rfl, rfl⟩, fun today k m n s => ⟨lateMinutes_none, lateMinutes_succ⟩,
      missedEvents_none, fun today k n s => rfl,
      fun today k n e m s valid plain admits start after within =>
        missedEvents_marks (.of valid plain admits) start after within,
      fun today k n e date m s valid plain admits fresh start => missedEventTest_set (.of valid plain admits) fresh start,
      fun today k n e date s valid plain admits fresh unset => missedEventTest_unset (.of valid plain admits) fresh unset⟩⟩
  case fires =>
    have fires := fireTest_fires late (.of valid plain admits) fresh start
    refine ⟨fires, ?_⟩
    rw [fires]
    exact firedOn_fires late n m.day s
  case takes =>
    intro sun windows
    rw [takeMinute_eq, sunTaken, allEvents]
  case ringBattery => rw [handEvent_ring kind, createSession_battery battery]
  case ringFull => rw [handEvent_ring kind, createSession_full mains full]
  case ringNone => rw [handEvent_ring kind, createSession_noBells mains ended (takenOf_nil_of_leftOut out)]
  case rings =>
    rw [handEvent_ring kind, createSession_created mains ended lowest (takenOf_ne_nil inside eligible)]
  case tollBattery => rw [handEvent_toll kind, startToll_supply battery]
  case tollNone => rw [handEvent_toll kind, startToll_noHammer mains none]
  case tollFull => rw [handEvent_toll kind, startToll_full mains hammer (tollOf_none fresh) full]

end Sys2Proof.Machine
end

section
/-! SUPPORT. The loss and the return of mains (R55, R80, R102, R131, R137, R180, R181). -/

namespace Sys2Proof.Machine

set_option Elab.async false

variable {s t : State} {d : Fin 4} {n : Fin 4} {b : Fin 16}

/-- A fold in which a record is touched at its own turn alone: what its turn makes of it stands at the end. -/
theorem foldl_turn {α ρ : Type} {f : State → α → State} (get : State → ρ) {Q : ρ → Prop} {r : ρ} {x : α}
    (own : ∀ s, get s = r → Q (get (f s x))) (others : ∀ y s, y ≠ x → get (f s y) = get s) {xs : List α}
    (nodup : xs.Nodup) (inside : x ∈ xs) {s : State} (start : get s = r) : Q (get (xs.foldl f s)) := by
  induction xs generalizing s with
  | nil => cases inside
  | cons y ys ih =>
    obtain ⟨fresh, nodup⟩ := List.nodup_cons.1 nodup
    by_cases turn : y = x
    · subst turn
      refine List.foldlRecOn (motive := fun s => Q (get s)) ys f (own s start) fun s ok z member => ?_
      rw [others z s (ne_of_mem_of_not_mem member fresh)]
      exact ok
    · exact ih nodup ((List.mem_cons.1 inside).resolve_left (Ne.symm turn)) ((others y s turn).trans start)

/-! ### Decisions move no hands (R47, R51) -/

/-- A dial whose state and owed decision alone may have changed. -/
def DecisionOnly (r q : Dial) : Prop := q = { r with state := q.state, owed := q.owed }

theorem DecisionOnly.refl (r : Dial) : DecisionOnly r r := rfl

theorem DecisionOnly.trans {r q z : Dial} (h : DecisionOnly r q) (k : DecisionOnly q z) : DecisionOnly r z := by
  rw [DecisionOnly] at h k ⊢
  rw [h] at k
  exact k

theorem DecisionOnly.of_eq {r q : Dial} (same : q = r) : DecisionOnly r q := same ▸ .refl r

theorem DecisionOnly.setDial {r : Dial} (e : Fin 4) (decides : DecisionOnly (s.dial e) r) :
    DecisionOnly (s.dial d) ((s.setDial e r).dial d) := by
  by_cases same : e = d
  · subst same
    rw [State.setDial_dial_self]
    exact decides
  · exact .of_eq (State.setDial_dial_ne s same r)

theorem enterDial_decisionOnly (e : Fin 4) (st : DialState) : DecisionOnly (s.dial d) ((enterDial e st s).dial d) := by
  by_cases same : (s.dial e).state = st
  · exact .of_eq (congrArg (fun u : State => u.dial d) (enterDial_same same))
  · rw [enterDial_change same, State.dial, State.dial, post_dials]
    exact .setDial e rfl

theorem fullDecision_decisionOnly (e : Fin 4) : DecisionOnly (s.dial d) ((fullDecision e s).dial d) := by
  unfold fullDecision
  split <;> exact enterDial_decisionOnly e _

theorem continuingDecision_decisionOnly (e : Fin 4) : DecisionOnly (s.dial d) ((continuingDecision e s).dial d) := by
  unfold continuingDecision
  split
  · exact .refl _
  · exact enterDial_decisionOnly e _

theorem fullCause_decisionOnly (e : Fin 4) : DecisionOnly (s.dial d) ((fullCause e s).dial d) := by
  unfold fullCause
  dsimp only
  repeat' split
  · exact .refl _
  · exact .setDial e rfl
  · exact fullDecision_decisionOnly e

theorem endDecision_decisionOnly (e : Fin 4) : DecisionOnly (s.dial d) ((endDecision e s).dial d) := by
  have settled : DecisionOnly (s.dial d) ((s.setDial e { s.dial e with owed := .none }).dial d) := .setDial e rfl
  rw [endDecision_eq]
  repeat' split
  · exact settled.trans (fullDecision_decisionOnly e)
  · exact settled.trans (continuingDecision_decisionOnly e)
  · exact settled

theorem dialsFull_decisionOnly (d : Fin 4) (s : State) : DecisionOnly (s.dial d) ((dialsFull s).dial d) :=
  foldl_keeps (P := fun u => DecisionOnly (s.dial d) (u.dial d))
    (fun _ e ok => DecisionOnly.trans ok (fullCause_decisionOnly e)) allFour (.refl _)

/-! ### The dials at the loss of mains (R55) -/

/-- What the loss of mains makes of the hands of a dial with an impulse in flight. -/
def HandsCut (i : Impulse) (position : Nat) (now : Instant) (r : Dial) : Prop :=
  r.flight = none ∧ r.position = if i.superseded = false ∧ i.width ≤ 2 * (now - i.start) then (position + 1) % 1440 else position

theorem dialSupplyLost_hands {i : Impulse} (flight : (s.dial d).flight = some i) :
    HandsCut i (s.dial d).position s.now ((dialSupplyLost d s).dial d) := by
  have cut {r : Dial} (h : HandsCut i (s.dial d).position s.now r) :
      HandsCut i (s.dial d).position s.now ((s.setDial d r).dial d) := by
    rw [State.setDial_dial_self]
    exact h
  unfold dialSupplyLost
  dsimp only
  rw [flight]
  dsimp only
  have hands := cut (r := if (!i.superseded && decide (i.width ≤ 2 * (s.now - i.start))) = true
      then { s.dial d with flight := none }.delivered i else { s.dial d with flight := none }) (by
    by_cases delivered : i.superseded = false ∧ i.width ≤ 2 * (s.now - i.start)
    · rw [if_pos (by simpa using delivered)]
      exact ⟨rfl, (if_pos delivered).symm⟩
    · rw [if_neg (by simpa using delivered)]
      exact ⟨rfl, (if_neg delivered).symm⟩)
  split
  · exact hands
  · have decides := endDecision_decisionOnly (d := d) d (s := s.setDial d
      (if (!i.superseded && decide (i.width ≤ 2 * (s.now - i.start))) = true
        then { s.dial d with flight := none }.delivered i else { s.dial d with flight := none }))
    rw [DecisionOnly] at decides
    rw [decides]
    exact hands

theorem dialSupplyLost_other (e : Fin 4) (other : e ≠ d) :
    DecisionOnly (s.dial d) ((dialSupplyLost e s).dial d) := by
  have set (r : Dial) : DecisionOnly (s.dial d) ((s.setDial e r).dial d) := .of_eq (State.setDial_dial_ne s other r)
  unfold dialSupplyLost
  dsimp only
  split
  · exact .refl _
  · split
    · exact set _
    · exact (set _).trans (endDecision_decisionOnly e)

theorem dialsSupplyLost_hands {i : Impulse} (flight : (s.dial d).flight = some i) :
    HandsCut i (s.dial d).position s.now ((dialsSupplyLost s).dial d) := by
  have turn := foldl_turn (f := fun s e => dialSupplyLost e s) (x := d) (s := s)
    (fun u => ((u.dial d).flight, (u.dial d).position, u.now)) (r := (some i, (s.dial d).position, s.now))
    (Q := fun x => x.1 = none ∧ x.2.1 = if i.superseded = false ∧ i.width ≤ 2 * (s.now - i.start)
      then ((s.dial d).position + 1) % 1440 else (s.dial d).position)
    (fun u same => by
      obtain ⟨flight, position, now⟩ : (u.dial d).flight = some i ∧ (u.dial d).position = (s.dial d).position ∧
        u.now = s.now := by simpa using same
      have hands := dialSupplyLost_hands flight
      rw [position, now] at hands
      exact hands)
    (fun e u other => by
      have decides := dialSupplyLost_other (s := u) e other
      rw [DecisionOnly] at decides
      rw [(dialSupplyLost_frame u e).now, decides])
    (List.nodup_finRange 4) (List.mem_finRange d) (by rw [flight])
  exact turn

/-! ### The sessions at the loss of mains (R102) -/

theorem enterStopping_sessionOther (m : Fin 4) (c : EndCause) (other : m ≠ n) :
    (enterStopping m c s).session n = s.session n := by
  have begun : (stopBegun m c s).session n = s.session n := by
    unfold stopBegun
    rw [(settleStopSlot_kept m _).others n other.symm, State.session, (foldl_free_quiet _ _).sessions]
    exact State.setSession_session_ne s other _
  rw [enterStopping_eq]
  split
  · rw [(endSession_kept m _).others n other.symm, begun]
  · exact begun

theorem sessionSupplyLost_other (m : Fin 4) (s : State) (other : m ≠ n) :
    (sessionSupplyLost m s).session n = s.session n := by
  unfold sessionSupplyLost
  split
  · exact enterStopping_sessionOther m .supply other
  · exact enterStopping_sessionOther m .supply other
  · exact (settleStopSlot_kept m s).others n other.symm
  · rfl

/-- A session that the loss of mains has stopped. -/
def StoppedBySupply (r : Session) : Prop := r.endCause = .supply ∧ (r.phase = .stoppingBells ∨ r.phase = .ended)

theorem sessionSupplyLost_running (running : (s.session n).phase = .startingBells ∨ (s.session n).phase = .ringing) :
    StoppedBySupply ((sessionSupplyLost n s).session n) := by
  obtain ⟨phase, cause, -⟩ := enterStopping_session n .supply s
  have stops : sessionSupplyLost n s = enterStopping n .supply s := by
    unfold sessionSupplyLost
    rcases running with h | h <;> rw [h]
  rw [stops]
  exact ⟨cause, phase⟩

theorem swingsSupplyLost_running (running : (s.session n).phase = .startingBells ∨ (s.session n).phase = .ringing) :
    StoppedBySupply ((swingsSupplyLost s).session n) := by
  have motors : (allBells.foldl (fun s b => motorOff b s) s).session n = s.session n := by
    rw [State.session, (Frame.foldl (fun s b => motorOff_frame s b) allBells s).sessions]
    rfl
  unfold swingsSupplyLost
  generalize allBells.foldl (fun s b => motorOff b s) s = u at motors ⊢
  exact foldl_turn (f := fun s m => sessionSupplyLost m s) (fun u => u.session n) (Q := StoppedBySupply)
    (fun u same => sessionSupplyLost_running (same ▸ running)) (fun m u => sessionSupplyLost_other m u)
    (List.nodup_finRange 4) (List.mem_finRange n) motors

/-! ### The Strike Unit at the loss of mains (R131, R137) -/

theorem guardBegin_battery (idle : (s.bell b).pulseEnd = none) (battery : s.supply.state = .battery) :
    (guardBegin b s).sessions = s.sessions := by
  rw [guardBegin_idle idle, if_pos battery]
  rfl

/-- On battery the guard that waited for a hammer does not set out, so no session moves. -/
theorem releaseHammer_sessions (battery : s.supply.state = .battery) : (releaseHammer b s).sessions = s.sessions := by
  unfold releaseHammer
  dsimp only
  split
  · rfl
  · split
    · refine (guardBegin_battery ?_ ?_).trans rfl
      · rw [State.setBell_bell, if_pos rfl]
      · exact battery
    · rfl

theorem strikeSupplyLost_sessions (battery : s.supply.state = .battery) :
    (strikeSupplyLost s).sessions = s.sessions := by
  obtain ⟨-, released⟩ := foldl_keeps (f := fun s b => releaseHammer b s)
    (P := fun u => u.supply.state = .battery ∧ u.sessions = s.sessions)
    (fun u b ok => ⟨(congrArg Supply.state (releaseHammer_frame u b).supply).trans ok.1,
      (releaseHammer_sessions ok.1).trans ok.2⟩) allBells ⟨battery, rfl⟩
  unfold strikeSupplyLost
  rw [(takeUpEach_frame _ _).sessions, (dropHeld_frame _).sessions,
    (Frame.foldl (fun s n => endToll_frame s n .supply) allFour _).sessions]
  exact released

theorem dropHeld_held (s : State) : (dropHeld s).strike.held = none := by
  unfold dropHeld
  split
  next free => exact free
  next => exact (post_frame _ _ _ _).heldQuarter

/-- No toll goes on. -/
def NoToll (s : State) : Prop := ∀ n, s.toll n = none

theorem NoToll.of_frame {ps : List Part} (h : Frame ps s t) (ok : NoToll s) (kept : .tolls ∉ ps := by decide) :
    NoToll t := fun n => by
  rw [State.toll, h.tolls kept]
  exact ok n

/-- Without a toll an entry that leaves the queue takes none up (R139). -/
theorem entryLeft_noToll (e : Entry) (begun : Bool) (ok : NoToll s) : entryLeft e begun s = s := by
  unfold entryLeft
  split
  · rw [tollServed, ok]
  · rfl

theorem skipEntry_noToll (e : Entry) (f : StrikeFail) (ok : NoToll s) : NoToll (skipEntry e f s) := by
  have posted : NoToll (post .strikeSkipped (e.bell.1 + 1) (pair e.origin.code f.code) (removeEntry e.seq s)) :=
    NoToll.of_frame (post_frame _ _ _ _) (NoToll.of_frame (removeEntry_frame s e.seq) ok)
  rw [skipEntry, entryLeft_noToll e false posted]
  exact posted

theorem beginPulse_noToll (e : Entry) (ok : NoToll s) : NoToll (beginPulse e s) := by
  unfold beginPulse
  dsimp only
  generalize { s.bell e.bell with lastStrike := some s.now, pulseEnd := some (s.now + (s.bell e.bell).config.width) } = r
  have removed : NoToll (removeEntry e.seq (s.setBell e.bell r)) := ok
  rw [entryLeft_noToll e true removed]
  exact removed

theorem serveEntry_noToll (e : Entry) (ok : NoToll s) : NoToll (serveEntry e s) := by
  unfold serveEntry
  repeat' split
  · exact ok
  · exact beginPulse_noToll e ok
  · exact ok

theorem takeUp_noToll (e : Entry) (ok : NoToll s) : NoToll (takeUp e s) := by
  unfold takeUp
  split
  · exact serveEntry_noToll e ok
  · split
    · exact skipEntry_noToll e _ ok
    · split
      · exact skipEntry_noToll e _ ok
      · dsimp only
        split
        · exact serveEntry_noToll _ (NoToll.of_frame (post_frame _ _ _ _) ok)
        · exact skipEntry_noToll _ _ (NoToll.of_frame (post_frame _ _ _ _) ok)

theorem takeUpEach_noToll (pick : Entry → State → Bool) (ok : NoToll s) : NoToll (takeUpEach pick s) := by
  refine foldl_keeps (P := NoToll) (fun u e ok => ?_) _ ok
  repeat' split
  · exact takeUp_noToll _ ok
  · exact ok
  · exact ok

theorem endToll_toll (n : Fin 4) (c : TollCause) (s : State) : (endToll n c s).toll n = none := by
  cases toll : s.toll n with
  | none => rw [endToll, toll]; exact toll
  | some x =>
    rw [endToll_some c toll]
    exact State.setToll_toll_self _ n none

theorem endToll_kept (n m : Fin 4) (c : TollCause) (s : State) (free : s.toll n = none) :
    (endToll m c s).toll n = none := by
  cases toll : s.toll m with
  | none => rw [endToll, toll]; exact free
  | some x =>
    rw [endToll_some c toll]
    by_cases same : m = n
    · subst same
      exact State.setToll_toll_self _ m none
    · rw [State.setToll_toll_ne _ same, State.toll, (post_frame _ _ _ _).tolls]
      exact free

theorem strikeSupplyLost_noToll (s : State) : NoToll (strikeSupplyLost s) := by
  have ended (u : State) : NoToll (allFour.foldl (fun s n => endToll n .supply s) u) := fun n =>
    foldl_establishes (P := fun n s => s.toll n = none) (fun n => endToll_toll n .supply)
      (fun n m => endToll_kept n m .supply) allFour u (List.mem_finRange n)
  unfold strikeSupplyLost
  dsimp only
  generalize allBells.foldl (fun s b => releaseHammer b s) s = u
  have ends := ended u
  generalize allFour.foldl (fun s n => endToll n .supply s) u = v at ends ⊢
  exact takeUpEach_noToll _ (NoToll.of_frame (dropHeld_frame v) ends)

theorem strikeSupplyLost_held (s : State) : (strikeSupplyLost s).strike.held = none := by
  unfold strikeSupplyLost
  dsimp only
  generalize allBells.foldl (fun s b => releaseHammer b s) s = v
  generalize allFour.foldl (fun s n => endToll n .supply s) v = u
  exact (takeUpEach_frame _ _).heldQuarter.trans (dropHeld_held u)

/-! ### The supply (R180, R181) -/

theorem post_frame_held (k : NoticeKind) (i : Nat) (x : BitVec 16) (held : s.warm.held ≠ none) :
    Frame [.notices] s (post k i x s) := by
  have frame := post_frame s k i x
  have ports : (post k i x s).ports = s.ports := by
    rw [post_eq, postNotice_held s _ held]
    split <;> rfl
  intro q outside
  by_cases port : q = .ports
  · subst port
    exact ports
  · exact frame q (by simpa [port] using outside)

/-- The supply record as mains is found lost. -/
def supplyLost (s : State) : Supply :=
  { s.supply with state := .battery, debounce := none, since := s.now, reported := false }

/-- The state as the blocks meet the loss of mains. -/
def toldLost (s : State) : State := reportLow (post .mainsLost 0 (supplySeconds s) { s with supply := supplyLost s })

theorem supplyLost_frame (s : State) :
    Frame [.supply, .notices, .ports] s (post .mainsLost 0 (supplySeconds s) { s with supply := supplyLost s }) :=
  ((withSupply_frame s _).mono (by decide)).trans ((post_frame _ _ _ _).mono (by decide))

theorem toldLost_frame (s : State) : Frame [.supply, .notices, .ports] s (toldLost s) :=
  (supplyLost_frame s).trans (reportLow_frame _)

/-- A mark of low battery already set is reported at once (R182). -/
theorem toldLost_supply (s : State) : (toldLost s).supply = { supplyLost s with reported := s.supply.low } := by
  have lost : (post .mainsLost 0 (supplySeconds s) { s with supply := supplyLost s }).supply = supplyLost s := by
    rw [(post_frame _ _ _ _).supply]
  unfold toldLost
  generalize post .mainsLost 0 (supplySeconds s) { s with supply := supplyLost s } = u at lost
  rw [reportLow_eq, lost]
  cases low : s.supply.low with
  | false =>
    rw [if_neg (by simp [supplyLost, low]), lost]
    rfl
  | true => rw [if_pos (by simp [supplyLost, low]), (post_frame _ _ _ _).supply]

/-- In a warm reset the notices of the loss go to the reset notice list (R186). -/
theorem toldLost_frame_held (held : s.warm.held ≠ none) : Frame [.supply, .notices] s (toldLost s) := by
  have lost := ((withSupply_frame s (supplyLost s)).mono (qs := [.supply, .notices]) (by decide)).trans
    ((post_frame_held .mainsLost 0 (supplySeconds s) (s := { s with supply := supplyLost s }) held).mono (by decide))
  unfold toldLost
  generalize post .mainsLost 0 (supplySeconds s) { s with supply := supplyLost s } = u at lost
  have still : u.warm.held ≠ none := lost.warmHeld ▸ held
  rw [reportLow_eq]
  split
  · exact lost.trans (((withSupply_frame u _).mono (by decide)).trans
      ((post_frame_held .batteryLow 0 _ (s := { u with supply := { u.supply with reported := true } }) still).mono
        (by decide)))
  · exact lost

theorem mainsLost_due (x : Instant) (mains : s.supply.state = .mains) (since : s.supply.debounce = some x)
    (due : x + 200 ≤ s.now) : mainsLost s = if s.warm.held = none then blocksLost (toldLost s) else toldLost s := by
  have late : debounced .mains 200 s = true := by rw [debounced, mains, reached_map since due]; rfl
  have told : (toldLost s).isHeld = s.isHeld := by rw [State.isHeld, (toldLost_frame s).warmHeld]; rfl
  unfold mainsLost
  rw [late, if_neg (by decide)]
  show (if (toldLost s).isHeld = true then toldLost s else blocksLost (toldLost s)) = _
  rw [told]
  by_cases free : s.warm.held = none
  · rw [if_neg (by rw [not_isHeld free]; decide), if_pos free]
  · rw [if_pos (isHeld_of_ne free), if_neg free]

theorem debounced_eq_false {st : SupplyState} {ms : Nat}
    (idle : s.supply.state ≠ st ∨ s.supply.debounce = none ∨ ∃ x, s.supply.debounce = some x ∧ s.now < x + ms) :
    debounced st ms s = false := by
  rw [debounced]
  rcases idle with other | early
  · rw [beq_false_of_ne other, Bool.false_and]
  · rw [reached_after early, Bool.and_false]

theorem mainsLost_idle (idle : debounced .mains 200 s = false) : mainsLost s = s := by
  rw [mainsLost, idle]; rfl

theorem mainsRestored_idle (idle : debounced .battery 5000 s = false) : mainsRestored s = s := by
  rw [mainsRestored, idle]; rfl

theorem supplySeconds_eq (s : State) :
    supplySeconds s = BitVec.ofNat 16 (min 65535 ((s.now - s.supply.since) / 1000)) := rfl

/-! ### The blocks at the loss of mains (R181) -/

/-- The guards halted, the motors off and the sessions stopping. -/
def drivesLost (s : State) : State := swingsSupplyLost (allBells.foldl (fun s b => guardHalt b s) s)

theorem blocksLost_eq (s : State) :
    blocksLost s = lightsSupplyLost (strikeSupplyLost (drivesLost (dialsSupplyLost s))) := rfl

theorem drivesLost_frame (s : State) :
    Frame [.holders, .guards, .swings, .sessions, .notices, .ports] s (drivesLost s) :=
  ((Frame.foldl (fun s b => guardHalt_frame s b) allBells s).mono (by decide)).trans (swingsSupplyLost_frame _)

theorem drivesLost_running (running : (s.session n).phase = .startingBells ∨ (s.session n).phase = .ringing) :
    StoppedBySupply ((drivesLost s).session n) := by
  refine swingsSupplyLost_running ?_
  rw [State.session, (Frame.foldl (fun s b => guardHalt_frame s b) allBells s).sessions]
  exact running

theorem blocksLost_held (s : State) : (blocksLost s).strike.held = none := by
  rw [blocksLost_eq, (lightsSupplyLost_frame _).heldQuarter, strikeSupplyLost_held]

theorem blocksLost_noToll (s : State) : NoToll (blocksLost s) := by
  rw [blocksLost_eq]
  exact NoToll.of_frame (lightsSupplyLost_frame _) (strikeSupplyLost_noToll _)

theorem blocksLost_running (battery : s.supply.state = .battery)
    (running : (s.session n).phase = .startingBells ∨ (s.session n).phase = .ringing) :
    StoppedBySupply ((blocksLost s).session n) := by
  have stopped : StoppedBySupply ((drivesLost (dialsSupplyLost s)).session n) := by
    refine drivesLost_running ?_
    rw [State.session, (dialsSupplyLost_frame s).sessions]
    exact running
  rw [blocksLost_eq, State.session, (lightsSupplyLost_frame _).sessions, strikeSupplyLost_sessions]
  · exact stopped
  · rw [(drivesLost_frame _).supply, (dialsSupplyLost_frame s).supply]
    exact battery

theorem blocksLost_hands {i : Impulse} (flight : (s.dial d).flight = some i) :
    HandsCut i (s.dial d).position s.now ((blocksLost s).dial d) := by
  have hands := dialsSupplyLost_hands flight
  have later : (blocksLost s).dial d = (dialsSupplyLost s).dial d := by
    rw [blocksLost_eq]
    unfold State.dial
    rw [(lightsSupplyLost_frame _).dials, (strikeSupplyLost_frame _).dials, (drivesLost_frame _).dials]
  rw [later]
  exact hands

theorem mainsLost_supply {x : Instant} (mains : s.supply.state = .mains) (since : s.supply.debounce = some x)
    (due : x + 200 ≤ s.now) : (mainsLost s).supply = { supplyLost s with reported := s.supply.low } := by
  rw [mainsLost_due x mains since due, ← toldLost_supply]
  split
  · exact (blocksLost_frame _).supply
  · rfl

theorem mainsLost_allOff {x : Instant} (mains : s.supply.state = .mains) (since : s.supply.debounce = some x)
    (due : x + 200 ≤ s.now) (free : s.warm.held = none) : AllOff (mainsLost s) := by
  refine allOff_iff.2 (dark_iff.1 (mainsLost_dark (dark_of_mains (onMains_iff.2 mains)) fun held => absurd free held) ?_)
  rw [battery_of_not_onMains, mainsLost_supply mains since due]
  rfl

theorem mainsRestored_due {x : Instant} (battery : s.supply.state = .battery) (since : s.supply.debounce = some x)
    (due : x + 5000 ≤ s.now) : mainsRestored s =
    let u := post .mainsRestored 0 (supplySeconds s)
      { s with supply := { s.supply with state := .mains, debounce := none, since := s.now } }
    if s.warm.held = none then deriveLights (allBells.foldl (fun s b => guardResume b s) (dialsFull u)) else u := by
  have late : debounced .battery 5000 s = true := by rw [debounced, battery, reached_map since due]; rfl
  unfold mainsRestored
  rw [late, if_neg (by decide)]
  dsimp only
  have told : (post .mainsRestored 0 (supplySeconds s)
      { s with supply := { s.supply with state := .mains, debounce := none, since := s.now } }).isHeld = s.isHeld := by
    rw [State.isHeld, (post_frame _ _ _ _).warmHeld]
    rfl
  rw [told]
  by_cases free : s.warm.held = none
  · rw [if_neg (by rw [not_isHeld free]; decide), if_pos free]
    rfl
  · rw [if_pos (isHeld_of_ne free), if_neg free]

/-- Settles O58: the loss and return of mains as the blocks take it, block by block. -/
theorem lossAndReturnOfMains : Obligations.LossAndReturnOfMains := by
  unfold Obligations.LossAndReturnOfMains
  refine ⟨fun s x mains since due => ?lost, fun s x battery since due => ?restored, fun s idle => ?lostIdle,
    fun s idle => ?restoredIdle⟩
  case lost =>
    have supply := mainsLost_supply mains since due
    have free_eq (free : s.warm.held = none) : mainsLost s = blocksLost (toldLost s) :=
      (mainsLost_due x mains since due).trans (if_pos free)
    refine ⟨mainsLost s, rfl, by rw [supply]; rfl, by rw [supply]; rfl, by rw [supply]; rfl, by rw [supply],
      (mainsLost_frame s).tb, (mainsLost_frame s).lines, fun free => ?_, mainsLost_frame s, fun held => ?_⟩
    · refine ⟨mainsLost_allOff mains since due free, ?_⟩
      rw [free_eq free]
      have told := toldLost_frame s
      refine ⟨blocksLost_held _, blocksLost_noToll _, fun n running => ?_, fun d i flight => ?_⟩
      · refine blocksLost_running (by rw [toldLost_supply]; rfl) ?_
        rw [State.session, told.sessions]
        exact running
      · have same : (toldLost s).dial d = s.dial d := congrArg (fun v => v[d]) told.dials
        have hands := blocksLost_hands (same ▸ flight)
        rw [same, told.now] at hands
        exact hands
    · rw [mainsLost_due x mains since due, if_neg held]
      exact toldLost_frame_held held
  case restored => exact congrArg Host.Outcome.next (mainsRestored_due battery since due)
  case lostIdle =>
    refine congrArg Host.Outcome.next (mainsLost_idle (debounced_eq_false (idle.imp_left fun battery => ?_)))
    rw [battery]
    nofun
  case restoredIdle =>
    refine congrArg Host.Outcome.next (mainsRestored_idle (debounced_eq_false (idle.imp_left fun mains => ?_)))
    rw [mains]
    nofun

end Sys2Proof.Machine
end

section
/-! SUPPORT. The entry of a warm reset (R26, R57, R85, R94, R103, R116, R145, R175, R185). -/

namespace Sys2Proof.Machine

set_option Elab.async false

variable {s t : State}

/-! ### Aborted edits with no quarter held (R116) -/

/-- With no quarter held the Strike Unit does nothing with a tune that changes. -/
theorem changeTune_free (k : Fin 24) (r : Tune) (free : s.strike.held = none) : changeTune k r s = s.setTune k r := by
  have same : (s.setTune k r).strike.held = none := free
  rw [changeTune, tuneHandoff, same]

/-- A tune as the abort of its edit leaves it. -/
def Tune.aborted (r : Tune) : Tune := if r.isEditing = true then { content := .empty, revision := r.revision } else r

theorem abortEdit_eq (k : Fin 24) (s : State) : abortEdit k s =
    if (s.tune k).isEditing = true then changeTune k (s.tune k).aborted s else s := by
  cases content : (s.tune k).content with
  | editing xs x =>
    have editing := Tune.isEditing_of_editing content
    rw [abortEdit_editing content, if_pos editing, Tune.aborted, if_pos editing]
  | _ =>
    rw [if_neg (by rw [Tune.isEditing, content]; exact Bool.false_ne_true), abortEdit, content]

theorem abortEdits_tune (k : Fin 24) (s : State) : (abortEdits s).tune k = (s.tune k).aborted := by
  refine foldl_turn (f := fun s k => abortEdit k s) (fun u => u.tune k) (Q := fun r => r = (s.tune k).aborted)
    (fun u same => ?_) (fun j u other => ?_) (List.nodup_finRange 24) (List.mem_finRange k) rfl
  · rw [abortEdit_eq, ← same]
    split
    · exact changeTune_tune_self k _ u
    next still => exact (if_neg still).symm
  · rw [abortEdit_eq]
    split
    · exact changeTune_tune_ne other.symm _ u
    · rfl

theorem abortEdits_frame_free (free : s.strike.held = none) : Frame [.tunes] s (abortEdits s) := by
  refine foldl_keeps (P := Frame [.tunes] s) (fun u k kept => kept.trans ?_) allTunes (Frame.refl _ s)
  rw [abortEdit_eq]
  split
  · rw [changeTune_free k _ (kept.heldQuarter.trans free)]
    exact State.setTune_frame u k _
  · exact Frame.refl _ u

/-! ### The records at the entry -/

theorem Session.warmReset_eq (r : Session) : r.warmReset = if r.phase = .ended then r else { r with
    phase := .stoppingBells, nextStart := none, nextStop := none
    endCause := if r.phase = .stoppingBells then r.endCause else .warmReset } := by
  unfold Session.warmReset
  cases phase : r.phase <;> simp

theorem Channel.warmReset_eq (r : Channel) (now : Instant) : r.warmReset now =
    if r.state = .warming ∨ r.state = .lit then { r with
      state := if r.restrike = 0 then .off else .cooling, lastOff := .reset
      restrikeExpiry := some (now + r.restrike * 1000), resetLeft := some r.state
      switchOn := none, warmEnd := none, pendingOn := false, watch := .idle }
    else { r with switchOn := none, warmEnd := none, pendingOn := false, watch := .idle } := by
  have output : r.state.output = true ↔ r.state = .warming ∨ r.state = .lit := by cases r.state <;> decide
  unfold Channel.warmReset
  by_cases lit : r.state = .warming ∨ r.state = .lit
  · rw [if_pos (output.2 lit), if_pos lit]
    rfl
  · rw [if_neg fun h => lit (output.1 h), if_neg lit]

/-- The state as the entry of a warm reset leaves it before the edits of tunes are aborted. -/
def resetRecords (s : State) : State :=
  { s.setRef { s.ref.expire with rx := [] } with
    dials := mapV Dial.warmReset s.dials
    bells := mapV Bell.warmReset s.bells
    swings := mapV Swing.warmReset s.swings
    sessions := mapV Session.warmReset s.sessions
    strike := s.strike.warmReset
    lights := mapV (Channel.warmReset s.now) s.lights
    ports := Vector.ofFn coldPort
    warm := { held := some s.now } }

theorem enterWarmReset_eq (s : State) : enterWarmReset s = abortEdits (resetRecords s) := rfl

theorem enterWarmReset_tunes (s : State) : Frame [.tunes] (resetRecords s) (enterWarmReset s) := by
  rw [enterWarmReset_eq]
  exact abortEdits_frame_free rfl

/-- Neither the marker of quarters nor the last outcome moves, for no quarter is held any more. -/
theorem enterWarmReset_frame_exact (s : State) : Frame [.ref, .dials, .guards, .hammers, .swings, .sessions, .tunes,
    .queue, .held, .tolls, .lights, .hold, .notices, .ports] s (enterWarmReset s) := by
  intro q outside
  by_cases quarters : q = .quarters
  · subst quarters
    exact enterWarmReset_tunes s .quarters (by decide)
  · exact enterWarmReset_frame s q (by simpa [quarters] using outside)

theorem warmResetEntry_due {x : Instant} (free : s.warm.held = none) (since : s.warm.since = some x)
    (due : x + 10 ≤ s.now) : warmResetEntry s = enterWarmReset s := by
  rw [warmResetEntry, not_isHeld free, resetTimed, reached_map since due]
  rfl

theorem resetTimed_eq_false (early : s.warm.since = none ∨ ∃ x, s.warm.since = some x ∧ s.now < x + 10) :
    resetTimed s = false := reached_after early

theorem warmResetEntry_idle (idle : s.warm.held ≠ none ∨ s.warm.since = none ∨ ∃ x, s.warm.since = some x ∧ s.now < x + 10) :
    warmResetEntry s = s := by
  refine if_pos ?_
  rcases idle with held | early
  · rw [isHeld_of_ne held]
    rfl
  · rw [resetTimed_eq_false early, Bool.not_false, Bool.or_true]

theorem Frame.bell {ps : List Part} (h : Frame ps s t) (b : Fin 16) (configs : .bellConfigs ∉ ps := by decide)
    (holders : .holders ∉ ps := by decide) (guards : .guards ∉ ps := by decide) (hammers : .hammers ∉ ps := by decide) :
    t.bell b = s.bell b := by
  calc t.bell b = ⟨(t.bell b).config, (t.bell b).holder, (t.bell b).guard, (t.bell b).lastStrike, (t.bell b).pulseEnd⟩ := rfl
    _ = s.bell b := by
      rw [h.config b configs, h.holder b holders, h.guard b guards, h.lastStrike b hammers, h.pulseEnd b hammers]

theorem Frame.warm {ps : List Part} (h : Frame ps s t) (hold : .hold ∉ ps := by decide)
    (notices : .notices ∉ ps := by decide) : t.warm = s.warm := by
  obtain ⟨since, held⟩ := h .hold hold
  obtain ⟨list, lost⟩ := h .notices notices
  calc t.warm = ⟨t.warm.since, t.warm.held, t.warm.notices, t.warm.lost⟩ := rfl
    _ = s.warm := by rw [since, held, list, lost]

/-! ### What each block has after the entry -/

section
variable (s : State)

theorem enterWarmReset_warm : (enterWarmReset s).warm = { held := some s.now } := (enterWarmReset_tunes s).warm

theorem enterWarmReset_port (p : Port) : (enterWarmReset s).port p = coldPort (portIndex p) := by
  rw [State.port, (enterWarmReset_tunes s).ports]
  exact Vector.getElem_ofFn _

theorem enterWarmReset_attn (p : Port) : (enterWarmReset s).attn p = false := by
  unfold State.attn
  rw [enterWarmReset_warm]
  exact Bool.and_false _

theorem enterWarmReset_dial (d : Fin 4) : (enterWarmReset s).dial d = (s.dial d).warmReset := by
  rw [State.dial, (enterWarmReset_tunes s).dials]
  exact mapV_get Dial.warmReset s.dials d.1 d.2

theorem enterWarmReset_bell (b : Fin 16) : (enterWarmReset s).bell b = (s.bell b).warmReset := by
  rw [(enterWarmReset_tunes s).bell b]
  exact mapV_get Bell.warmReset s.bells b.1 b.2

theorem enterWarmReset_swing (b : Fin 16) : (enterWarmReset s).swing b = { state := .stopping } := by
  rw [State.swing, (enterWarmReset_tunes s).swings]
  exact mapV_get Swing.warmReset s.swings b.1 b.2

theorem enterWarmReset_session (n : Fin 4) : (enterWarmReset s).session n = (s.session n).warmReset := by
  rw [State.session, (enterWarmReset_tunes s).sessions]
  exact mapV_get Session.warmReset s.sessions n.1 n.2

theorem enterWarmReset_tune (k : Fin 24) : (enterWarmReset s).tune k = (s.tune k).aborted := by
  rw [enterWarmReset_eq, abortEdits_tune]
  rfl

theorem enterWarmReset_toll (n : Fin 4) : (enterWarmReset s).toll n = none := by
  rw [State.toll, (enterWarmReset_tunes s).tolls]
  exact Vector.getElem_replicate _

end

end Sys2Proof.Machine
end

section
/-! SUPPORT. The completion of a warm reset (R72, R94, R165, R169, R175, R183, R187). -/

namespace Sys2Proof.Machine

set_option Elab.async false

variable {s t u : State} {b e : Fin 16}

/-! ### What posting moves of the ports and of the reset's own record -/

/-- The notices posted from one state to another: outside a warm reset its record stands, and the front of every queue
stays in front. -/
structure Told (s t : State) : Prop where
  warm : s.warm.held = none → t.warm = s.warm
  front : ∀ p n, (s.port p).queue.head? = some n → (t.port p).queue.head? = some n

namespace Told

theorem refl (s : State) : Told s s := ⟨fun _ => rfl, fun _ _ front => front⟩

theorem trans (h : Told s t) (k : Told t u) : Told s u where
  warm free := (k.warm (h.warm free ▸ free)).trans (h.warm free)
  front p n front := k.front p n (h.front p n front)

theorem of_frame {ps : List Part} (h : Frame ps s t) (hold : .hold ∉ ps := by decide)
    (notices : .notices ∉ ps := by decide) (ports : .ports ∉ ps := by decide) : Told s t where
  warm _ := h.warm hold notices
  front p n front := by
    rw [State.port, h.ports ports]
    exact front

theorem take_front (n m : Notice) (r : LinkPort) (front : r.queue.head? = some n) : (r.take m).queue.head? = some n := by
  unfold LinkPort.take
  split
  · split
    · rw [List.head?_append, front]; rfl
    · exact front
  · exact front

theorem postNotice (n : Notice) (s : State) : Told s (postNotice n s) := by
  by_cases free : s.warm.held = none
  · rw [postNotice_free s n free]
    refine ⟨fun _ => rfl, fun p m front => ?_⟩
    rw [mapV_port]
    exact take_front m n _ front
  · refine ⟨fun free' => absurd free' free, fun p m front => ?_⟩
    rw [postNotice_held s n free]
    split <;> exact front

theorem post (k : NoticeKind) (i : Nat) (x : BitVec 16) (s : State) : Told s (post k i x s) := postNotice _ s

theorem foldl {α : Type} {f : State → α → State} (h : ∀ s x, Told s (f s x)) (xs : List α) (s : State) :
    Told s (xs.foldl f s) :=
  foldl_keeps (P := Told s) (fun u x told => told.trans (h u x)) xs (refl s)

end Told

/-! ### Reading the guards (R72) -/

/-- What reading and moving a guard leaves: every contact as settled, and the notices told. -/
structure GuardsMove (s t : State) : Prop where
  told : Told s t
  contacts : ∀ b c, (t.bell b).guard.contact c = (s.bell b).guard.contact c

namespace GuardsMove

theorem refl (s : State) : GuardsMove s s := ⟨.refl s, fun _ _ => rfl⟩

theorem trans (h : GuardsMove s t) (k : GuardsMove t u) : GuardsMove s u :=
  ⟨h.told.trans k.told, fun b c => (k.contacts b c).trans (h.contacts b c)⟩

theorem post (k : NoticeKind) (i : Nat) (x : BitVec 16) (s : State) : GuardsMove s (post k i x s) :=
  ⟨.post k i x s, fun b c => by rw [(post_frame s k i x).guard b]⟩

theorem setGuard {g : Guard} (contacts : ∀ c, g.contact c = (s.bell b).guard.contact c := by exact fun c => by cases c <;> rfl) :
    GuardsMove s (s.setGuard b g) := by
  refine ⟨.of_frame (State.setGuard_frame s b g), fun e c => ?_⟩
  by_cases same : e = b
  · subst same
    rw [State.setGuard_guard]
    exact contacts c
  · rw [State.setGuard, State.setBell_bell, if_neg same]

theorem guardComplete (b : Fin 16) (s : State) : GuardsMove s (guardComplete b s) := by
  have tried (u : State) : GuardsMove u (tryStartOf b u) :=
    ⟨.of_frame (tryStartOf_frame u b), fun e c => by rw [(tryStartOf_frame u b).guard e]⟩
  exact trans setGuard (trans (post _ _ _ _) (tried _))

theorem guardBegin (b : Fin 16) (s : State) : GuardsMove s (guardBegin b s) := by
  unfold Machine.guardBegin
  dsimp only
  repeat' split
  · exact setGuard
  · exact setGuard
  · exact guardComplete b s
  · exact setGuard

theorem guardEngage (b : Fin 16) (s : State) : GuardsMove s (guardEngage b s) := by
  unfold Machine.guardEngage
  dsimp only
  split
  · exact refl s
  · split
    · exact trans setGuard (guardBegin b _)
    · exact trans setGuard (guardBegin b _)
    all_goals exact setGuard

theorem guardRelease (b : Fin 16) (s : State) : GuardsMove s (guardRelease b s) := by
  unfold Machine.guardRelease
  dsimp only
  split
  · exact refl s
  · repeat' split
    all_goals first
      | exact setGuard
      | exact trans setGuard (guardBegin b _)

theorem readGuard (b : Fin 16) (s : State) : GuardsMove s (readGuard b s) := by
  unfold Machine.readGuard
  dsimp only
  split
  · exact trans setGuard (post _ _ _ _)
  · split
    · exact setGuard
    · exact trans setGuard (guardEngage b _)
  · exact trans setGuard (guardRelease b _)

end GuardsMove

theorem bellCompletion_told (b : Fin 16) (s : State) : Told s (bellCompletion b s) := by
  unfold bellCompletion
  dsimp only
  have set (g : Guard) : Told s (s.setGuard b g) := .of_frame (State.setGuard_frame s b g)
  split
  · exact (set _).trans (GuardsMove.readGuard b _).told
  · exact set _

/-- A contact that no settling runs for is read as it stands. -/
theorem bellCompletion_contact (e : Fin 16) (c : Contact) (idle : ((s.bell b).guard.contact c).since = none) :
    ((bellCompletion e s).bell b).guard.contact c = (s.bell b).guard.contact c := by
  have settle (l : ContactLevel) (line : Bool) (idle : l.since = none) : l.settle line s.now = l :=
    if_neg (by rw [settleReached, idle]; exact Bool.false_ne_true)
  have set : ((s.setGuard e { (s.bell e).guard with
      atEng := (s.bell e).guard.atEng.settle s.lines.guardEng[e] s.now
      atDis := (s.bell e).guard.atDis.settle s.lines.guardDis[e] s.now }).bell b).guard.contact c =
      (s.bell b).guard.contact c := by
    by_cases same : b = e
    · subst same
      rw [State.setGuard_guard]
      cases c
      · exact settle _ _ idle
      · exact settle _ _ idle
    · rw [State.setGuard, State.setBell_bell, if_neg same]
  unfold bellCompletion
  dsimp only
  split
  · rw [(GuardsMove.readGuard e _).contacts]
    exact set
  · exact set

theorem bellsCompleted_contact (c : Contact) (idle : ((s.bell b).guard.contact c).since = none) :
    ((allBells.foldl (fun s e => bellCompletion e s) s).bell b).guard.contact c = (s.bell b).guard.contact c := by
  refine foldl_keeps (P := fun u => (u.bell b).guard.contact c = (s.bell b).guard.contact c) (fun u e same => ?_) allBells rfl
  rw [bellCompletion_contact e c (by rw [same]; exact idle)]
  exact same

/-! ### The swings (R94) -/

theorem swingCompletion_settle (b : Fin 16) (s : State) :
    ((swingCompletion b s).swing b).settleDeadline = some (s.now + (s.bell b).config.settle * 1000) := by
  rw [swingCompletion, State.setSwing_swing_self]
  rfl

theorem swingsCompleted_settle (b : Fin 16) (s : State) :
    ((allBells.foldl (fun s e => swingCompletion e s) s).swing b).settleDeadline =
      some (s.now + (s.bell b).config.settle * 1000) := by
  have turn := foldl_turn (f := fun s e => swingCompletion e s) (x := b) (xs := allBells) (s := s)
    (fun u => ((u.swing b).settleDeadline, u.now + (u.bell b).config.settle * 1000))
    (r := ((s.swing b).settleDeadline, s.now + (s.bell b).config.settle * 1000))
    (Q := fun x => x.1 = some (s.now + (s.bell b).config.settle * 1000))
    (fun u same => by
      rw [← (Prod.mk.inj same).2]
      exact swingCompletion_settle b u)
    (fun e u other => by
      rw [(swingCompletion_frame u e).now, (swingCompletion_frame u e).config b, swingCompletion,
        State.setSwing_swing_ne u other])
    (List.nodup_finRange 16) (List.mem_finRange b) rfl
  dsimp only at turn
  exact turn

/-! ### The channels (R165, R169, R175) -/

/-- The configuration of a channel and its revision. -/
def Channel.terms (r : Channel) : Bool × LampKind × Nat × Nat × Bool × Bool × Nat :=
  (r.configured, r.kind, r.warmUp, r.restrike, r.follow, r.sense, r.revision)

theorem Channel.terms_iff {r q : Channel} : q.terms = r.terms ↔ q.configured = r.configured ∧ q.kind = r.kind ∧
    q.warmUp = r.warmUp ∧ q.restrike = r.restrike ∧ q.follow = r.follow ∧ q.sense = r.sense ∧ q.revision = r.revision := by
  simp only [Channel.terms, Prod.mk.injEq]

/-- What no derivation, no restrike expiry and no notice owed changes of a channel. -/
structure ChannelKept (r q : Channel) : Prop where
  terms : q.terms = r.terms
  override : q.override = r.override ∧ q.expiry = r.expiry
  resetLeft : q.resetLeft = r.resetLeft
  failed : r.state = .failed → q.state = .failed

namespace ChannelKept

variable {r q z : Channel} {c d : Fin 8}

theorem refl (r : Channel) : ChannelKept r r := ⟨rfl, ⟨rfl, rfl⟩, rfl, id⟩

theorem of_eq (same : q = r) : ChannelKept r q := same ▸ refl r

theorem trans (h : ChannelKept r q) (k : ChannelKept q z) : ChannelKept r z where
  terms := k.terms.trans h.terms
  override := ⟨k.override.1.trans h.override.1, k.override.2.trans h.override.2⟩
  resetLeft := k.resetLeft.trans h.resetLeft
  failed failed := k.failed (h.failed failed)

theorem switchOn (c : Fin 8) (cause : LightCause) (s : State) (sound : (s.light c).state ≠ .failed) :
    ChannelKept (s.light c) ((switchOn c cause s).light c) := by
  obtain ⟨w, row⟩ := switchOn_light c cause s
  rw [row]
  exact ⟨rfl, ⟨rfl, rfl⟩, rfl, fun failed => absurd failed sound⟩

theorem switchOff (c : Fin 8) (off : OffCause) (cause : LightCause) (s : State) (sound : (s.light c).state ≠ .failed) :
    ChannelKept (s.light c) ((switchOff c off cause s).light c) := by
  rw [switchOff_light]
  exact ⟨rfl, ⟨rfl, rfl⟩, rfl, fun failed => absurd failed sound⟩

theorem recordDerived (c : Fin 8) (s : State) : ChannelKept (s.light c) ((recordDerived c s).light c) := by
  rw [recordDerived_light]
  exact ⟨rfl, ⟨rfl, rfl⟩, rfl, id⟩

theorem deriveLight_self (c : Fin 8) (s : State) : ChannelKept (s.light c) ((deriveLight c s).light c) := by
  have recorded := recordDerived c s
  have state : ((Machine.recordDerived c s).light c).state = (s.light c).state := by rw [recordDerived_light]; rfl
  rw [deriveLight_eq]
  cases here : (s.light c).state with
  | off =>
    dsimp only
    split
    · exact recorded.trans (switchOn c _ _ (by rw [state, here]; nofun))
    · exact recorded
  | warming =>
    dsimp only
    split
    · exact recorded
    · exact recorded.trans (switchOff c _ _ _ (by rw [state, here]; nofun))
  | lit =>
    dsimp only
    split
    · exact recorded
    · exact recorded.trans (switchOff c _ _ _ (by rw [state, here]; nofun))
  | cooling =>
    dsimp only
    rw [State.setLight_light_self]
    exact ⟨rfl, ⟨rfl, rfl⟩, rfl, id⟩
  | failed => exact recorded

theorem deriveLight (c d : Fin 8) (s : State) : ChannelKept (s.light c) ((deriveLight d s).light c) := by
  by_cases same : c = d
  · exact same ▸ deriveLight_self c s
  · exact of_eq (deriveLight_other same)

theorem deriveLights (c : Fin 8) (s : State) : ChannelKept (s.light c) ((deriveLights s).light c) :=
  foldl_keeps (P := fun u => ChannelKept (s.light c) (u.light c))
    (fun u d kept => kept.trans (deriveLight c d u)) allChannels (refl _)

theorem restrikeExpiry_self (c : Fin 8) (s : State) : ChannelKept (s.light c) ((restrikeExpiry c s).light c) := by
  have recorded := recordDerived c s
  have state : ((Machine.recordDerived c s).light c).state = (s.light c).state := by rw [recordDerived_light]; rfl
  unfold Machine.restrikeExpiry
  dsimp only
  split
  · exact refl _
  next due =>
    have sound : ((Machine.recordDerived c s).light c).state ≠ .failed := by
      intro failed
      rw [state] at failed
      simp [failed] at due
    split
    · exact recorded.trans (switchOn c _ _ sound)
    · rw [channelNotice_light, State.setLight_light_self]
      exact recorded.trans ⟨rfl, ⟨rfl, rfl⟩, rfl, fun failed => absurd failed sound⟩

end ChannelKept

/-- A channel as the test of its override leaves it (R165). -/
def Channel.tested (r : Channel) (due : Bool) : Channel := if due = true then { r with override := .auto, expiry := none } else r

theorem Channel.tested_state (r : Channel) (due : Bool) : (r.tested due).state = r.state := by cases due <;> rfl
theorem Channel.tested_terms (r : Channel) (due : Bool) : (r.tested due).terms = r.terms := by cases due <;> rfl
theorem Channel.tested_resetLeft (r : Channel) (due : Bool) : (r.tested due).resetLeft = r.resetLeft := by cases due <;> rfl

theorem ChannelKept.tested {r q : Channel} (h : ChannelKept r q) (due : Bool) : ChannelKept (r.tested due) (q.tested due) := by
  refine ⟨?_, ?_, ?_, ?_⟩
  · rw [Channel.tested_terms, Channel.tested_terms, h.terms]
  · cases due
    · exact h.override
    · exact ⟨rfl, rfl⟩
  · rw [Channel.tested_resetLeft, Channel.tested_resetLeft, h.resetLeft]
  · rw [Channel.tested_state, Channel.tested_state]
    exact h.failed

section
variable {c d : Fin 8}

theorem overrideReached_congr (civil : t.civilNow = s.civilNow) (expiry : (t.light c).expiry = (s.light c).expiry) :
    overrideReached c t = overrideReached c s := by
  rw [overrideReached, overrideReached, civil, expiry]

theorem overrideTest_self (c : Fin 8) (s : State) :
    ChannelKept ((s.light c).tested (overrideReached c s)) ((overrideTest c s).light c) := by
  unfold overrideTest Channel.tested
  split
  · have derived := ChannelKept.deriveLight c c (s.setLight c { s.light c with override := .auto, expiry := none })
    rw [State.setLight_light_self] at derived
    exact derived
  · exact .refl _

theorem overrideTest_other (other : d ≠ c) : (overrideTest d s).light c = s.light c := by
  unfold overrideTest
  split
  · rw [deriveLight_other other.symm, State.setLight_light_ne s other]
  · rfl

theorem overrideTests_kept (c : Fin 8) (s : State) :
    ChannelKept ((s.light c).tested (overrideReached c s)) ((overrideTests s).light c) := by
  have turn := foldl_turn (f := fun s d => overrideTest d s) (x := c) (xs := allChannels) (s := s)
    (fun u => (u.light c, overrideReached c u)) (r := (s.light c, overrideReached c s))
    (Q := fun x => ChannelKept ((s.light c).tested (overrideReached c s)) x.1)
    (fun u same => by
      obtain ⟨row, due⟩ := Prod.mk.inj same
      rw [← row, ← due]
      exact overrideTest_self c u)
    (fun d u other => by
      have row := overrideTest_other (s := u) other
      have frame := overrideTest_frame u d
      rw [row, overrideReached_congr (civilNow_congr (congrArg TimeBase.label frame.tb) frame.civil) (by rw [row])])
    (List.nodup_finRange 8) (List.mem_finRange c) rfl
  exact turn

/-! ### The restrike times (R169) -/

/-- A channel that is COOLING has its restrike time before it. -/
def RestsOn (now : Instant) (r : Channel) : Prop := ∀ z, r.state = .cooling → r.restrikeExpiry = some z → now < z

theorem restrikeExpiry_other (other : d ≠ c) : (restrikeExpiry d s).light c = s.light c := by
  have recorded : (recordDerived d s).light c = s.light c := State.setLight_light_ne s other _
  unfold restrikeExpiry
  dsimp only
  repeat' split
  · rfl
  · rw [switchOn_other _ other.symm, recorded]
  · rw [channelNotice_light, State.setLight_light_ne _ other, recorded]

theorem restrikeExpiry_kept (c d : Fin 8) (s : State) : ChannelKept (s.light c) ((restrikeExpiry d s).light c) := by
  by_cases same : d = c
  · exact same ▸ ChannelKept.restrikeExpiry_self d s
  · exact .of_eq (restrikeExpiry_other same)

theorem restrikeExpiry_restsOn (c : Fin 8) (free : s.warm.held = none) :
    RestsOn s.now ((restrikeExpiry c s).light c) := by
  intro z
  unfold restrikeExpiry
  dsimp only
  split
  next idle =>
    intro cooling ends
    rw [not_isHeld free, cooling, ends] at idle
    simpa [reached] using idle
  next =>
    intro cooling
    split at cooling
    · obtain ⟨w, row⟩ := switchOn_light c .expiry (recordDerived c s)
      rw [row] at cooling
      dsimp only at cooling
      split at cooling <;> nomatch cooling
    · rw [channelNotice_light, State.setLight_light_self] at cooling
      nomatch cooling

theorem restrikesTaken_restsOn (c : Fin 8) (free : s.warm.held = none) :
    RestsOn s.now ((allChannels.foldl (fun s d => restrikeExpiry d s) s).light c) := by
  have turn := foldl_turn (f := fun s d => restrikeExpiry d s) (x := c) (xs := allChannels) (s := s)
    (fun u => (u.light c, u.warm.held, u.now)) (r := (s.light c, none, s.now)) (Q := fun x => RestsOn s.now x.1)
    (fun u same => by
      obtain ⟨-, held, now⟩ : u.light c = s.light c ∧ u.warm.held = none ∧ u.now = s.now := by simpa using same
      rw [← now]
      exact restrikeExpiry_restsOn c held)
    (fun d u other => by
      rw [restrikeExpiry_other other, (restrikeExpiry_frame u d).warmHeld, (restrikeExpiry_frame u d).now])
    (List.nodup_finRange 8) (List.mem_finRange c) (by rw [free])
  exact turn

/-! ### The notices a reset owes (R175) -/

theorem resetNotice_self (c : Fin 8) (s : State) : (resetNotice c s).light c = { s.light c with resetLeft := none } := by
  unfold resetNotice
  dsimp only
  split
  next none =>
    calc s.light c = { s.light c with resetLeft := (s.light c).resetLeft } := rfl
      _ = { s.light c with resetLeft := .none } := by rw [none]
  · rw [channelNotice_light, State.setLight_light_self]

theorem resetNotice_other (other : d ≠ c) : (resetNotice d s).light c = s.light c := by
  unfold resetNotice
  dsimp only
  split
  · rfl
  · rw [channelNotice_light, State.setLight_light_ne s other]

theorem resetNotices_light (c : Fin 8) (s : State) :
    (allChannels.foldl (fun s d => resetNotice d s) s).light c = { s.light c with resetLeft := none } := by
  have turn := foldl_turn (f := fun s d => resetNotice d s) (x := c) (xs := allChannels) (s := s)
    (fun u => u.light c) (r := s.light c) (Q := fun q => q = { s.light c with resetLeft := none })
    (fun u same => by rw [← same]; exact resetNotice_self c u) (fun d u other => resetNotice_other other)
    (List.nodup_finRange 8) (List.mem_finRange c) rfl
  exact turn

/-! ### The channels through the completion -/

theorem lightsCompletion_kept (c : Fin 8) (s : State) :
    ChannelKept { s.light c with resetLeft := none } ((lightsCompletion s).light c) := by
  have derived := ChannelKept.deriveLights c (allChannels.foldl (fun s d => resetNotice d s) s)
  rw [resetNotices_light] at derived
  exact derived

theorem restrikesTaken_kept (c : Fin 8) (s : State) :
    ChannelKept (s.light c) ((allChannels.foldl (fun s d => restrikeExpiry d s) s).light c) :=
  foldl_keeps (P := fun u => ChannelKept (s.light c) (u.light c))
    (fun u d kept => kept.trans (restrikeExpiry_kept c d u)) allChannels (.refl _)

theorem heldDeadlines_kept (c : Fin 8) (s : State) :
    ChannelKept ((s.light c).tested (overrideReached c s)) ((heldDeadlines s).light c) :=
  (overrideTests_kept c s).trans (restrikesTaken_kept c (overrideTests s))

theorem lightsSettled_kept (c : Fin 8) (s : State) :
    ChannelKept (({ s.light c with resetLeft := none } : Channel).tested (overrideReached c s))
      ((heldDeadlines (lightsCompletion s)).light c) := by
  have completed := lightsCompletion_kept c s
  have frame := lightsCompletion_frame s
  have due := overrideReached_congr (c := c) (civilNow_congr (congrArg TimeBase.label frame.tb) frame.civil) completed.override.2
  have settled := heldDeadlines_kept c (lightsCompletion s)
  rw [due] at settled
  exact (completed.tested _).trans settled

theorem heldDeadlines_restsOn (c : Fin 8) (free : s.warm.held = none) :
    RestsOn s.now ((heldDeadlines s).light c) := by
  have frame := overrideTests_frame s
  have rests := restrikesTaken_restsOn c (s := overrideTests s) (frame.warmHeld.trans free)
  rw [frame.now] at rests
  exact rests

/-! ### The notices of the dials and the channels -/

theorem enterDial_told (d : Fin 4) (st : DialState) (s : State) : Told s (enterDial d st s) := by
  by_cases same : (s.dial d).state = st
  · rw [enterDial_same same]
    exact .refl s
  · rw [enterDial_change same]
    exact (Told.of_frame (State.setDial_frame s d _)).trans (.post _ _ _ _)

theorem fullCause_told (d : Fin 4) (s : State) : Told s (fullCause d s) := by
  have decided : Told s (fullDecision d s) := by
    unfold fullDecision
    split <;> exact enterDial_told d _ s
  unfold fullCause
  dsimp only
  repeat' split
  · exact .refl s
  · exact .of_frame (State.setDial_frame s d _)
  · exact decided

theorem channelNotice_told (c : Fin 8) (left entered : ChannelState) (cause : LightCause) (s : State) :
    Told s (channelNotice c left entered cause s) := by
  unfold channelNotice
  split
  · exact .refl s
  · exact .post _ _ _ _

theorem setLight_told (c : Fin 8) (r : Channel) (s : State) : Told s (s.setLight c r) := .of_frame (State.setLight_frame s c r)

theorem switchOn_told (c : Fin 8) (cause : LightCause) (s : State) : Told s (switchOn c cause s) :=
  ((setLight_told c _ s).trans (channelNotice_told c _ _ _ _)).trans (.of_frame (tryWatch_frame _ c))

theorem switchOff_told (c : Fin 8) (off : OffCause) (cause : LightCause) (s : State) : Told s (switchOff c off cause s) :=
  (setLight_told c _ s).trans (channelNotice_told c _ _ _ _)

theorem deriveLight_told (c : Fin 8) (s : State) : Told s (deriveLight c s) := by
  have recorded := setLight_told c (derivedRow c s) s
  rw [deriveLight_eq]
  repeat' split
  · exact recorded.trans (switchOn_told c _ _)
  · exact recorded
  · exact recorded
  · exact recorded.trans (switchOff_told c _ _ _)
  · exact recorded
  · exact recorded.trans (switchOff_told c _ _ _)
  · exact setLight_told c _ s
  · exact recorded

theorem overrideTest_told (c : Fin 8) (s : State) : Told s (overrideTest c s) := by
  unfold overrideTest
  split
  · exact (setLight_told c _ s).trans (deriveLight_told c _)
  · exact .refl s

theorem resetNotice_told (c : Fin 8) (s : State) : Told s (resetNotice c s) := by
  unfold resetNotice
  dsimp only
  split
  · exact .refl s
  · exact (setLight_told c _ s).trans (channelNotice_told c _ _ _ _)

theorem restrikeExpiry_told (c : Fin 8) (s : State) : Told s (restrikeExpiry c s) := by
  have recorded := setLight_told c (derivedRow c s) s
  unfold restrikeExpiry
  dsimp only
  repeat' split
  · exact .refl s
  · exact recorded.trans (switchOn_told c _ _)
  · exact (recorded.trans (setLight_told c _ _)).trans (channelNotice_told c _ _ _ _)

theorem lightsSettled_told (s : State) : Told s (heldDeadlines (lightsCompletion s)) := by
  have owed := Told.foldl (fun s c => resetNotice_told c s) allChannels s
  have derived := owed.trans (Told.foldl (fun s c => deriveLight_told c s) allChannels _)
  have tested := derived.trans (Told.foldl (fun s c => overrideTest_told c s) allChannels _)
  exact tested.trans (Told.foldl (fun s c => restrikeExpiry_told c s) allChannels _)

/-! ### The steps of the completion (R187) -/

/-- The reset ended and its end announced. -/
def announced (entry : Instant) (s : State) : State :=
  let s := { s with warm := {} }
  post .warmResetDone 0 (BitVec.ofNat 16 (sat 65535 (s.now - entry))) s

/-- The notices of the reset handed to the ports, with the mark of a lost one. -/
def handedOver (entry : Instant) (s : State) : State :=
  let u := s.warm.notices.foldl (fun s n => postNotice n s) (announced entry s)
  if s.warm.lost then { u with ports := mapV (fun p : LinkPort => { p with lost := true }) u.ports } else u

/-- The guards read and the swings settling. -/
def bellsCompleted (s : State) : State :=
  allBells.foldl (fun s b => swingCompletion b s) (allBells.foldl (fun s b => bellCompletion b s) s)

/-- The civil minute the calendar was held until. -/
def calendarHeld (s : State) : State := { s with cal := { s.cal with heldUntil := s.civilNow.map Label.dayMinute } }

theorem completeWarmReset_eq (entry : Instant) (s : State) : completeWarmReset entry s =
    heldDeadlines (lightsCompletion (dialsFull (calendarHeld (bellsCompleted (handedOver entry s))))) := by
  unfold completeWarmReset handedOver bellsCompleted calendarHeld announced
  dsimp only

theorem announced_warm (entry : Instant) (s : State) : (announced entry s).warm = {} := by
  simp only [announced]
  rw [post_eq, postNotice_free _ _ rfl]

/-- The notice that a warm reset entered at an instant is done. -/
def doneNotice (entry : Instant) (s : State) : Notice :=
  { kind := .warmResetDone, subject := 0, detail := BitVec.ofNat 16 (min 65535 (s.now - entry)), stamp := s.now,
    label := s.tb.label }

theorem announced_front (entry : Instant) {p : Port} (empty : (s.port p).queue = [])
    (routed : (s.port p).routing.getLsbD 7 = true) :
    ((announced entry s).port p).queue.head? = some (doneNotice entry s) := by
  have takes : (s.port p).take (doneNotice entry s) = { s.port p with queue := [doneNotice entry s] } := by
    have cls : (doneNotice entry s).kind.cls = 7 := show NoticeKind.warmResetDone.cls = 7 by decide
    rw [LinkPort.take, cls, if_pos routed, empty, if_pos (by decide)]
    rfl
  simp only [announced]
  rw [post_eq, postNotice_free _ _ rfl, mapV_port]
  exact congrArg (fun r : LinkPort => r.queue.head?) takes

theorem handedOver_told (entry : Instant) (s : State) : Told (announced entry s) (handedOver entry s) := by
  have posted := Told.foldl (fun s n => Told.postNotice n s) s.warm.notices (announced entry s)
  unfold handedOver
  dsimp only
  generalize s.warm.notices.foldl (fun s n => postNotice n s) (announced entry s) = u at posted ⊢
  split
  · refine posted.trans ⟨fun _ => rfl, fun p n front => ?_⟩
    rw [mapV_port]
    exact front
  · exact posted

theorem bellsCompleted_told (s : State) : Told s (bellsCompleted s) :=
  (Told.foldl (fun s b => bellCompletion_told b s) allBells s).trans
    (Told.foldl (fun s b => .of_frame (swingCompletion_frame s b)) allBells _)

theorem completeWarmReset_told (entry : Instant) (s : State) : Told (announced entry s) (completeWarmReset entry s) := by
  rw [completeWarmReset_eq]
  have cal (u : State) : Told u (calendarHeld u) := .of_frame (withCal_frame u _)
  have dials (u : State) : Told u (dialsFull u) := .foldl (fun s d => fullCause_told d s) allFour u
  exact ((((handedOver_told entry s).trans (bellsCompleted_told _)).trans (cal _)).trans (dials _)).trans
    (lightsSettled_told _)

/-! ### What the completion leaves in each block -/

theorem handedOver_frame (entry : Instant) (s : State) : Frame [.hold, .notices, .ports] s (handedOver entry s) := by
  have ended : Frame [.hold, .notices, .ports] s (announced entry s) :=
    ((withWarm_frame s {}).mono (by decide)).trans ((post_frame _ _ _ _).mono (by decide))
  have posted := ended.trans ((Frame.foldl (fun s n => postNotice_frame s n) s.warm.notices _).mono (by decide))
  unfold handedOver
  dsimp only
  generalize s.warm.notices.foldl (fun s n => postNotice n s) (announced entry s) = u at posted ⊢
  split
  · exact posted.trans ((withPorts_frame u _).mono (by decide))
  · exact posted

theorem bellsCompleted_frame (s : State) : Frame [.guards, .swings, .sessions, .notices, .ports] s (bellsCompleted s) :=
  (Frame.foldl (fun s b => bellCompletion_frame s b) allBells s).trans
    ((Frame.foldl (fun s b => swingCompletion_frame s b) allBells _).mono (by decide))

theorem calendarHeld_frame (s : State) : Frame [.cal] s (calendarHeld s) := withCal_frame s _

/-- The channels derived and the deadlines of the held blocks taken move lights alone. -/
theorem lightsSettled_frame (s : State) : Frame [.lights, .notices, .ports] s (heldDeadlines (lightsCompletion s)) :=
  (lightsCompletion_frame s).trans (heldDeadlines_frame _)

theorem completeWarmReset_warm (entry : Instant) (s : State) : (completeWarmReset entry s).warm = {} := by
  have told := completeWarmReset_told entry s
  rw [told.warm (by rw [announced_warm]), announced_warm]

/-- Once the bells are completed no guard and no swing moves. -/
theorem completeWarmReset_bells (entry : Instant) (s : State) :
    Frame [.dials, .cal, .lights, .notices, .ports] (bellsCompleted (handedOver entry s)) (completeWarmReset entry s) := by
  rw [completeWarmReset_eq]
  exact ((calendarHeld_frame _).mono (by decide)).trans
    (((dialsFull_frame _).mono (by decide)).trans ((lightsSettled_frame _).mono (by decide)))

theorem completeWarmReset_settle (entry : Instant) (b : Fin 16) (s : State) :
    ((completeWarmReset entry s).swing b).settleDeadline = some (s.now + (s.bell b).config.settle * 1000) := by
  have read := (Frame.foldl (fun s b => bellCompletion_frame s b) allBells (handedOver entry s))
  have settled := swingsCompleted_settle b (allBells.foldl (fun s b => bellCompletion b s) (handedOver entry s))
  rw [read.now, read.config b, (handedOver_frame entry s).now, (handedOver_frame entry s).config b] at settled
  rw [State.swing, (completeWarmReset_bells entry s).swings]
  exact settled

theorem completeWarmReset_contact (entry : Instant) {b : Fin 16} (c : Contact)
    (idle : ((s.bell b).guard.contact c).since = none) :
    ((completeWarmReset entry s).bell b).guard.contact c = (s.bell b).guard.contact c := by
  have same := (handedOver_frame entry s).guard b
  have settled := (Frame.foldl (fun s b => swingCompletion_frame s b) allBells
    (allBells.foldl (fun s b => bellCompletion b s) (handedOver entry s))).guard b
  have read := bellsCompleted_contact (s := handedOver entry s) c (same ▸ idle)
  rw [(completeWarmReset_bells entry s).guard b, bellsCompleted, settled, read, same]

theorem completeWarmReset_cal (entry : Instant) (s : State) :
    (completeWarmReset entry s).cal = { s.cal with heldUntil := s.civilNow.map Label.dayMinute } := by
  have told := handedOver_frame entry s
  have bells := bellsCompleted_frame (handedOver entry s)
  have cal : (bellsCompleted (handedOver entry s)).cal = s.cal := bells.cal.trans told.cal
  have now : (bellsCompleted (handedOver entry s)).civilNow = s.civilNow :=
    civilNow_congr (congrArg TimeBase.label (bells.tb.trans told.tb)) (bells.civil.trans told.civil)
  rw [completeWarmReset_eq, (lightsSettled_frame _).cal, (dialsFull_frame _).cal, calendarHeld, cal, now]

theorem completeWarmReset_dial (entry : Instant) (d : Fin 4) (s : State) :
    DecisionOnly (s.dial d) ((completeWarmReset entry s).dial d) := by
  have before := (((handedOver_frame entry s).mono (qs := [.guards, .swings, .sessions, .cal, .hold, .notices, .ports])
    (by decide)).trans ((bellsCompleted_frame _).mono (by decide))).trans ((calendarHeld_frame _).mono (by decide))
  have decides := dialsFull_decisionOnly d (calendarHeld (bellsCompleted (handedOver entry s)))
  have same : (calendarHeld (bellsCompleted (handedOver entry s))).dial d = s.dial d :=
    congrArg (fun v => v[d]) before.dials
  rw [same] at decides
  rw [completeWarmReset_eq, State.dial, State.dial, (lightsSettled_frame _).dials]
  exact decides

theorem completeWarmReset_front (entry : Instant) {p : Port} (empty : (s.port p).queue = [])
    (routed : (s.port p).routing.getLsbD 7 = true) :
    ((completeWarmReset entry s).port p).queue.head? = some (doneNotice entry s) :=
  (completeWarmReset_told entry s).front p _ (announced_front entry empty routed)

/-- The state as the channels meet the completion. -/
def beforeLights (entry : Instant) (s : State) : State := dialsFull (calendarHeld (bellsCompleted (handedOver entry s)))

theorem completeWarmReset_lights (entry : Instant) (s : State) :
    completeWarmReset entry s = heldDeadlines (lightsCompletion (beforeLights entry s)) := completeWarmReset_eq entry s

theorem beforeLights_frame (entry : Instant) (s : State) :
    Frame [.dials, .guards, .swings, .sessions, .cal, .hold, .notices, .ports] s (beforeLights entry s) :=
  ((((handedOver_frame entry s).mono (by decide)).trans ((bellsCompleted_frame _).mono (by decide))).trans
    ((calendarHeld_frame _).mono (by decide))).trans ((dialsFull_frame _).mono (by decide))

theorem completeWarmReset_light (entry : Instant) (c : Fin 8) (s : State) :
    ChannelKept (({ s.light c with resetLeft := none } : Channel).tested (overrideReached c s))
      ((completeWarmReset entry s).light c) := by
  have frame := beforeLights_frame entry s
  have row : (beforeLights entry s).light c = s.light c := congrArg (fun v => v[c]) frame.lights
  have due := overrideReached_congr (c := c) (civilNow_congr (congrArg TimeBase.label frame.tb) frame.civil)
    (congrArg Channel.expiry row)
  have kept := lightsSettled_kept c (beforeLights entry s)
  rw [row, due] at kept
  rw [completeWarmReset_lights]
  exact kept

theorem completeWarmReset_restsOn (entry : Instant) (c : Fin 8) (s : State) :
    RestsOn s.now ((completeWarmReset entry s).light c) := by
  have free := completeWarmReset_free entry s
  rw [completeWarmReset_lights, (heldDeadlines_frame _).warmHeld] at free
  have frame := beforeLights_frame entry s
  have lights := lightsCompletion_frame (beforeLights entry s)
  have rests := heldDeadlines_restsOn c free
  rw [lights.now, frame.now] at rests
  rw [completeWarmReset_lights]
  exact rests

theorem warmResetCompletion_due {x y : Instant} (held : s.warm.held = some y) (since : s.warm.since = some x)
    (due : x + 10 ≤ s.now) : warmResetCompletion s = completeWarmReset y s := by
  unfold warmResetCompletion
  rw [held]
  exact if_pos (reached_map since due)

theorem warmResetCompletion_idle (idle : s.warm.held = none ∨ s.warm.since = none ∨ ∃ x, s.warm.since = some x ∧ s.now < x + 10) :
    warmResetCompletion s = s := by
  unfold warmResetCompletion
  split
  · rfl
  next y held =>
    rcases idle with free | early
    · rw [held] at free
      nomatch free
    · exact if_neg (by rw [resetTimed_eq_false early]; exact Bool.false_ne_true)

/-- Settles O59: the entry record by record, the completion step by step, and neither before its time. -/
theorem warmReset : Obligations.WarmReset := by
  unfold Obligations.WarmReset
  refine ⟨fun s x free since due => ?entry, fun s x y held since due => ?completion,
    fun s idle => congrArg Host.Outcome.next (warmResetEntry_idle idle),
    fun s idle => congrArg Host.Outcome.next (warmResetCompletion_idle idle)⟩
  case entry =>
    have runs : exec .warmResetEntry s = .next (enterWarmReset s) :=
      congrArg Host.Outcome.next (warmResetEntry_due free since due)
    have warm := enterWarmReset_warm s
    have kept := enterWarmReset_tunes s
    refine ⟨_, runs, by rw [warm], by rw [warm], by rw [warm], allOff_iff.2 (enterWarmReset_outputsOff s),
      enterWarmReset_port s, enterWarmReset_attn s, enterWarmReset_dial s, enterWarmReset_bell s, enterWarmReset_swing s,
      fun n => (enterWarmReset_session s n).trans (Session.warmReset_eq _), enterWarmReset_tune s, kept.queue,
      kept.heldQuarter, enterWarmReset_toll s, kept.ref,
      fun c => (enterWarmReset_light c).trans (Channel.warmReset_eq _ _), enterWarmReset_frame_exact s⟩
  case completion =>
    have runs : exec .warmResetCompletion s = .next (completeWarmReset y s) :=
      congrArg Host.Outcome.next (warmResetCompletion_due held since due)
    refine ⟨_, runs, completeWarmReset_warm y s, fun b => completeWarmReset_settle y b s,
      fun p empty routed => completeWarmReset_front y empty routed, completeWarmReset_cal y s,
      fun d => completeWarmReset_dial y d s,
      fun b => ⟨completeWarmReset_contact y .engaged, completeWarmReset_contact y .disengaged⟩, fun c => ?_,
      completeWarmReset_frame s y⟩
    have kept := completeWarmReset_light y c s
    obtain ⟨configured, kind, warmUp, restrike, follow, sense, revision⟩ := Channel.terms_iff.1
      (kept.terms.trans (Channel.tested_terms _ _))
    refine ⟨configured, kind, warmUp, restrike, follow, sense, revision,
      kept.resetLeft.trans (Channel.tested_resetLeft _ _), fun early => ?_, fun due => ?_, fun failed => ?_,
      completeWarmReset_restsOn y c s⟩
    · rw [early] at kept
      exact kept.override
    · rw [due] at kept
      exact kept.override
    · exact kept.failed ((Channel.tested_state _ _).trans failed)

end

end Sys2Proof.Machine
end
